-- ==== Sys2Proof/Word.lean ====
section
/-! DEFINITION. The numberings of spec/00_scope.md ("Numbering") as types: each bound is the
numbering's own, so a value out of range cannot be written down. -/

namespace Sys2Proof

/-- One octet of a line, a record or a code (00, "Conventions"). -/
abbrev Octet := BitVec 8

/-- The 11 stages of a probe register; stage i is bit i - 1 (R83). -/
abbrev Stages := BitVec 11

/-- Path ports PP0 to PP7. -/
abbrev Port := Fin 8

/-- Station trunks ST0 to ST7. -/
abbrev Trunk := Fin 8

/-- Station slots 0 to 15 of one trunk. -/
abbrev StationSlot := Fin 16

/-- Circuits C0 to C127. -/
abbrev Circuit := Fin 128

/-- A traffic slot of a path link. Slot n of the spec, 1 to 30, is the value n - 1. -/
abbrev Slot := Fin 30

/-- Offsets, effective offsets and shifts: 0 to 29. -/
abbrev Offset := Fin 30

/-- Descriptors D0 to D255. -/
abbrev Desc := Fin 256

/-- Hosts 0 to 3. -/
abbrev HostId := Fin 4

/-- Switch groups 0 to 3. -/
abbrev Group := Fin 4

/-- Authority tiers; tier 0 is the most trusted. -/
abbrev Tier := Fin 4

/-- Sweep priorities; class 0 is served first (R1). -/
abbrev Class := Fin 4

/-- Urgencies and masks: 0 to 7. -/
abbrev Urgency := Fin 8

end Sys2Proof
end

