-- ==== Sys2Proof/Config.lean ====
section
/-! DEFINITION. What the spec leaves open (free values, opaque constants of which nothing can be
proved) and the names of the 22 global parameters with their defaults (R168). -/

namespace Sys2Proof

/-- Free value (log 15): bits 4 to 7 of the status octet of a response, of which R165 and the record
layouts say nothing. -/
opaque Config.statusSpare : BitVec 4

/-- Free value (log 15): bits 5 to 7 of the flags octet of the route report. -/
opaque Config.routeFlagsSpare : BitVec 3

/-- Free value (log 15): bits 3 to 7 of the flags octet of the port report. -/
opaque Config.portFlagsSpare : BitVec 5

/-- Free value (log 32): bit 2 of the flags octet of the port report for a port outside LOOPBACK, which has
no loopback ready setting (R91). -/
opaque Config.noSettingBit : Bool

/-- Free value (log 17): the value octet that READ SWEEP reports for a template whose offset mode is
not VALUE, from the octet that the BULK ROUTE carried. -/
opaque Config.unusedBulkValue : Octet → Octet

/-- Free value (log 24): the "n or base" octet that a descriptor record in a response carries for a POOL
descriptor. -/
opaque Config.poolSlotOctet : Desc → Octet

/-- The 22 global parameters, in the order of their identifiers (R168). -/
inductive Param where
  | faeWeight | ccfWeight | ferdWeight | probeFailWeight
  | decayInterval | decayFactor
  | suspectAt | downAt | recoverBelow | recoverTicks
  | probeRequired | probeLen | probeMaxErr
  | groupWindow | groupHold | drain | failBackEnable | failBackDelay
  | cleanHoldLimit | blockEndCode | engagedCode | idleFill
deriving DecidableEq, Repr

namespace Param

/-- The identifier of a parameter (R168, column Id). -/
def id : Param → Fin 22
  | faeWeight => 0 | ccfWeight => 1 | ferdWeight => 2 | probeFailWeight => 3
  | decayInterval => 4 | decayFactor => 5
  | suspectAt => 6 | downAt => 7 | recoverBelow => 8 | recoverTicks => 9
  | probeRequired => 10 | probeLen => 11 | probeMaxErr => 12
  | groupWindow => 13 | groupHold => 14 | drain => 15 | failBackEnable => 16 | failBackDelay => 17
  | cleanHoldLimit => 18 | blockEndCode => 19 | engagedCode => 20 | idleFill => 21

/-- The parameters in identifier order. -/
def all : List Param :=
  [faeWeight, ccfWeight, ferdWeight, probeFailWeight, decayInterval, decayFactor,
   suspectAt, downAt, recoverBelow, recoverTicks, probeRequired, probeLen, probeMaxErr,
   groupWindow, groupHold, drain, failBackEnable, failBackDelay,
   cleanHoldLimit, blockEndCode, engagedCode, idleFill]

/-- The parameter of an identifier, none above 21. -/
def ofId (n : Nat) : Option Param := all[n]?

/-- The default of a parameter (R168, column Default). -/
def default : Param → Nat
  | faeWeight => 40 | ccfWeight => 24 | ferdWeight => 200 | probeFailWeight => 1000
  | decayInterval => 32 | decayFactor => 4
  | suspectAt => 800 | downAt => 2000 | recoverBelow => 100 | recoverTicks => 16
  | probeRequired => 1 | probeLen => 4000 | probeMaxErr => 4
  | groupWindow => 500 | groupHold => 10000 | drain => 1 | failBackEnable => 1
  | failBackDelay => 30000
  | cleanHoldLimit => 2000 | blockEndCode => 0x03 | engagedCode => 0xE5 | idleFill => 0xFF

end Param

end Sys2Proof
end

