-- ==== Sys2Proof/Syntax.lean ====
section
/-! DEFINITION. The commands of the card: one constructor for each row of spec/opcode_table.json,
with the operands the model gives it, and the types of those operands. -/

namespace Sys2Proof

/-- A framed line of the card: a station trunk or a path link (03). -/
inductive Line where
  | trunk (t : Trunk)
  | path (p : Port)
deriving DecidableEq, Repr

/-- The measure of a line's transitions and gaps that its receiver keeps (R50, R53), in frame periods,
each count stopping at 8, which is 1 ms (log 9, log 10). -/
structure LineMeasure where
  /-- frame periods since the last period that carried a transition -/
  sinceTransition : Fin 9
  /-- consecutive frame periods that carried transitions, up to the present -/
  withoutGap : Fin 9
deriving DecidableEq, Repr

/-- The measures of all sixteen lines. -/
structure LineMeasures where
  trunks : Vector LineMeasure 8
  paths : Vector LineMeasure 8
deriving DecidableEq, Repr

/-- The strap block (R171): host and group of each port, tier of each host. -/
structure Straps where
  host : Vector HostId 8
  group : Vector Group 8
  tier : Vector Tier 4
deriving DecidableEq, Repr

/-- How far the request engine goes in one command (R163, R164; log 6). -/
inductive EnginePhase where
  /-- the engine takes the next request from its port's queue and holds it -/
  | take
  /-- the engine executes the request it holds, taking the next one first if it holds none -/
  | run
deriving DecidableEq, Repr

/-- A record that a decay tick reaches: a port's, or a group's (R65, R100). -/
inductive DecayRecord where
  | port (p : Port)
  | group (g : Group)
deriving DecidableEq, Repr

/-- The faults with which a walk may end (R27). -/
inductive FaultKind where
  | depth | withdrawn | tier
deriving DecidableEq, Repr

/-- An occurrence of an edge source with its detail (10.2). -/
inductive Occurrence where
  | pathDown (p : Port) (loopMark : Bool)
  | chainFault (c : Circuit) (d : Desc) (k : FaultKind)
  | groupSuspect (g : Group)
  | pathSuspect (p : Port) (loopMark : Bool)
  | forcedCutover (c : Circuit)
  | probeResult (p : Port) (errors : Nat) (pass : Bool)
  | pathUp (p : Port) (loopMark : Bool)
  | bulkDone (completed : Bool) (written skipped : Nat)
  | sweepIdle
deriving DecidableEq, Repr

/-- The commands: the steps of spec/opcode_table.json, in its order. -/
inductive Instr where
  /-- POWER_ON_RESET (R172): the straps as read, and the line measures at the end of the reset. -/
  | powerOnReset (straps : Straps) (lines : LineMeasures)
  /-- RESET_EXCHANGE (R172): the straps as read should the reset take effect within it. -/
  | resetExchange (phase : EnginePhase) (straps : Straps)
  /-- RESET_TAKES_EFFECT (R172): the straps as read. -/
  | resetTakesEffect (straps : Straps)
  /-- FRAME_PERIOD (R46): the order in which the ports' events of the period are taken (a port not
  named comes after those named, in number order), and the lines that carried transitions in it. -/
  | framePeriod (order : List Port) (trunkSignal pathSignal : BitVec 8)
  /-- STATION_FRAME (R52): the octets that arrive on a trunk in one frame period. -/
  | stationFrame (t : Trunk) (octets : List Octet)
  /-- PATH_FRAME (R52): the octets that arrive on a path link in one frame period. -/
  | pathFrame (p : Port) (octets : List Octet)
  | losOnset (l : Line)
  | losEnd (l : Line)
  | controlRecord (p : Port)
  | responseSent (p : Port)
  /-- DECAY_TICK (R66): the order in which the records take the tick (a record not named comes after
  those named). -/
  | decayTick (order : List DecayRecord)
  | stagedTimerExpiry (c : Circuit)
  | holdTimerExpiry (g : Group)
  | failBackExpiry (p : Port)
  | blockEndPassage (c : Circuit)
  | resolution
  | bulkStep
  | probeComplete
  | downEntry (p : Port)
  | upEntry (p : Port)
  | portDrain (p : Port)
  | groupDrain (g : Group)
  | occurrenceRecorded (o : Occurrence)
  | readRoute (phase : EnginePhase)
  | writeRoute (phase : EnginePhase)
  | readDescriptor (phase : EnginePhase)
  | writeDescriptor (phase : EnginePhase)
  | readPort (phase : EnginePhase)
  | setPortEnable (phase : EnginePhase)
  | setPortDisable (phase : EnginePhase)
  | setPortLoopbackOn (phase : EnginePhase)
  | setPortLoopbackOff (phase : EnginePhase)
  | setPortCeiling (phase : EnginePhase)
  | setPortClearCounts (phase : EnginePhase)
  | probePort (phase : EnginePhase)
  | inject (phase : EnginePhase)
  | readGroup (phase : EnginePhase)
  | readTrunk (phase : EnginePhase)
  | bulkRoute (phase : EnginePhase)
  | bulkAbort (phase : EnginePhase)
  | reviewRange (phase : EnginePhase)
  | readSweep (phase : EnginePhase)
  | takeEvent (phase : EnginePhase)
  | setMask (phase : EnginePhase)
  | setUrgency (phase : EnginePhase)
  | clearAlarm (phase : EnginePhase)
  | readParameters (phase : EnginePhase)
  | writeParameter (phase : EnginePhase)
  | unknownKind (phase : EnginePhase)
deriving DecidableEq, Repr

end Sys2Proof
end

