-- ==== Sys2Proof/Decode.lean ====
section
/-! DEFINITION. The command that a word of the opcode table's bits spells. No row of
spec/opcode_table.json gives bits: the hosts' requests are records of octets, which
Machine/Operands.lean reads. -/

namespace Sys2Proof

/-- No word spells a command, since no row of the table gives bits. -/
def decodeTableWord (_nbits _w : Nat) : Option Instr := none

end Sys2Proof
end

