-- ==== Sys2Proof/Machine/State.lean ====
section
/-! DEFINITION. Everything the spec says the card holds, block by block (00, "Block structure"), as plain
data, and its value right after a reset (R172). -/

namespace Sys2Proof.Machine

/-! ## Route store (chapter 1) -/

/-- A path: a traffic slot of a port (00, "Numbering"). -/
structure PathSlot where
  port : Port
  slot : Slot
deriving DecidableEq, Repr

/-- The current set of R3: current path, via and preferred, filled and emptied together. -/
structure CurrentSet where
  path : PathSlot
  via : Desc
  preferred : Bool
deriving DecidableEq, Repr

/-- The staged set of R3: staged path, staged via, staged preferred and the staged timer, which runs
exactly while the set is filled. -/
structure StagedSet where
  path : PathSlot
  via : Desc
  preferred : Bool
  /-- remaining milliseconds; 0 when the timer has run out and its expiry has not been taken (log 11) -/
  timer : Nat
  /-- whether a frame has begun since the staging, so that the slot exchange sees it (R131) -/
  seen : Bool
  /-- a block-end passage handed to the route store and not yet taken (R131) -/
  blockEndPassed : Bool
deriving DecidableEq, Repr

/-- The route states of R6, each with the path sets that it fills: a circuit has a current path exactly
when ROUTED or STAGED, and a staged path exactly when STAGED. -/
inductive Standing where
  | idle
  | barred
  | displaced
  | routed (cur : CurrentSet)
  | staged (cur : CurrentSet) (move : StagedSet)
  | stranded
deriving DecidableEq, Repr

/-- How a planned move is carried out (R1). -/
inductive Discipline where
  | prompt | clean
deriving DecidableEq, Repr

/-- The programmed fields of a route entry (R1). -/
structure RouteFields where
  head : Option Desc
  tier : Tier
  cls : Class
  discipline : Discipline
  offset : Offset
deriving DecidableEq, Repr

/-- A route entry (R1). -/
structure Route where
  standing : Standing
  fields : RouteFields
  placed : Bool
  moves : Nat
  stationLost : Bool
deriving DecidableEq, Repr

/-- The role in which a slot is held (R9). -/
inductive Role where
  | current | staged
deriving DecidableEq, Repr

/-- Who holds a slot, and why (R9). -/
structure Holder where
  circuit : Circuit
  role : Role
deriving DecidableEq, Repr

/-! ## Descriptor store (chapter 2) -/

/-- How the slot of a PATH descriptor is chosen (R21). -/
inductive SlotRule where
  | fixed (n : Slot)
  | offset (base : Slot)
  | pool
deriving DecidableEq, Repr

/-- The fields of a descriptor's own kind (R21). -/
inductive DescKind where
  | path (port : Port) (rule : SlotRule) (alternative : Option Desc)
  | divert (target : Desc) (shift : Offset)
deriving DecidableEq, Repr

/-- A descriptor (R21). -/
structure Descriptor where
  kind : DescKind
  tier : Tier
  withdrawn : Bool
deriving DecidableEq, Repr

/-! ## Receivers (chapter 3) -/

inductive RxState where
  | noSignal | hunting | aligned
deriving DecidableEq, Repr

/-- What the receiver of a trunk and that of a port have in common (3.2). -/
structure Framer where
  state : RxState
  badRun : Nat
  /-- the position in the frame of the next octet, while ALIGNED -/
  pos : Nat
  /-- while HUNTING, which of the last octets (newest first, at most one frame of them) were good
  alignment octets: the candidates of R51 -/
  candidates : List Bool
  measure : LineMeasure
deriving DecidableEq, Repr

/-- The receiver of a path port (3.2). -/
structure PathRx where
  framer : Framer
  farEndReady : Bool
  formRun : Nat
  /-- whether the frame period began with the receiver HUNTING and it has not entered ALIGNED in it
  (R55) -/
  beganHunting : Bool
deriving DecidableEq, Repr

/-! ## Control slot (chapter 11) -/

/-- The states of the control receiver, with the length and the body octets taken (R160). -/
inductive ControlRx where
  | hunt
  | length
  | body (len : Nat) (got : List Octet)
  | check (len : Nat) (got : List Octet)
deriving DecidableEq, Repr

/-- How a control record ended (R161): refused at its length octet, or whole at its check octet. -/
inductive RecordEnd where
  | lengthRefused
  | whole (len : Nat) (body : List Octet) (check : Octet)
deriving DecidableEq, Repr

/-- The control slot of one port (R160 to R162). -/
structure Control where
  rx : ControlRx
  /-- records that have ended and whose CONTROL_RECORD has not been taken, oldest first -/
  ended : List RecordEnd
  /-- bodies of the requests waiting, oldest first -/
  requests : List (List Octet)
  /-- bodies of the responses waiting, oldest first; the oldest is in transmission -/
  responses : List (List Octet)
  /-- octets of the oldest response that have been sent -/
  sent : Nat
  overrunFlag : Bool
deriving DecidableEq, Repr

/-! ## Health monitor (chapters 4 and 5) -/

/-- The test verdict of a looped port (R91). -/
inductive Verdict where
  | up | suspect | down
deriving DecidableEq, Repr

/-- The port states of R61. The loopback ready setting and the test verdict exist in LOOPBACK alone
(R77, R91). -/
inductive PortState where
  | disabled | down | awaitProbe | probing | up | suspect
  | loopback (ready : Bool) (verdict : Verdict)
deriving DecidableEq, Repr

/-- The six counters of a port record (R75). -/
structure Counts where
  fae : Nat
  ccf : Nat
  ferd : Nat
  los : Nat
  down : Nat
  overrun : Nat
deriving DecidableEq, Repr

/-- A port record (R61). -/
structure PortRecord where
  state : PortState
  h : Nat
  q : Nat
  losHold : Bool
  counts : Counts
  ceiling : Nat
  /-- the fail-back timer: none when stopped, else the remaining milliseconds; 0 when it has run out
  and its expiry has not been taken (log 11) -/
  failBack : Option Nat
deriving DecidableEq, Repr

/-! ## Probe checker (chapter 5) -/

inductive ProbeKind where
  | recovery | demand
deriving DecidableEq, Repr

structure ProbeEntry where
  port : Port
  kind : ProbeKind
deriving DecidableEq, Repr

/-- The checker state of R84, with the port and the kind of the entry taken. -/
inductive CheckerState where
  | idle
  | seeding (e : ProbeEntry)
  | counting (e : ProbeEntry)
deriving DecidableEq, Repr

/-- The record of the probe checker and the probe queue (R84). -/
structure Checker where
  state : CheckerState
  generator : Stages
  check : Stages
  /-- the seed octets taken, oldest first -/
  seeds : List Octet
  compared : Nat
  errors : Nat
  length : Nat
  limit : Nat
  queue : List ProbeEntry
  /-- whether a frame period has begun since the entry was taken (R85, R86) -/
  started : Bool
  /-- the slot 31 octet delivered to the checker in this frame period -/
  returned : Option Octet
deriving DecidableEq, Repr

/-! ## Group monitor (chapter 6) -/

inductive GroupState where
  | clear | suspect
deriving DecidableEq, Repr

/-- A switch-group record (R96). -/
structure GroupRecord where
  state : GroupState
  /-- the member port of the last DOWN entry and the millisecond count at which it was taken -/
  lastDown : Option (Port × Nat)
  /-- the hold timer: none when stopped, else the remaining milliseconds; 0 when it has run out and its
  expiry has not been taken (log 11) -/
  hold : Option Nat
deriving DecidableEq, Repr

/-! ## Sweep engine (chapter 7) -/

inductive EngineState where
  | idle | running
deriving DecidableEq, Repr

/-- The sweep engine (R109). The queue is held as its membership: its order is a function of the route
entries as they stand (R110), and `sweepQueue` is that order. -/
structure Sweep where
  state : EngineState
  queued : Vector Bool 128
  stranded : Vector Bool 128
deriving DecidableEq, Repr

/-! ## Bulk walker (chapter 9) -/

/-- The service of a WRITE ROUTE (R15). -/
inductive Service where
  | inService | barred | idle
deriving DecidableEq, Repr

/-- The offset mode of a template (R140). -/
inductive OffsetMode where
  | keep | value (v : Offset) | stationSlot
deriving DecidableEq, Repr

/-- The template of a bulk walk (R140). -/
structure Template where
  service : Service
  head : Option Desc
  tier : Tier
  cls : Class
  discipline : Discipline
  mode : OffsetMode
  /-- the value octet as the request carried it; the steps read it with VALUE alone -/
  valueOctet : Octet
deriving DecidableEq, Repr

/-- The extents, template and originator of the walk last accepted (R140). -/
structure WalkOrder where
  trunkFirst : Trunk
  trunkLast : Trunk
  slotFirst : StationSlot
  slotLast : StationSlot
  template : Template
  originator : HostId
  originatorTier : Tier
deriving DecidableEq, Repr

inductive WalkerState where
  | idle | walking
deriving DecidableEq, Repr

/-- The walk record (R140). -/
structure Walker where
  state : WalkerState
  order : Option WalkOrder
  total : Nat
  cursor : Option (Trunk × StationSlot)
  written : Nat
  skipped : Nat
  /-- frame periods begun whose step has not been taken (R143, log 23) -/
  stepsDue : Nat
deriving DecidableEq, Repr

/-! ## Attention controller (chapter 10) -/

/-- The pending state of a latest-and-count source (R153). -/
structure Tally (δ : Type) where
  latest : Option δ
  count : Nat
deriving DecidableEq, Repr

/-- A host record (R150), less the tier, which is the host's tier strap and is held there. A set of
ports is indexed by 2 × port, plus 1 for the marked member, which is the order of R152. -/
structure HostRecord where
  mask : Urgency
  /-- the urgency of source n, 1 to 11, at index n - 1 -/
  urgency : Vector Urgency 11
  pathDown : Vector Bool 16
  pathSuspect : Vector Bool 16
  pathUp : Vector Bool 16
  groupSuspect : Vector Bool 4
  chainFault : Tally (Circuit × Desc × FaultKind)
  forcedCutover : Tally Circuit
  probeResult : Tally (Port × Nat × Bool)
  /-- BULK DONE: the latest detail while its flag is set -/
  bulkDone : Option (Bool × Nat × Nat)
  sweepIdle : Bool
  latch : Bool
deriving DecidableEq, Repr

/-! ## Request engine (chapter 11) and reset (chapter 12) -/

/-- A request that the engine has taken and not yet executed (R163). -/
structure HeldRequest where
  port : Port
  body : List Octet
  /-- whether its port has stopped serving its control slot since it was taken (R164) -/
  orphaned : Bool
deriving DecidableEq, Repr

/-- How far an accepted RESET EXCHANGE has come (R172). -/
inductive ResetPhase where
  | none
  /-- its response waits in the response queue of the port -/
  | waiting (p : Port)
  /-- an event that makes the reset take effect has been taken -/
  | due
deriving DecidableEq, Repr

/-- The request engine (R163). -/
structure Engine where
  /-- the last port served; none stands before PP0 -/
  pointer : Option Port
  held : Option HeldRequest
  resetPhase : ResetPhase
deriving DecidableEq, Repr

/-! ## Timebase (R65, R172) -/

structure Timebase where
  /-- frame periods since the last reset; eight make a millisecond (log 9) -/
  frames : Nat
  /-- milliseconds since the last decay tick was given -/
  sinceDecay : Nat
  /-- decay ticks given and not yet taken (log 23) -/
  decayDue : Nat
deriving DecidableEq, Repr

/-! ## Slot exchange (R7, R8) and the frames on the lines (R46 to R48) -/

/-- What the slot exchange sees of a circuit's route: the rows of R7. -/
inductive SlotView where
  | idle
  | engaged
  | carried (path : PathSlot)
deriving DecidableEq, Repr

/-- The octets of a path frame that stand from its start: its alignment form (R47), its slot 0 octet
(R48, R162) and, while the checker runs on the port, its slot 31 octet (R85). -/
structure FrameHead where
  alignment : Octet
  control : Octet
  probe : Option Octet
deriving DecidableEq, Repr

structure Exchange where
  /-- route states and current paths as they stood when the frame began (R8) -/
  view : Vector SlotView 128
  /-- the occupancy map as it stood when the frame began (R8) -/
  map : Vector (Option Holder) 240
  /-- per circuit, the station octet that the frame sends on the current path -/
  toHost : Vector (Option Octet) 128
  /-- per circuit, the host octet that the frame gives the station slot -/
  toStation : Vector (Option Octet) 128
  heads : Vector FrameHead 8
  /-- the last whole frame transmitted on each station trunk; empty before the first -/
  txTrunk : Vector (List Octet) 8
  /-- the last whole frame transmitted on each path link; empty before the first -/
  txPath : Vector (List Octet) 8
deriving DecidableEq, Repr

/-! ## Events between blocks -/

/-- Events that one block has handed to another and that the other has not yet taken (R97, R100, R102,
R103, R151; log 5). -/
structure Handed where
  occurrences : List Occurrence
  downEntries : List Port
  upEntries : List Port
  portDrains : List Port
  groupDrains : List Group
deriving DecidableEq, Repr

/-- The card. -/
structure State where
  routes : Vector Route 128
  /-- the occupancy map (R9), indexed by 30 × port + (slot - 1) -/
  occ : Vector (Option Holder) 240
  used : Vector Nat 8
  descs : Vector Descriptor 256
  trunks : Vector Framer 8
  rx : Vector PathRx 8
  ctl : Vector Control 8
  ports : Vector PortRecord 8
  checker : Checker
  groups : Vector GroupRecord 4
  sweep : Sweep
  walker : Walker
  hosts : Vector HostRecord 4
  engine : Engine
  /-- the stored parameters, by identifier (R168) -/
  params : Vector Nat 22
  /-- the straps as read at the last reset (R171) -/
  straps : Straps
  time : Timebase
  exch : Exchange
  handed : Handed
  /-- the commands waiting, first in, first out -/
  pending : List Instr
deriving DecidableEq, Repr

/-- Why the card stops: no event of the spec stops it, so there is no reason (log 1). -/
inductive Fault where
deriving DecidableEq, Repr

/-- Why a command is refused. -/
inductive Refusal where
  /-- Raised by no command: every row of the table has its meaning. Safe, were it raised. -/
  | notModelled (mnemonic : String)
deriving DecidableEq, Repr

/-! ## Reset values -/

/-- A line carries signal at a moment when it has carried transitions within the 1 ms before it
(R50). -/
def carriesSignal (m : LineMeasure) : Bool := decide (m.sinceTransition.val < 8)

/-- The receiver state in which a receiver starts on a line (R50, R57). -/
def startState (m : LineMeasure) : RxState := if carriesSignal m then .hunting else .noSignal

/-- A receiver that starts on its line (R50). -/
def Framer.start (m : LineMeasure) : Framer :=
  { state := startState m, badRun := 0, pos := 0, candidates := [], measure := m }

/-- A port receiver that starts on its line (R50, R57). -/
def PathRx.start (m : LineMeasure) : PathRx :=
  { framer := Framer.start m, farEndReady := false, formRun := 0,
    beganHunting := decide (startState m = .hunting) }

/-- R1, R2. -/
def Route.reset : Route :=
  { standing := .idle
    fields := { head := none, tier := 3, cls := 3, discipline := .prompt, offset := 0 }
    placed := false, moves := 0, stationLost := true }

/-- R24: PATH, PP0, FIXED 1, no alternative, tier 3, withdrawn. -/
def Descriptor.reset : Descriptor :=
  { kind := .path 0 (.fixed 0) none, tier := 3, withdrawn := true }

/-- R164. -/
def Control.reset : Control :=
  { rx := .hunt, ended := [], requests := [], responses := [], sent := 0, overrunFlag := false }

/-- R61. -/
def PortRecord.reset : PortRecord :=
  { state := .down, h := 0, q := 0, losHold := false
    counts := { fae := 0, ccf := 0, ferd := 0, los := 0, down := 0, overrun := 0 }
    ceiling := 30, failBack := none }

/-- All eleven stages of a probe register at one (R84). -/
def Stages.ones : Stages := 0x7FF#11

/-- R84. -/
def Checker.reset : Checker :=
  { state := .idle, generator := Stages.ones, check := Stages.ones, seeds := []
    compared := 0, errors := 0, length := 4000, limit := 4, queue := []
    started := false, returned := none }

/-- R96. -/
def GroupRecord.reset : GroupRecord := { state := .clear, lastDown := none, hold := none }

/-- R109. -/
def Sweep.reset : Sweep :=
  { state := .idle, queued := Vector.replicate 128 false, stranded := Vector.replicate 128 false }

/-- R140. -/
def Walker.reset : Walker :=
  { state := .idle, order := none, total := 0, cursor := none, written := 0, skipped := 0
    stepsDue := 0 }

/-- R150. -/
def HostRecord.reset : HostRecord :=
  { mask := 0, urgency := Vector.replicate 11 0
    pathDown := Vector.replicate 16 false, pathSuspect := Vector.replicate 16 false
    pathUp := Vector.replicate 16 false, groupSuspect := Vector.replicate 4 false
    chainFault := { latest := none, count := 0 }
    forcedCutover := { latest := none, count := 0 }
    probeResult := { latest := none, count := 0 }
    bulkDone := none, sweepIdle := false, latch := false }

/-- R163, R164. -/
def Engine.reset : Engine := { pointer := none, held := none, resetPhase := .none }

/-- R65, R172. -/
def Timebase.reset : Timebase := { frames := 0, sinceDecay := 0, decayDue := 0 }

/-- The slot exchange as the first frame after a reset begins: every circuit IDLE, every slot free, every
port DOWN and not serving (R2, R9, R47, R48). -/
def Exchange.reset : Exchange :=
  { view := Vector.replicate 128 .idle, map := Vector.replicate 240 none
    toHost := Vector.replicate 128 none, toStation := Vector.replicate 128 none
    heads := Vector.replicate 8 { alignment := 0x9B, control := 0x00, probe := none }
    txTrunk := Vector.replicate 8 [], txPath := Vector.replicate 8 [] }

def Handed.none : Handed :=
  { occurrences := [], downEntries := [], upEntries := [], portDrains := [], groupDrains := [] }

/-- The defaults of the 22 parameters (R168). -/
def defaultParams : Vector Nat 22 := ⟨(Param.all.map Param.default).toArray, rfl⟩

/-- The card as a reset leaves it (R172), from the straps that the reset reads (R171) and the line
measures that the receivers keep through it (R50). -/
def State.fresh (straps : Straps) (lines : LineMeasures) (pending : List Instr) : State :=
  { routes := Vector.replicate 128 Route.reset
    occ := Vector.replicate 240 none
    used := Vector.replicate 8 0
    descs := Vector.replicate 256 Descriptor.reset
    trunks := Vector.ofFn fun t => Framer.start lines.trunks[t]
    rx := Vector.ofFn fun p => PathRx.start lines.paths[p]
    ctl := Vector.replicate 8 Control.reset
    ports := Vector.replicate 8 PortRecord.reset
    checker := Checker.reset
    groups := Vector.replicate 4 GroupRecord.reset
    sweep := Sweep.reset
    walker := Walker.reset
    hosts := Vector.replicate 4 HostRecord.reset
    engine := Engine.reset
    params := defaultParams
    straps := straps
    time := Timebase.reset
    exch := Exchange.reset
    handed := Handed.none
    pending := pending }

/-- The strap block of `State.reset`: every jumper position 0. DESIGN CHOICE (log 3): the spec leaves
the straps to the card's installer. Unsafe. -/
def Straps.zero : Straps :=
  { host := Vector.replicate 8 0, group := Vector.replicate 8 0, tier := Vector.replicate 4 0 }

/-- The line measures of `State.reset`: no line has carried a transition. DESIGN CHOICE (log 4): the
spec leaves them to the lines. Unsafe. -/
def LineMeasures.quiet : LineMeasures :=
  { trunks := Vector.replicate 8 { sinceTransition := 8, withoutGap := 0 }
    paths := Vector.replicate 8 { sinceTransition := 8, withoutGap := 0 } }

/-- The machine right after reset: `State.fresh` with the straps and line measures that logs 3 and 4
name, and no command waiting. -/
def State.reset : State := State.fresh Straps.zero LineMeasures.quiet []

end Sys2Proof.Machine
end

