-- ==== Sys2Proof/Machine/Ops.lean ====
section
/-! DEFINITION. Named reads and writes of the card's state, counting, parameters and the raising of
occurrences. Every other file of Machine/ reads and writes state through these. -/

namespace Sys2Proof.Machine

/-! ## Counting -/

/-- A saturating count stops at the top of its range (00, "Conventions"). -/
def satAdd (top n k : Nat) : Nat := min top (n + k)

/-- One more, stopping at 65535 (R75). -/
def bump16 (n : Nat) : Nat := satAdd 65535 n 1

/-- One more, stopping at 255 (R4, R153). -/
def bump8 (n : Nat) : Nat := satAdd 255 n 1

/-! ## Numberings -/

/-- The index of a path's record in the occupancy map. -/
def PathSlot.index (q : PathSlot) : Fin 240 := ⟨30 * q.port.val + q.slot.val, by omega⟩

/-- The path of a record of the occupancy map. -/
def PathSlot.ofIndex (i : Fin 240) : PathSlot :=
  { port := ⟨i.val / 30, by omega⟩, slot := ⟨i.val % 30, by omega⟩ }

/-- Every circuit, in number order. -/
def allCircuits : List Circuit := List.finRange 128

/-- Every port, in number order. -/
def allPorts : List Port := List.finRange 8

/-- The circuit at a trunk's station slot: 16 × trunk + slot (00, "Numbering"). -/
def circuitAt (t : Trunk) (s : StationSlot) : Circuit := ⟨16 * t.val + s.val, by omega⟩

/-- The trunk of a circuit. -/
def trunkOf (c : Circuit) : Trunk := ⟨c.val / 16, by omega⟩

/-- The station slot of a circuit. -/
def stationSlotOf (c : Circuit) : StationSlot := ⟨c.val % 16, by omega⟩

/-! ## Reads and writes of the tables -/

namespace State

def route (s : State) (c : Circuit) : Route := s.routes[c]
def setRoute (s : State) (c : Circuit) (r : Route) : State := { s with routes := s.routes.set c r }

/-- The holder of a slot, none when it is free (R9). -/
def holder (s : State) (q : PathSlot) : Option Holder := s.occ[q.index]
def usedCount (s : State) (p : Port) : Nat := s.used[p]

/-- R10: record the holder of a slot and count it. -/
def holdSlot (s : State) (q : PathSlot) (h : Holder) : State :=
  { s with occ := s.occ.set q.index (some h), used := s.used.set q.port (s.used[q.port] + 1) }

/-- R11: free a slot and count it. -/
def releaseSlot (s : State) (q : PathSlot) : State :=
  { s with occ := s.occ.set q.index none, used := s.used.set q.port (s.used[q.port] - 1) }

/-- R10: a held slot's record takes the CURRENT role, its port's used count unchanged. -/
def makeCurrent (s : State) (q : PathSlot) (c : Circuit) : State :=
  { s with occ := s.occ.set q.index (some { circuit := c, role := .current }) }

def desc (s : State) (d : Desc) : Descriptor := s.descs[d]
def setDesc (s : State) (d : Desc) (x : Descriptor) : State := { s with descs := s.descs.set d x }

def trunk (s : State) (t : Trunk) : Framer := s.trunks[t]
def setTrunk (s : State) (t : Trunk) (f : Framer) : State := { s with trunks := s.trunks.set t f }

def pathRx (s : State) (p : Port) : PathRx := s.rx[p]
def setPathRx (s : State) (p : Port) (r : PathRx) : State := { s with rx := s.rx.set p r }

def control (s : State) (p : Port) : Control := s.ctl[p]
def setControl (s : State) (p : Port) (c : Control) : State := { s with ctl := s.ctl.set p c }

def port (s : State) (p : Port) : PortRecord := s.ports[p]
def setPort (s : State) (p : Port) (r : PortRecord) : State := { s with ports := s.ports.set p r }

def setChecker (s : State) (k : Checker) : State := { s with checker := k }

def group (s : State) (g : Group) : GroupRecord := s.groups[g]
def setGroup (s : State) (g : Group) (r : GroupRecord) : State :=
  { s with groups := s.groups.set g r }

def setSweep (s : State) (w : Sweep) : State := { s with sweep := w }
def setWalker (s : State) (w : Walker) : State := { s with walker := w }

def hostRecord (s : State) (h : HostId) : HostRecord := s.hosts[h]
def setHostRecord (s : State) (h : HostId) (r : HostRecord) : State :=
  { s with hosts := s.hosts.set h r }

def setEngine (s : State) (e : Engine) : State := { s with engine := e }
def setTime (s : State) (t : Timebase) : State := { s with time := t }
def setExch (s : State) (x : Exchange) : State := { s with exch := x }
def setHanded (s : State) (h : Handed) : State := { s with handed := h }

/-- The stored value of a parameter, as every block reads it (R168). -/
def param (s : State) (x : Param) : Nat := s.params[x.id]
def setParam (s : State) (x : Param) (v : Nat) : State :=
  { s with params := s.params.set x.id v }

/-- Whether an on or off parameter is on (R168). -/
def isOn (s : State) (x : Param) : Bool := s.param x != 0

/-- A code parameter as the octet it is on a line (R168). -/
def codeOctet (s : State) (x : Param) : Octet := BitVec.ofNat 8 (s.param x)

/-! ## Straps (R171) -/

/-- The host to which a port is strapped. -/
def hostOf (s : State) (p : Port) : HostId := s.straps.host[p]

/-- The switch group of a port. -/
def groupOf (s : State) (p : Port) : Group := s.straps.group[p]

/-- The authority tier of a host. -/
def tierOf (s : State) (h : HostId) : Tier := s.straps.tier[h]

/-! ## Timebase -/

/-- The millisecond count: eight frame periods of 125 microseconds make one (R46, log 9). -/
def now (s : State) : Nat := s.time.frames / 8

/-! ## Occurrences and entries handed on -/

/-- Raise an occurrence: it is handed to the attention controller, which takes it as an event of its own
(R151, log 5). -/
def raise (s : State) (o : Occurrence) : State :=
  { s with handed := { s.handed with occurrences := s.handed.occurrences ++ [o] } }

/-- Hand a DOWN entry to the group monitor (R72). -/
def handDownEntry (s : State) (p : Port) : State :=
  { s with handed := { s.handed with downEntries := s.handed.downEntries ++ [p] } }

/-- Hand an UP entry to the group monitor (R73). -/
def handUpEntry (s : State) (p : Port) : State :=
  { s with handed := { s.handed with upEntries := s.handed.upEntries ++ [p] } }

/-- Hand a port's entry into SUSPECT to the sweep engine (R74). -/
def handPortDrain (s : State) (p : Port) : State :=
  { s with handed := { s.handed with portDrains := s.handed.portDrains ++ [p] } }

/-- Hand a group's entry into SUSPECT to the sweep engine (R97). -/
def handGroupDrain (s : State) (g : Group) : State :=
  { s with handed := { s.handed with groupDrains := s.handed.groupDrains ++ [g] } }

end State

/-! ## Port states -/

/-- UP or SUSPECT: the states in which a port is in service and its slots may be held (R13, R155). -/
def PortState.inService : PortState → Bool
  | .up | .suspect => true
  | _ => false

/-- DOWN, AWAIT PROBE or PROBING: the states that hold a SUSPECT group (R99). -/
def PortState.recovering : PortState → Bool
  | .down | .awaitProbe | .probing => true
  | _ => false

/-- Whether a port is in LOOPBACK. -/
def PortState.looped : PortState → Bool
  | .loopback _ _ => true
  | _ => false

namespace State

def inService (s : State) (p : Port) : Bool := (s.port p).state.inService

/-- R155: the exchange-lost condition is true while no path port is in UP or SUSPECT. -/
def exchangeLost (s : State) : Bool := allPorts.all fun p => !s.inService p

/-- R58: a port serves its control slot while its receiver is ALIGNED and it is not in LOOPBACK. -/
def serving (s : State) (p : Port) : Bool :=
  decide ((s.pathRx p).framer.state = .aligned) && !(s.port p).state.looped

end State

/-! ## Orders -/

/-- The order in which a command takes its ports: those it names, then the others in number order
(log 13). -/
def portOrder (named : List Port) : List Port :=
  named.dedup ++ allPorts.filter fun p => !named.contains p

/-- Every record that a decay tick reaches: the ports, then the groups. -/
def allDecayRecords : List DecayRecord :=
  allPorts.map DecayRecord.port ++ (List.finRange 4).map DecayRecord.group

/-- The order in which a decay tick reaches the records: those it names, then the others (log 13). -/
def decayOrder (named : List DecayRecord) : List DecayRecord :=
  named.dedup ++ allDecayRecords.filter fun r => !named.contains r

/-! ## Storing a parameter (R68, R168) -/

/-- The value stored for a written value, by the column "Value outside the range stored as" of R168;
for a threshold, step 1 of R68. -/
def clampParam (x : Param) (v : Nat) : Nat :=
  match x with
  | .faeWeight | .ccfWeight | .ferdWeight => min 255 v
  | .probeFailWeight => min 4095 v
  | .decayInterval => if v ≤ 11 then 8 else if v ≤ 23 then 16 else if v ≤ 47 then 32 else 64
  | .decayFactor => max 1 (min 32 v)
  | .suspectAt | .downAt | .recoverBelow => min 4095 v
  | .recoverTicks => max 1 (min 255 v)
  | .probeRequired | .drain | .failBackEnable => min 1 v
  | .probeLen => max 256 (min 65535 v)
  | .probeMaxErr => min 65535 v
  | .groupWindow => min 10000 v
  | .groupHold => max 100 (min 60000 v)
  | .failBackDelay => max 1000 (min 600000 v)
  | .cleanHoldLimit => max 10 (min 60000 v)
  | .blockEndCode | .engagedCode | .idleFill => min 255 v

/-- Whether a parameter is one of the three thresholds of R68. -/
def isThreshold : Param → Bool
  | .suspectAt | .downAt | .recoverBelow => true
  | _ => false

/-- Step 2 of R68: SUSPECT_AT above DOWN_AT is stored equal to it. -/
def State.capSuspectAt (s : State) : State :=
  if s.param .downAt < s.param .suspectAt then s.setParam .suspectAt (s.param .downAt) else s

/-- Step 3 of R68: RECOVER_BELOW no less than SUSPECT_AT is stored as SUSPECT_AT - 1, or as 0 when
SUSPECT_AT is 0. -/
def State.capRecoverBelow (s : State) : State :=
  if s.param .suspectAt ≤ s.param .recoverBelow then
    s.setParam .recoverBelow (s.param .suspectAt - 1)
  else s

/-- Store a written parameter (R168, R68). -/
def State.storeParam (s : State) (x : Param) (v : Nat) : State :=
  if isThreshold x then ((s.setParam x (clampParam x v)).capSuspectAt).capRecoverBelow
  else s.setParam x (clampParam x v)

end Sys2Proof.Machine
end

