-- ==== Sys2Proof/Machine/Routes.lean ====
section
/-! DEFINITION. The route store and the sweep queue (chapters 1, 7 and 8): membership of the queue and of
the stranded set, capacity events, the effect of a WRITE ROUTE, cutover, and the departure of a port. -/

namespace Sys2Proof.Machine

/-! ## Path sets (R3) -/

/-- The slots that a route entry holds: the current path, and the staged path when STAGED (R6). -/
def Standing.slots : Standing → List PathSlot
  | .routed cur => [cur.path]
  | .staged cur move => [cur.path, move.path]
  | _ => []

/-- A staged set as the current set it becomes at cutover (R3). -/
def StagedSet.asCurrent (m : StagedSet) : CurrentSet :=
  { path := m.path, via := m.via, preferred := m.preferred }

/-- The current path of a circuit, when it has one (R6). -/
def Standing.currentPath : Standing → Option PathSlot
  | .routed cur => some cur.path
  | .staged cur _ => some cur.path
  | _ => none

/-! ## The sweep queue and the stranded set (R109 to R114) -/

namespace State

/-- Whether the sweep queue holds a circuit. -/
def queued (s : State) (c : Circuit) : Bool := s.sweep.queued[c]

/-- Whether the stranded set holds a circuit. -/
def strandedHas (s : State) (c : Circuit) : Bool := s.sweep.stranded[c]

/-- R112, R113: a circuit joins the sweep queue, or keeps its one place. -/
def joinQueue (s : State) (c : Circuit) : State :=
  s.setSweep { s.sweep with queued := s.sweep.queued.set c true }

/-- R114: a circuit leaves the sweep queue. -/
def leaveQueue (s : State) (c : Circuit) : State :=
  s.setSweep { s.sweep with queued := s.sweep.queued.set c false }

/-- R117: a circuit joins the stranded set. -/
def joinStranded (s : State) (c : Circuit) : State :=
  s.setSweep { s.sweep with stranded := s.sweep.stranded.set c true }

/-- R114: a circuit leaves the stranded set. -/
def leaveStranded (s : State) (c : Circuit) : State :=
  s.setSweep { s.sweep with stranded := s.sweep.stranded.set c false }

end State

/-- The first two keys of R110 as one rank: DISPLACED before ROUTED, then by class. -/
def queueRank (r : Route) : Nat :=
  (if r.standing = .displaced then 0 else 4) + r.fields.cls.val

namespace State

/-- The sweep queue in its order, front first (R110): by rank, and within one rank by circuit number. -/
def sweepQueue (s : State) : List Circuit :=
  (List.range 8).flatMap fun k =>
    allCircuits.filter fun c => s.queued c && queueRank (s.route c) == k

/-- The circuits of the stranded set, in number order (R122). -/
def strandedCircuits (s : State) : List Circuit := allCircuits.filter s.strandedHas

/-- R111, R126: RUNNING while the queue holds a circuit; when the queue has become empty the engine
becomes IDLE and raises SWEEP IDLE. Made at the end of every event that may change the queue. -/
def settleSweep (s : State) : State :=
  if allCircuits.any s.queued then s.setSweep { s.sweep with state := .running }
  else if s.sweep.state = .running then
    (s.setSweep { s.sweep with state := .idle }).raise .sweepIdle
  else s

/-! ## Capacity events (R12, R123) -/

/-- R12, R123: every circuit of the stranded set becomes DISPLACED and joins the sweep queue; the set is
then empty. -/
def capacityEvent (s : State) : State :=
  { s with
    routes := Vector.ofFn fun c =>
      if s.strandedHas c then { s.route c with standing := .displaced } else s.route c
    sweep := { s.sweep with
      queued := Vector.ofFn fun c => s.queued c || s.strandedHas c
      stranded := Vector.replicate 128 false } }

/-- R11: a release is a capacity event when the slot's port is UP or SUSPECT. -/
def capacityIf (s : State) (released : Bool) : State := if released then s.capacityEvent else s

/-! ## Review (R102, R103, R106, R113) -/

/-- Put up for review every ROUTED circuit whose current set a cause picks out (R113). A circuit already
in the queue keeps its one place. -/
def reviewWhere (s : State) (picks : CurrentSet → Bool) : State :=
  (s.setSweep { s.sweep with
    queued := Vector.ofFn fun c =>
      s.queued c || (match (s.route c).standing with
        | .routed cur => picks cur
        | _ => false) }).settleSweep

/-! ## WRITE ROUTE and the steps of a bulk walk (R17 to R19) -/

/-- R17, R18: service IN SERVICE. -/
def writeInService (s : State) (c : Circuit) (f : RouteFields) : State :=
  let r := s.route c
  match r.standing with
  | .idle | .barred =>
    ((s.setRoute c { r with fields := f, standing := .displaced, placed := false }).joinQueue
      c).settleSweep
  | .stranded =>
    (((s.setRoute c { r with fields := f, standing := .displaced }).leaveStranded c).joinQueue
      c).settleSweep
  | .displaced => (s.setRoute c { r with fields := f }).settleSweep
  | .routed _ => ((s.setRoute c { r with fields := f }).joinQueue c).settleSweep
  | .staged cur move =>
    ((((s.releaseSlot move.path).setRoute c { r with fields := f, standing := .routed cur }).joinQueue
      c).capacityIf (s.inService move.path.port)).settleSweep

/-- Free every slot of a list (R19). -/
def releaseAll (s : State) (slots : List PathSlot) : State := slots.foldl State.releaseSlot s

/-- R19: service BARRED or IDLE, to the standing given, with the moves count given. -/
def writeOutOfService (s : State) (c : Circuit) (f : RouteFields) (target : Standing) (moves : Nat) :
    State :=
  let r := s.route c
  ((((s.releaseAll r.standing.slots).setRoute c
      { r with fields := f, standing := target, moves := moves }).leaveQueue c).leaveStranded
      c |>.capacityIf (r.standing.slots.any fun q => s.inService q.port)).settleSweep

/-- R17 to R19: a write of one entry by its service. -/
def writeEntry (s : State) (c : Circuit) (service : Service) (f : RouteFields) : State :=
  match service with
  | .inService => s.writeInService c f
  | .barred => s.writeOutOfService c f .barred (s.route c).moves
  | .idle => s.writeOutOfService c f .idle 0

/-! ## Cutover (R132) -/

/-- R132: the cutover of a STAGED circuit, whose path sets are given. -/
def cutover (s : State) (c : Circuit) (cur : CurrentSet) (move : StagedSet) : State :=
  let r := s.route c
  (((((s.makeCurrent move.path c).releaseSlot cur.path).setRoute c
      { r with standing := .routed move.asCurrent, moves := bump8 r.moves })).capacityIf
      (s.inService cur.path.port)).settleSweep

end State

/-! ## The departure of a port from UP or SUSPECT (R13, R134, R135) -/

/-- What the departure of a port does to one route entry. -/
def departRoute (p : Port) (r : Route) : Route :=
  match r.standing with
  | .routed cur => if cur.path.port = p then { r with standing := .displaced } else r
  | .staged cur move =>
    if cur.path.port = p then
      { r with
        standing := if move.path.port = p then .displaced else .routed move.asCurrent
        moves := bump8 r.moves }
    else if move.path.port = p then { r with standing := .routed cur }
    else r
  | _ => r

/-- Whether the departure of a port makes a circuit join the sweep queue. -/
def departJoins (p : Port) (r : Route) : Bool :=
  match r.standing with
  | .routed cur => decide (cur.path.port = p)
  | .staged _ move => decide (move.path.port = p)
  | _ => false

/-- Whether the departure of a port cuts a circuit over at once (R134). -/
def departCutsOver (p : Port) (r : Route) : Bool :=
  match r.standing with
  | .staged cur move => decide (cur.path.port = p) && decide (move.path.port ≠ p)
  | _ => false

/-- What the departure of a port does to one record of the occupancy map: the port's own slots are freed,
and the staged slot of a circuit that is cut over takes the CURRENT role. -/
def State.departSlot (s : State) (p : Port) (q : PathSlot) : Option Holder :=
  if q.port = p then none
  else (s.holder q).map fun h =>
    if departCutsOver p (s.route h.circuit) then { h with role := .current } else h

/-- R13: a port leaves UP or SUSPECT for a state out of service. None of the releases is a capacity
event. -/
def State.portDeparture (s : State) (p : Port) : State :=
  State.settleSweep
    { s with
      routes := Vector.ofFn fun c => departRoute p (s.route c)
      occ := Vector.ofFn fun i => s.departSlot p (PathSlot.ofIndex i)
      used := s.used.set p 0
      sweep := { s.sweep with
        queued := Vector.ofFn fun c => s.queued c || departJoins p (s.route c) } }

end Sys2Proof.Machine
end

