-- ==== Sys2Proof/Machine/Attention.lean ====
section
/-! DEFINITION. The attention controller (chapter 10): the recording of occurrences, what is presentable to
a host, and the taking of an event. -/

namespace Sys2Proof.Machine

/-! ## Recording (R151 to R153) -/

/-- The index of a member of a port set: by port, the unmarked member first (R152). -/
def memberIndex (p : Port) (mark : Bool) : Fin 16 :=
  ⟨2 * p.val + (if mark then 1 else 0), by split <;> omega⟩

/-- R153: a latest-and-count source takes an occurrence. -/
def Tally.record {δ : Type} (t : Tally δ) (d : δ) : Tally δ :=
  { latest := some d, count := bump8 t.count }

/-- R157: a latest-and-count source is taken. -/
def Tally.cleared {δ : Type} : Tally δ := { latest := none, count := 0 }

/-- R152, R153: an occurrence recorded in one host record. -/
def HostRecord.record (r : HostRecord) : Occurrence → HostRecord
  | .pathDown p m => { r with pathDown := r.pathDown.set (memberIndex p m) true }
  | .chainFault c d k => { r with chainFault := r.chainFault.record (c, d, k) }
  | .groupSuspect g => { r with groupSuspect := r.groupSuspect.set g true }
  | .pathSuspect p m => { r with pathSuspect := r.pathSuspect.set (memberIndex p m) true }
  | .forcedCutover c => { r with forcedCutover := r.forcedCutover.record c }
  | .probeResult p e ok => { r with probeResult := r.probeResult.record (p, e, ok) }
  | .pathUp p m => { r with pathUp := r.pathUp.set (memberIndex p m) true }
  | .bulkDone c w k => { r with bulkDone := some (c, w, k) }
  | .sweepIdle => { r with sweepIdle := true }

/-- R151: an occurrence recorded in all four host records. -/
def State.recordAll (s : State) (o : Occurrence) : State :=
  { s with hosts := Vector.ofFn fun h => (s.hostRecord h).record o }

/-- OCCURRENCE_RECORDED (R151): the attention controller takes an occurrence that has been raised; one
that has not is not taken (log 1). -/
def execOccurrenceRecorded (o : Occurrence) (s : State) : Host.Outcome State Fault Refusal :=
  .next <|
    if o ∈ s.handed.occurrences then
      (s.setHanded { s.handed with occurrences := s.handed.occurrences.erase o }).recordAll o
    else s

/-! ## Presentation (R154, R156) -/

/-- The maskable sources, by number (10.2). -/
inductive Source where
  | pathDown | stranded | chainFault | groupSuspect | pathSuspect | stationAlarm
  | forcedCutover | probeResult | pathUp | bulkDone | sweepIdle
deriving DecidableEq, Repr

/-- The place of a source in the table of 10.2, counted from 0: its number less 1. -/
def sourceIndex : Source → Fin 11
  | .pathDown => 0 | .stranded => 1 | .chainFault => 2 | .groupSuspect => 3 | .pathSuspect => 4
  | .stationAlarm => 5 | .forcedCutover => 6 | .probeResult => 7 | .pathUp => 8 | .bulkDone => 9
  | .sweepIdle => 10

/-- The sources in number order (10.2). -/
def allSources : List Source :=
  [.pathDown, .stranded, .chainFault, .groupSuspect, .pathSuspect, .stationAlarm,
   .forcedCutover, .probeResult, .pathUp, .bulkDone, .sweepIdle]

/-- The first member of a set held by index (R152). -/
def firstMember {n : Nat} (v : Vector Bool n) : Option (Fin n) :=
  (List.finRange n).find? fun i => v[i]

namespace State

/-- R59: a trunk is in alarm while its receiver is not ALIGNED. -/
def inAlarm (s : State) (t : Trunk) : Bool := decide ((s.trunk t).state ≠ .aligned)

/-- R59, R154: the trunks in alarm. -/
def alarmTrunks (s : State) : List Trunk := (List.finRange 8).filter s.inAlarm

/-- Whether a source is pending for a host, or true (R152 to R154). -/
def raised (s : State) (h : HostId) : Source → Bool
  | .pathDown => (firstMember (s.hostRecord h).pathDown).isSome
  | .stranded => !s.strandedCircuits.isEmpty
  | .chainFault => decide (0 < (s.hostRecord h).chainFault.count)
  | .groupSuspect => (firstMember (s.hostRecord h).groupSuspect).isSome
  | .pathSuspect => (firstMember (s.hostRecord h).pathSuspect).isSome
  | .stationAlarm => !s.alarmTrunks.isEmpty
  | .forcedCutover => decide (0 < (s.hostRecord h).forcedCutover.count)
  | .probeResult => decide (0 < (s.hostRecord h).probeResult.count)
  | .pathUp => (firstMember (s.hostRecord h).pathUp).isSome
  | .bulkDone => (s.hostRecord h).bulkDone.isSome
  | .sweepIdle => (s.hostRecord h).sweepIdle

/-- A host's urgency for a source (R150). -/
def urgency (s : State) (h : HostId) (x : Source) : Urgency :=
  (s.hostRecord h).urgency[sourceIndex x]

/-- R156: a source is presentable when its urgency exceeds the mask and it is pending or true. -/
def presentable (s : State) (h : HostId) (x : Source) : Bool :=
  decide ((s.hostRecord h).mask < s.urgency h x) && s.raised h x

/-- R156: a host needs attention while anything is presentable to it. -/
def needsAttention (s : State) (h : HostId) : Bool :=
  (s.hostRecord h).latch || allSources.any fun x => s.presentable h x

/-- R157: the presentable source of highest urgency, and of lowest number among equals. -/
def topSource (s : State) (h : HostId) : Option Source :=
  (allSources.filter fun x => s.presentable h x).foldl
    (fun best x =>
      match best with
      | none => some x
      | some b => if s.urgency h b < s.urgency h x then some x else some b)
    none

end State

/-! ## Taking (R157) -/

/-- The members of a port set less its first (R157). -/
def dropFirst {n : Nat} (v : Vector Bool n) : Vector Bool n :=
  match firstMember v with
  | some i => v.set i false
  | none => v

/-- R157: what a take does to the pending state of the source taken. -/
def HostRecord.taken (r : HostRecord) : Source → HostRecord
  | .pathDown => { r with pathDown := dropFirst r.pathDown }
  | .stranded => r
  | .chainFault => { r with chainFault := Tally.cleared }
  | .groupSuspect => { r with groupSuspect := dropFirst r.groupSuspect }
  | .pathSuspect => { r with pathSuspect := dropFirst r.pathSuspect }
  | .stationAlarm => r
  | .forcedCutover => { r with forcedCutover := Tally.cleared }
  | .probeResult => { r with probeResult := Tally.cleared }
  | .pathUp => { r with pathUp := dropFirst r.pathUp }
  | .bulkDone => { r with bulkDone := none }
  | .sweepIdle => { r with sweepIdle := false }

end Sys2Proof.Machine
end

