-- ==== Sys2Proof/Machine/Operands.lean ====
section
/-! DEFINITION. Reading the body of a request (chapter 11, "Record layouts"). Each reader answers the
operands, or none where the kind's own checks refuse the body with RANGE. -/

namespace Sys2Proof.Machine

/-- Two octets as a number, the most significant first (R165). -/
def pairValue (hi lo : Octet) : Nat := 256 * hi.toNat + lo.toNat

/-- Three octets as a number, the most significant first (R165). -/
def tripleValue (hi mid lo : Octet) : Nat := 65536 * hi.toNat + pairValue mid lo

/-- An octet as a member of a numbering of `n`; none above it. -/
def octetFin (n : Nat) (o : Octet) : Option (Fin n) :=
  if h : o.toNat < n then some ⟨o.toNat, h⟩ else none

/-- A descriptor number of two octets; none above 255. -/
def descOf (hi lo : Octet) : Option Desc :=
  if h : pairValue hi lo < 256 then some ⟨pairValue hi lo, h⟩ else none

/-- A descriptor number of two octets, 0xFFFF for absent; none for any other value above 255. -/
def descOrAbsent (hi lo : Octet) : Option (Option Desc) :=
  if pairValue hi lo = 0xFFFF then some none else (descOf hi lo).map some

/-- A slot number, 1 to 30. -/
def slotOf (o : Octet) : Option Slot :=
  if h : 1 ≤ o.toNat ∧ o.toNat ≤ 30 then some ⟨o.toNat - 1, by omega⟩ else none

/-- A service: 0 IN SERVICE, 1 BARRED, 2 IDLE. -/
def serviceOf (o : Octet) : Option Service :=
  match o.toNat with
  | 0 => some .inService
  | 1 => some .barred
  | 2 => some .idle
  | _ => none

/-- A discipline: 0 PROMPT, 1 CLEAN. -/
def disciplineOf (o : Octet) : Option Discipline :=
  match o.toNat with
  | 0 => some .prompt
  | 1 => some .clean
  | _ => none

/-- A body of the kind code alone. -/
def bareBody (body : List Octet) : Option Unit :=
  match body with
  | [_] => some ()
  | _ => none

/-- A body of the kind code and one number below `n`. -/
def oneNumber (n : Nat) (body : List Octet) : Option (Fin n) :=
  match body with
  | [_, a] => octetFin n a
  | _ => none

/-! ## Routes (R14, R15) -/

/-- The operands of WRITE ROUTE. -/
structure RouteWrite where
  circuit : Circuit
  service : Service
  fields : RouteFields
deriving DecidableEq, Repr

/-- Whether a service and a head go together: IN SERVICE needs a head (R15, R141). -/
def headAllowed (service : Service) (head : Option Desc) : Bool :=
  !(decide (service = .inService) && head.isNone)

/-- R15, checks 1 to 3. -/
def routeWriteOf (body : List Octet) : Option RouteWrite :=
  match body with
  | [_, c, sv, h₁, h₂, t, k, d, e] => do
    let circuit ← octetFin 128 c
    let service ← serviceOf sv
    let head ← descOrAbsent h₁ h₂
    let tier ← octetFin 4 t
    let cls ← octetFin 4 k
    let discipline ← disciplineOf d
    let offset ← octetFin 30 e
    if headAllowed service head then
      some
        { circuit := circuit, service := service
          fields := { head := head, tier := tier, cls := cls, discipline := discipline
                      offset := offset } }
    else none
  | _ => none

/-! ## Descriptors (R41, R42) -/

/-- R41. -/
def descReadOf (body : List Octet) : Option Desc :=
  match body with
  | [_, d₁, d₂] => descOf d₁ d₂
  | _ => none

/-- The operands of WRITE DESCRIPTOR. -/
structure DescWrite where
  desc : Desc
  record : Descriptor
deriving DecidableEq, Repr

/-- A slot rule: 0 FIXED n, 1 OFFSET base, 2 POOL, whose second octet is not checked (R42). -/
def slotRuleOf (rule n : Octet) : Option SlotRule :=
  match rule.toNat with
  | 0 => (slotOf n).map .fixed
  | 1 => (slotOf n).map .offset
  | 2 => some .pool
  | _ => none

/-- A withdrawn value: 0 no, 1 yes. -/
def withdrawnOf (o : Octet) : Option Bool :=
  match o.toNat with
  | 0 => some false
  | 1 => some true
  | _ => none

/-- R42, checks 1 to 3: a PATH of 11 octets or a DIVERT of 9. -/
def descWriteOf (body : List Octet) : Option DescWrite :=
  match body with
  | [_, d₁, d₂, k, t, w, p, rule, n, a₁, a₂] => do
    let desc ← descOf d₁ d₂
    let tier ← octetFin 4 t
    let withdrawn ← withdrawnOf w
    let port ← octetFin 8 p
    let slotRule ← slotRuleOf rule n
    let alternative ← descOrAbsent a₁ a₂
    if k = 0 then
      some
        { desc := desc
          record := { kind := .path port slotRule alternative, tier := tier
                      withdrawn := withdrawn } }
    else none
  | [_, d₁, d₂, k, t, w, g₁, g₂, e] => do
    let desc ← descOf d₁ d₂
    let tier ← octetFin 4 t
    let withdrawn ← withdrawnOf w
    let target ← descOf g₁ g₂
    let shift ← octetFin 30 e
    if k = 1 then
      some
        { desc := desc
          record := { kind := .divert target shift, tier := tier, withdrawn := withdrawn } }
    else none
  | _ => none

/-! ## Ports (R77, R78, R94) -/

/-- The actions of SET PORT, by their codes. -/
inductive PortAction where
  | enable | disable | loopbackOn | loopbackOff | ceiling | clearCounts
deriving DecidableEq, Repr

/-- 0 ENABLE, 1 DISABLE, 2 LOOPBACK ON, 3 LOOPBACK OFF, 4 CEILING, 5 CLEAR COUNTS. -/
def actionOf (o : Octet) : Option PortAction :=
  match o.toNat with
  | 0 => some .enable
  | 1 => some .disable
  | 2 => some .loopbackOn
  | 3 => some .loopbackOff
  | 4 => some .ceiling
  | 5 => some .clearCounts
  | _ => none

/-- R78, checks 1 and 2, for an action without a further octet. -/
def plainAction (a : PortAction) (body : List Octet) : Option Port :=
  match body with
  | [_, p, x] => if actionOf x = some a then octetFin 8 p else none
  | _ => none

/-- R78, check 1, for an action with one further octet; the port and that octet. -/
def actionWith (a : PortAction) (body : List Octet) : Option (Port × Octet) :=
  match body with
  | [_, p, x, v] => if actionOf x = some a then (octetFin 8 p).map fun q => (q, v) else none
  | _ => none

/-- A ready setting: 0 ready, 1 not ready. -/
def readyOf (o : Octet) : Option Bool :=
  match o.toNat with
  | 0 => some true
  | 1 => some false
  | _ => none

/-- R78, checks 1 and 2, for LOOPBACK ON. -/
def loopbackOnOf (body : List Octet) : Option (Port × Bool) :=
  match actionWith .loopbackOn body with
  | some (p, v) => (readyOf v).map fun r => (p, r)
  | none => none

/-- The line events (3.3), which INJECT can feed to a looped port (R94). -/
inductive LineEvent where
  | fae | ccf | ferd | losOnset | losEnd
deriving DecidableEq, Repr

/-- A line event kind: 0 FAE, 1 CCF, 2 FERD, 3 LOS onset, 4 LOS end. -/
def lineEventOf (o : Octet) : Option LineEvent :=
  match o.toNat with
  | 0 => some .fae
  | 1 => some .ccf
  | 2 => some .ferd
  | 3 => some .losOnset
  | 4 => some .losEnd
  | _ => none

/-- The operands of INJECT. -/
structure Injection where
  port : Port
  event : LineEvent
  count : Nat
deriving DecidableEq, Repr

/-- R94, check 1. -/
def injectionOf (body : List Octet) : Option Injection :=
  match body with
  | [_, p, k, n] => do
    let port ← octetFin 8 p
    let event ← lineEventOf k
    if 1 ≤ n.toNat then some { port := port, event := event, count := n.toNat } else none
  | _ => none

/-! ## Bulk (R141, R147) -/

/-- The operands of BULK ROUTE. -/
structure BulkOrder where
  trunkFirst : Trunk
  trunkLast : Trunk
  slotFirst : StationSlot
  slotLast : StationSlot
  template : Template
deriving DecidableEq, Repr

/-- An offset mode: 0 KEEP, 1 VALUE v, 2 STATION SLOT. Position 13 is the value v whatever the mode, and a v
above 29 is refused (R141, check 2; record layouts). -/
def offsetModeOf (m v : Octet) : Option OffsetMode := do
  let value ← octetFin 30 v
  match m.toNat with
  | 0 => some .keep
  | 1 => some (.value value)
  | 2 => some .stationSlot
  | _ => none

/-- The template of a BULK ROUTE (R141, checks 2 and 3). -/
def templateOf (sv h₁ h₂ t k d m v : Octet) : Option Template := do
  let service ← serviceOf sv
  let head ← descOrAbsent h₁ h₂
  let tier ← octetFin 4 t
  let cls ← octetFin 4 k
  let discipline ← disciplineOf d
  let mode ← offsetModeOf m v
  if headAllowed service head then
    some
      { service := service, head := head, tier := tier, cls := cls, discipline := discipline
        mode := mode, valueOctet := v }
  else none

/-- R141, checks 1 to 3. -/
def bulkOrderOf (body : List Octet) : Option BulkOrder :=
  match body with
  | [_, t₁, t₂, s₁, s₂, sv, h₁, h₂, t, k, d, m, v] => do
    let trunkFirst ← octetFin 8 t₁
    let trunkLast ← octetFin 8 t₂
    let slotFirst ← octetFin 16 s₁
    let slotLast ← octetFin 16 s₂
    let template ← templateOf sv h₁ h₂ t k d m v
    some
      { trunkFirst := trunkFirst, trunkLast := trunkLast, slotFirst := slotFirst
        slotLast := slotLast, template := template }
  | _ => none

/-- R147: the first and the last circuit of a range. -/
def rangeOf (body : List Octet) : Option (Circuit × Circuit) :=
  match body with
  | [_, a, b] => do
    let first ← octetFin 128 a
    let last ← octetFin 128 b
    some (first, last)
  | _ => none

/-! ## Attention (R158) -/

/-- A value of 0 to 7; above 7 it is stored as 7. -/
def urgencyOf (o : Octet) : Urgency := ⟨min 7 o.toNat, by omega⟩

/-- R158: the value of SET MASK. -/
def maskOf (body : List Octet) : Option Urgency :=
  match body with
  | [_, v] => some (urgencyOf v)
  | _ => none

/-- R158: the source of SET URGENCY, as an index, and the value. -/
def urgencyWriteOf (body : List Octet) : Option (Fin 11 × Urgency) :=
  match body with
  | [_, n, v] =>
    if h : 1 ≤ n.toNat ∧ n.toNat ≤ 11 then some (⟨n.toNat - 1, by omega⟩, urgencyOf v) else none
  | _ => none

/-! ## Parameters (R169, R170) -/

/-- R169, checks 1 and 2. -/
def paramWriteOf (body : List Octet) : Option (Param × Nat) :=
  match body with
  | [_, i, v₁, v₂, v₃] => (Param.ofId i.toNat).map fun x => (x, tripleValue v₁ v₂ v₃)
  | _ => none

end Sys2Proof.Machine
end

