-- ==== Sys2Proof/Machine/Probing.lean ====
section
/-! DEFINITION. The probe pattern, the probe checker and the probe queue (chapter 5, sections 5.1 to 5.3
and 5.5). -/

namespace Sys2Proof.Machine

/-! ## The pattern (R83) -/

/-- One step of an 11-stage register: the new bit, stage 11 xor stage 9, is the output and goes into stage
1 (R83). -/
def Stages.step (r : Stages) : Bool × Stages :=
  let new := r.getLsbD 10 ^^ r.getLsbD 8
  (new, (r <<< 1) ||| (BitVec.ofBool new).setWidth 11)

/-- `n` steps, their output bits shifted in at the least significant end, so that the first of eight is
the most significant bit (R83). -/
def Stages.steps : Nat → Octet → Stages → Octet × Stages
  | 0, acc, r => (acc, r)
  | n + 1, acc, r =>
    let (b, r') := Stages.step r
    Stages.steps n ((acc <<< 1) ||| (BitVec.ofBool b).setWidth 8) r'

/-- The next octet of the pattern and the register after it (R83). -/
def Stages.octet (r : Stages) : Octet × Stages := Stages.steps 8 0 r

/-- R86: the register loaded from the last 11 of the 16 bits of two octets, ones in place of zeros. R83 has a
loop that is late by a frame or more fail its probe; seeded as R86 says, a loop late by one or two frames can
load the register that the transmit generator itself held, and pass. The model follows R86 and R87 (log 35). -/
def seedRegister (first second : Octet) : Stages :=
  let bits := (first ++ second).setWidth 11
  if bits = 0 then Stages.ones else bits

/-- The number of bits in which two octets differ (R87). -/
def differingBits (a b : Octet) : Nat :=
  ((List.range 8).filter fun i => (a ^^^ b).getLsbD i).length

/-! ## The checker (R84 to R87) -/

/-- The entry that the checker serves. -/
def CheckerState.entry : CheckerState → Option ProbeEntry
  | .idle => none
  | .seeding e => some e
  | .counting e => some e

/-- Whether the checker is running on a port: SEEDING or COUNTING there (R48). -/
def Checker.runsOn (k : Checker) (p : Port) : Bool :=
  match k.state.entry with
  | none => false
  | some e => decide (e.port = p)

/-- Whether the compared count has reached the latched length (R87). -/
def Checker.complete (k : Checker) : Bool :=
  match k.state with
  | .counting _ => decide (k.length ≤ k.compared)
  | _ => false

/-- R87, R89: IDLE, with port, kind and counts at their reset values. Length, limit and the registers are
loaded afresh when an entry is taken (R85). -/
def Checker.toIdle (k : Checker) : Checker :=
  { k with
    state := .idle, seeds := [], compared := 0, errors := 0, started := false, returned := none }

/-- R86: a seeding octet; the second one takes the checker to COUNTING. -/
def Checker.seed (k : Checker) (e : ProbeEntry) (o : Octet) : Checker :=
  match k.seeds with
  | [] => { k with seeds := [o] }
  | first :: _ =>
    { k with seeds := [first, o], check := seedRegister first o, state := .counting e }

/-- R87: one octet period compared; an octet that was not delivered counts 8 errors. -/
def Checker.compare (k : Checker) (o : Option Octet) : Checker :=
  let (predicted, check') := Stages.octet k.check
  let wrong := match o with
    | some x => differingBits predicted x
    | none => 8
  { k with check := check', errors := satAdd 65535 k.errors wrong, compared := k.compared + 1 }

namespace State

/-- R85: the IDLE checker takes the oldest entry of the queue; a RECOVERY entry's port enters PROBING. -/
def takeProbe (s : State) : State :=
  match s.checker.state, s.checker.queue with
  | .idle, e :: rest =>
    let s' := s.setChecker
      { state := .seeding e, generator := Stages.ones, check := Stages.ones, seeds := []
        compared := 0, errors := 0, length := s.param .probeLen, limit := s.param .probeMaxErr
        queue := rest, started := false, returned := none }
    match e.kind with
    | .recovery => s'.setPort e.port { s.port e.port with state := .probing }
    | .demand => s'
  | _, _ => s

/-- R70, R90: an entry joins the tail of the probe queue. -/
def joinProbeQueue (s : State) (e : ProbeEntry) : State :=
  (s.setChecker { s.checker with queue := s.checker.queue ++ [e] }).takeProbe

/-- R89: a port's entry is cancelled: it leaves the queue, or its probe is abandoned. -/
def cancelProbe (s : State) (p : Port) : State :=
  if s.checker.runsOn p then (s.setChecker s.checker.toIdle).takeProbe
  else
    s.setChecker { s.checker with queue := s.checker.queue.filter fun e => decide (e.port ≠ p) }

/-- The slot 31 octet that the checker has for this frame period on a port: the looped one in LOOPBACK
(R57), else the one that the receiver delivered (R86, R87). -/
def returnedOctet (s : State) (p : Port) : Option Octet :=
  if (s.port p).state.looped then s.exch.heads[p].probe else s.checker.returned

end State

end Sys2Proof.Machine
end

