-- ==== Sys2Proof/Machine/Health.lean ====
section
/-! DEFINITION. The health monitor (chapters 4 and 5): the score, the changes of port state with all they
hand on, decay and recovery, the test verdict of a looped port, and the verdict of a probe. -/

namespace Sys2Proof.Machine

/-- The counter of a line event, incremented (R75). -/
def Counts.count (n : Counts) : LineEvent → Counts
  | .fae => { n with fae := bump16 n.fae }
  | .ccf => { n with ccf := bump16 n.ccf }
  | .ferd => { n with ferd := bump16 n.ferd }
  | .losOnset => { n with los := bump16 n.los }
  | .losEnd => n

namespace State

/-- The weight of a weighted line event (4.2). -/
def weight (s : State) : LineEvent → Nat
  | .fae => s.param .faeWeight
  | .ccf => s.param .ccfWeight
  | .ferd => s.param .ferdWeight
  | _ => 0

/-! ## Changes of port state and what they hand on (section 4.5) -/

/-- R155: the exchange-lost latch of every host record is set. -/
def setLatches (s : State) : State :=
  { s with hosts := Vector.ofFn fun h => { s.hostRecord h with latch := true } }

/-- R155: the latches are set when no port is left in service. -/
def latchIfLost (s : State) : State := if s.exchangeLost then s.setLatches else s

/-- The port record after a departure from UP or SUSPECT (R72). -/
def departedRecord (r : PortRecord) (target : PortState) : PortRecord :=
  if target = .down then
    { r with state := .down, q := 0, failBack := none
             counts := { r.counts with down := bump16 r.counts.down } }
  else { r with state := target, failBack := none }

/-- R72: a port leaves UP or SUSPECT for DOWN, DISABLED or LOOPBACK. -/
def leaveService (s : State) (p : Port) (target : PortState) : State :=
  let s₁ := (s.setPort p (departedRecord (s.port p) target)).raise (.pathDown p false)
  let s₂ := if target = .down then s₁.handDownEntry p else s₁
  ((s₂.portDeparture p).cancelProbe p).latchIfLost

/-- R74: a port enters SUSPECT from UP. -/
def enterSuspect (s : State) (p : Port) : State :=
  let s₁ := (s.setPort p { s.port p with state := .suspect, failBack := none }).raise
    (.pathSuspect p false)
  if s.isOn .drain then s₁.handPortDrain p else s₁

/-- R73: a port enters UP. -/
def enterUp (s : State) (p : Port) : State :=
  let timer := if s.isOn .failBackEnable then some (s.param .failBackDelay) else none
  ((((s.setPort p { s.port p with state := .up, failBack := timer }).raise (.pathUp p false)).handUpEntry
    p).capacityEvent).settleSweep

/-- R63, R64: a port returns to DOWN from AWAIT PROBE or PROBING. -/
def setback (s : State) (p : Port) : State :=
  (s.setPort p { s.port p with state := .down, q := 0 }).cancelProbe p

/-! ## Line events (R62 to R64) -/

/-- R63: the comparison with the thresholds after a score change. -/
def compareScore (s : State) (p : Port) : State :=
  let h := (s.port p).h
  match (s.port p).state with
  | .up =>
    if s.param .downAt ≤ h then s.leaveService p .down
    else if s.param .suspectAt ≤ h then s.enterSuspect p
    else s
  | .suspect => if s.param .downAt ≤ h then s.leaveService p .down else s
  | .awaitProbe | .probing => if s.param .downAt ≤ h then s.setback p else s
  | .down | .disabled | .loopback _ _ => s

/-- H raised, stopping at 4095 (R62, R88). -/
def addScore (s : State) (p : Port) (w : Nat) : State :=
  s.setPort p { s.port p with h := satAdd 4095 (s.port p).h w }

/-- A line event's counter incremented. -/
def countEvent (s : State) (p : Port) (e : LineEvent) : State :=
  s.setPort p { s.port p with counts := (s.port p).counts.count e }

/-- R62: a weighted line event outside LOOPBACK. -/
def lineEvent (s : State) (p : Port) (e : LineEvent) : State :=
  ((s.addScore p (s.weight e)).countEvent p e).compareScore p

/-- R64: LOS onset at the health monitor, outside LOOPBACK. -/
def losOnsetHealth (s : State) (p : Port) : State :=
  let r := s.port p
  let s₁ := s.setPort p { r with h := 4095, counts := r.counts.count .losOnset, losHold := true }
  match r.state with
  | .up | .suspect => s₁.leaveService p .down
  | .awaitProbe | .probing => s₁.setback p
  | .down | .disabled | .loopback _ _ => s₁

/-- R64: LOS end clears the LOS hold. -/
def losEndHealth (s : State) (p : Port) : State :=
  s.setPort p { s.port p with losHold := false }

/-! ## The looped port (R91 to R93) -/

/-- Write the test verdict of a looped port, Q as given. -/
def setVerdict (s : State) (p : Port) (ready : Bool) (v : Verdict) (q : Nat) : State :=
  s.setPort p { s.port p with state := .loopback ready v, q := q }

/-- R92: the verdict compared after a line event that may be LOS onset. -/
def compareVerdict (s : State) (p : Port) (ready : Bool) (v : Verdict) (onset : Bool) : State :=
  let r := s.port p
  let lost := onset || decide (s.param .downAt ≤ r.h)
  match v with
  | .up =>
    if lost then (s.setVerdict p ready .down 0).raise (.pathDown p true)
    else if s.param .suspectAt ≤ r.h then
      (s.setVerdict p ready .suspect r.q).raise (.pathSuspect p true)
    else s
  | .suspect => if lost then (s.setVerdict p ready .down 0).raise (.pathDown p true) else s
  | .down => s

/-- R92: a line event that INJECT feeds to a looped port. -/
def loopEvent (s : State) (p : Port) (e : LineEvent) : State :=
  match (s.port p).state with
  | .loopback ready v =>
    match e with
    | .losEnd => s.losEndHealth p
    | .losOnset =>
      let r := s.port p
      (s.setPort p { r with h := 4095, counts := r.counts.count .losOnset, losHold := true }
        ).compareVerdict p ready v true
    | .fae | .ccf | .ferd =>
      ((s.addScore p (s.weight e)).countEvent p e).compareVerdict p ready v false
  | _ => s

/-! ## Decay and recovery (R66, R67, R69, R70, R93) -/

/-- R66: the score after one decay tick. -/
def decayed (h k : Nat) : Nat := h - max 1 (h * k / 64)

/-- R69: whether a tick is quiet for a port, after its decay. -/
def quiet (s : State) (p : Port) : Bool :=
  decide ((s.port p).h ≤ s.param .recoverBelow) && (s.pathRx p).farEndReady
    && !(s.port p).losHold && decide ((s.pathRx p).framer.state ≠ .noSignal)

/-- Q at a tick of a DOWN port or of a DOWN verdict (R69, R93). -/
def nextQ (s : State) (p : Port) : Nat := if s.quiet p then (s.port p).q + 1 else 0

/-- R70: whether a tick takes a DOWN port, or a DOWN verdict, out of DOWN. -/
def recovers (s : State) (p : Port) : Bool :=
  s.quiet p && decide (s.param .recoverTicks ≤ (s.port p).q + 1)

/-- R70: a DOWN port whose quiet count is complete. -/
def endQuiet (s : State) (p : Port) : State :=
  if s.isOn .probeRequired then
    (s.setPort p { s.port p with state := .awaitProbe }).joinProbeQueue
      { port := p, kind := .recovery }
  else s.enterUp p

/-- R67, R69, R93: the comparison of a decay tick, after the decay. -/
def compareTick (s : State) (p : Port) : State :=
  let r := s.port p
  match r.state with
  | .up =>
    if s.param .downAt ≤ r.h then s.leaveService p .down
    else if s.param .suspectAt ≤ r.h then s.enterSuspect p
    else s
  | .suspect =>
    if s.param .downAt ≤ r.h then s.leaveService p .down
    else if r.h ≤ s.param .recoverBelow then s.enterUp p
    else s
  | .down =>
    let s₁ := s.setPort p { r with q := s.nextQ p }
    if s.recovers p then s₁.endQuiet p else s₁
  | .awaitProbe | .probing | .disabled => s
  | .loopback ready v =>
    match v with
    | .up =>
      if s.param .downAt ≤ r.h then (s.setVerdict p ready .down 0).raise (.pathDown p true)
      else if s.param .suspectAt ≤ r.h then
        (s.setVerdict p ready .suspect r.q).raise (.pathSuspect p true)
      else s
    | .suspect =>
      if s.param .downAt ≤ r.h then (s.setVerdict p ready .down 0).raise (.pathDown p true)
      else if r.h ≤ s.param .recoverBelow then
        (s.setVerdict p ready .up r.q).raise (.pathUp p true)
      else s
    | .down =>
      if s.recovers p then (s.setVerdict p ready .up (s.nextQ p)).raise (.pathUp p true)
      else s.setVerdict p ready .down (s.nextQ p)

/-- R65 to R67: a decay tick at one port's record. -/
def decayPort (s : State) (p : Port) : State :=
  (s.setPort p { s.port p with h := decayed (s.port p).h (s.param .decayFactor) }).compareTick p

/-! ## The verdict of a probe (R88) -/

/-- R71, R88: what the health monitor does with a verdict. -/
def actOnVerdict (s : State) (e : ProbeEntry) (pass : Bool) : State :=
  let failed := s.addScore e.port (s.param .probeFailWeight)
  match e.kind, (s.port e.port).state with
  | .recovery, .probing =>
    if pass then s.enterUp e.port
    else failed.setPort e.port { failed.port e.port with state := .down, q := 0 }
  | .demand, .up | .demand, .suspect => if pass then s else failed.compareScore e.port
  | .demand, .loopback _ _ => if pass then s else failed
  | _, _ => s

/-! ## The octet of a frame period at the checker, and the end of a probe (R86, R87) -/

/-- R87: the completion, once the compared count has reached the latched length: the verdict is given and
raised, the health monitor acts on it, and the checker becomes IDLE and takes the next entry. -/
def finishProbe (s : State) (e : ProbeEntry) : State :=
  let k := s.checker
  let pass := decide (k.errors ≤ k.limit)
  ((((s.setChecker k.toIdle).raise (.probeResult e.port k.errors pass)).actOnVerdict e pass)).takeProbe

/-- R87: the octet of one frame period in COUNTING; the one that brings the compared count to the latched
length completes the probe within the same event. -/
def countOctet (s : State) (e : ProbeEntry) : State :=
  let k := { s.checker.compare (s.returnedOctet e.port) with returned := none }
  if k.complete then (s.setChecker k).finishProbe e else s.setChecker k

/-- R86, R87: the octet of the frame period that ends, at the checker. The first period it handles is the
first to begin after it took its entry. -/
def stepChecker (s : State) : State :=
  let k := s.checker
  match k.started, k.state with
  | true, .seeding e =>
    s.setChecker { k.seed e ((s.returnedOctet e.port).getD 0) with returned := none }
  | true, .counting e => s.countOctet e
  | _, _ => s.setChecker { k with returned := none }

/-- R87: whether the octet that completes the probe has been returned in this frame period (log 20). -/
def lastOctetReturned (s : State) (e : ProbeEntry) : Bool :=
  s.checker.started && decide (s.checker.length ≤ s.checker.compared + 1)
    && (s.returnedOctet e.port).isSome

end State

/-- PROBE_COMPLETE (R87): the last octet of a probe, once it has been returned, is compared and completes the
probe. Without it the frame period's end does (log 20). -/
def execProbeComplete (s : State) : Host.Outcome State Fault Refusal :=
  .next <|
    match s.checker.state with
    | .counting e => if s.lastOctetReturned e then s.countOctet e else s
    | _ => s

end Sys2Proof.Machine
end

