-- ==== Sys2Proof/Machine/ControlSlot.lean ====
section
/-! DEFINITION. The control slot of a port (chapter 11, sections 11.1 and 11.2): the control receiver, the end
of a record, the end of serving, and the control transmitter. -/

namespace Sys2Proof.Machine

/-- The kind code and result of a DONE response to RESET EXCHANGE, with which its body begins. -/
def resetDoneHeader : List Octet := [0x5F, 0x00]

/-- Whether a response body is that of an accepted RESET EXCHANGE (R172). -/
def isResetResponse (body : List Octet) : Bool := body.take 2 == resetDoneHeader

/-! ## Reception (R160, R161) -/

namespace State

/-- R160: one octet at the control receiver. -/
def controlOctet (s : State) (p : Port) (o : Octet) : State :=
  let c := s.control p
  s.setControl p <|
    match c.rx with
    | .hunt => if o = 0xC3 then { c with rx := .length } else c
    | .length =>
      if 1 ≤ o.toNat ∧ o.toNat ≤ 40 then { c with rx := .body o.toNat [] }
      else { c with rx := .hunt, ended := c.ended ++ [.lengthRefused] }
    | .body len got =>
      if (got ++ [o]).length < len then { c with rx := .body len (got ++ [o]) }
      else { c with rx := .check len (got ++ [o]) }
    | .check len body => { c with rx := .hunt, ended := c.ended ++ [.whole len body o] }

end State

/-- R161: the sum of the length, the body octets and the check, modulo 256. -/
def recordSum (len : Nat) (body : List Octet) (check : Octet) : Nat :=
  (len + (body.map BitVec.toNat).sum + check.toNat) % 256

namespace State

/-- R161: an accepted record joins the request queue, or is lost to overrun when the queue holds 2. -/
def acceptRecord (s : State) (p : Port) (body : List Octet) : State :=
  let c := s.control p
  if c.requests.length < 2 then s.setControl p { c with requests := c.requests ++ [body] }
  else
    let r := s.port p
    (s.setControl p { c with overrunFlag := true }).setPort p
      { r with counts := { r.counts with overrun := bump16 r.counts.overrun } }

/-- R161: what an ended record does. -/
def endRecord (s : State) (p : Port) : RecordEnd → State
  | .lengthRefused => s.lineEvent p .ccf
  | .whole len body check =>
    if recordSum len body check = 0 then s.acceptRecord p body else s.lineEvent p .ccf

/-- R161: the oldest record that has ended on a port is taken. -/
def takeEnded (s : State) (p : Port) : State :=
  match (s.control p).ended with
  | [] => s
  | e :: rest => (s.setControl p { s.control p with ended := rest }).endRecord p e

/-- R56: every record that has ended on a port is taken, oldest first. A later line event of the port and the
end of its serving make this first, so that neither overtakes a record (log 34). -/
def takeAllEnded (s : State) (p : Port) : State :=
  (s.control p).ended.foldl (fun s _ => s.takeEnded p) s

end State

/-- CONTROL_RECORD (R161): the oldest record that has ended on the port is taken. -/
def execControlRecord (p : Port) (s : State) : Host.Outcome State Fault Refusal :=
  .next (s.takeEnded p)

/-! ## The end of serving (R164) -/

namespace State

/-- R172: the emptying of the port's response queue makes a waiting reset due. -/
def resetOnEmptying (e : Engine) (p : Port) : ResetPhase :=
  match e.resetPhase with
  | .waiting q => if q = p then .due else .waiting q
  | r => r

/-- R164: a request that the engine holds from the port will have its response discarded. -/
def orphan (h : HeldRequest) (p : Port) : HeldRequest :=
  if h.port = p then { h with orphaned := true } else h

/-- R164: a port, whose ended records have been taken, stops serving its control slot. Its queues are emptied,
its control receiver returns to HUNT, a record held in part is dropped, the overrun flag stands, and a request
already taken from it loses its response. -/
def endServing (s : State) (p : Port) : State :=
  (s.setControl p { Control.reset with overrunFlag := (s.control p).overrunFlag }).setEngine
    { s.engine with
      held := s.engine.held.map fun h => orphan h p
      resetPhase := resetOnEmptying s.engine p }

end State

/-! ## Transmission (R162) -/

/-- The octets of a response on the line: start, length, body and check (R162). -/
def recordOctets (body : List Octet) : List Octet :=
  let sum := (body.length + (body.map BitVec.toNat).sum) % 256
  [0xC3, BitVec.ofNat 8 body.length] ++ body ++ [BitVec.ofNat 8 (256 - sum)]

/-- The frames that a response occupies: L + 3 (R162). -/
def recordLength (body : List Octet) : Nat := body.length + 3

/-- RESPONSE_SENT (R162): a response whose last octet has been sent leaves the response queue; that of a
RESET EXCHANGE makes the reset due (R172). Its place among the frames is the model's choice (log 36). -/
def execResponseSent (p : Port) (s : State) : Host.Outcome State Fault Refusal :=
  .next <|
    match (s.control p).responses with
    | [] => s
    | body :: rest =>
      if (s.control p).sent = recordLength body then
        let s' := s.setControl p { s.control p with responses := rest, sent := 0 }
        if isResetResponse body then s'.setEngine { s.engine with resetPhase := .due } else s'
      else s

end Sys2Proof.Machine
end

