-- ==== Sys2Proof/Machine/Flags.lean ====
section
/-! DEFINITION. The octets of responses (chapter 11, "Record layouts"): result codes, the status octet, and
the reports that the kinds carry. -/

namespace Sys2Proof.Machine

/-- The results of R166. -/
inductive Result where
  | done | busy | denied | range | state | unknown
deriving DecidableEq, Repr

/-- The code of a result (R166). -/
def Result.code : Result → Octet
  | .done => 0x00 | .busy => 0x01 | .denied => 0x02 | .range => 0x03 | .state => 0x04
  | .unknown => 0x05

/-! ## Numbers (R165: the most significant octet first) -/

/-- A number of one octet. -/
def one (n : Nat) : List Octet := [BitVec.ofNat 8 n]

/-- A number of two octets. -/
def two (n : Nat) : List Octet := [BitVec.ofNat 8 (n / 256), BitVec.ofNat 8 n]

/-- A number of three octets. -/
def three (n : Nat) : List Octet :=
  [BitVec.ofNat 8 (n / 65536), BitVec.ofNat 8 (n / 256), BitVec.ofNat 8 n]

/-- A yes or no as an octet: 1 or 0. -/
def yesNo (b : Bool) : List Octet := one (if b then 1 else 0)

/-- A number of one octet, 0xFF for none. -/
def oneOrNone (n : Option Nat) : List Octet := one (n.getD 0xFF)

/-- A descriptor number, 0xFFFF for absent. -/
def descOctets (d : Option Desc) : List Octet :=
  match d with
  | some x => two x.val
  | none => two 0xFFFF

/-- A path as port and slot number, 0xFF and 0 for absent. -/
def pathOctets (q : Option PathSlot) : List Octet :=
  match q with
  | some x => one x.port.val ++ one (x.slot.val + 1)
  | none => one 0xFF ++ one 0

/-- A set of eight as an octet, member i at bit i. -/
def octetOfSet (member : Fin 8 → Bool) : Octet :=
  BitVec.ofNat 8 ((List.finRange 8).map fun i => if member i then 2 ^ i.val else 0).sum

/-! ## Codes -/

def Service.code : Service → Nat
  | .inService => 0 | .barred => 1 | .idle => 2

def Discipline.code : Discipline → Nat
  | .prompt => 0 | .clean => 1

def OffsetMode.code : OffsetMode → Nat
  | .keep => 0 | .value _ => 1 | .stationSlot => 2

def Standing.code : Standing → Nat
  | .idle => 0 | .barred => 1 | .displaced => 2 | .routed _ => 3 | .staged _ _ => 4 | .stranded => 5

def RxState.code : RxState → Nat
  | .noSignal => 0 | .hunting => 1 | .aligned => 2

def PortState.code : PortState → Nat
  | .disabled => 0 | .down => 1 | .awaitProbe => 2 | .probing => 3 | .up => 4 | .suspect => 5
  | .loopback _ _ => 6

def faultCode : FaultKind → Nat
  | .depth => 0 | .withdrawn => 1 | .tier => 2

/-- The test verdict: 0 UP, 1 SUSPECT, 2 DOWN, 0xFF outside LOOPBACK. -/
def verdictCode : PortState → Nat
  | .loopback _ .up => 0
  | .loopback _ .suspect => 1
  | .loopback _ .down => 2
  | _ => 0xFF

/-- The loopback ready setting as a bit, coded as SET PORT codes it: 0 ready, 1 not ready (R77 and the record
layouts of chapter 11; log 16). A port outside LOOPBACK has none, and the bit is free (log 32). -/
def readySettingBit : PortState → Bool
  | .loopback ready _ => !ready
  | _ => Config.noSettingBit

/-! ## The status octet (R165) -/

/-- Bit 0 overrun seen, bit 1 attention, bits 2 and 3 the requester's tier; bits 4 to 7 are not stated
(log 15). -/
def State.statusOctet (s : State) (p : Port) : Octet :=
  Config.statusSpare ++ BitVec.ofNat 2 (s.tierOf (s.hostOf p)).val
    ++ BitVec.ofBool (s.needsAttention (s.hostOf p)) ++ BitVec.ofBool (s.control p).overrunFlag

/-! ## The route report (R14) -/

/-- The current set, absent unless ROUTED or STAGED (R6). -/
def Standing.current : Standing → Option CurrentSet
  | .routed cur => some cur
  | .staged cur _ => some cur
  | _ => none

/-- The staged set, absent unless STAGED (R6). -/
def Standing.move : Standing → Option StagedSet
  | .staged _ move => some move
  | _ => none

/-- The preferred flag of a set, no when it is empty. -/
def preferredOf (cur : Option CurrentSet) : Bool :=
  match cur with
  | some x => x.preferred
  | none => false

/-- The staged preferred flag, no when the set is empty. -/
def stagedPreferredOf (move : Option StagedSet) : Bool :=
  match move with
  | some x => x.preferred
  | none => false

/-- The staged timer's remaining milliseconds, 0 when it is stopped (R14). -/
def stagedTimerOf (move : Option StagedSet) : Nat :=
  match move with
  | some x => x.timer
  | none => 0

/-- The flags of the route report: bits 0 to 4; bits 5 to 7 are not stated (log 15). -/
def State.routeFlags (s : State) (c : Circuit) : Octet :=
  let r := s.route c
  Config.routeFlagsSpare ++ BitVec.ofBool (s.queued c) ++ BitVec.ofBool r.stationLost
    ++ BitVec.ofBool r.placed ++ BitVec.ofBool (stagedPreferredOf r.standing.move)
    ++ BitVec.ofBool (preferredOf r.standing.current)

/-- The route report of a circuit, 20 octets (R14). -/
def State.routeReport (s : State) (c : Circuit) : List Octet :=
  let r := s.route c
  let cur := r.standing.current
  let move := r.standing.move
  one c.val ++ one r.standing.code ++ descOctets r.fields.head ++ one r.fields.tier.val
    ++ one r.fields.cls.val ++ one r.fields.discipline.code ++ one r.fields.offset.val
    ++ pathOctets (cur.map CurrentSet.path) ++ descOctets (cur.map CurrentSet.via)
    ++ pathOctets (move.map StagedSet.path) ++ descOctets (move.map StagedSet.via)
    ++ two (stagedTimerOf move) ++ one r.moves ++ [s.routeFlags c]

/-! ## The descriptor report (R41) -/

/-- The slot rule and its n or base; the second octet of a POOL is not stated (log 24). -/
def slotRuleOctets (d : Desc) : SlotRule → List Octet
  | .fixed n => one 0 ++ one (n.val + 1)
  | .offset base => one 1 ++ one (base.val + 1)
  | .pool => one 2 ++ [Config.poolSlotOctet d]

/-- The descriptor number and the descriptor record. -/
def State.descReport (s : State) (d : Desc) : List Octet :=
  let x := s.desc d
  two d.val ++
    match x.kind with
    | .path p rule alternative =>
      one 0 ++ one x.tier.val ++ yesNo x.withdrawn ++ one p.val ++ slotRuleOctets d rule
        ++ descOctets alternative
    | .divert target shift =>
      one 1 ++ one x.tier.val ++ yesNo x.withdrawn ++ two target.val ++ one shift.val

/-! ## The port report (R77) -/

/-- The flags of the port report: bit 0 LOS hold, bit 1 far-end ready, bit 2 the loopback ready setting, and
bits 3 to 7, which are not stated (log 15). -/
def State.portFlags (s : State) (p : Port) : Octet :=
  Config.portFlagsSpare ++ BitVec.ofBool (readySettingBit (s.port p).state)
    ++ BitVec.ofBool (s.pathRx p).farEndReady ++ BitVec.ofBool (s.port p).losHold

/-- The port report, 27 octets (R77). -/
def State.portReport (s : State) (p : Port) : List Octet :=
  let r := s.port p
  one p.val ++ one r.state.code ++ two r.h ++ one r.q ++ one (s.pathRx p).framer.state.code
    ++ [s.portFlags p] ++ one (verdictCode r.state) ++ one (s.usedCount p) ++ one r.ceiling
    ++ two r.counts.fae ++ two r.counts.ccf ++ two r.counts.ferd ++ two r.counts.los
    ++ two r.counts.down ++ two r.counts.overrun ++ three (r.failBack.getD 0)
    ++ one (s.hostOf p).val ++ one (s.groupOf p).val

/-! ## The other reports -/

/-- READ GROUP (R108). -/
def State.groupReport (s : State) (g : Group) : List Octet :=
  one g.val ++ yesNo (decide ((s.group g).state = .suspect)) ++ two ((s.group g).hold.getD 0)
    ++ [octetOfSet fun p => s.groupOf p == g]

/-- READ TRUNK (R60). -/
def State.trunkReport (s : State) (t : Trunk) : List Octet :=
  one t.val ++ one (s.trunk t).state.code ++ yesNo (s.inAlarm t)

/-- A port's standing with the checker (R90): 0 being probed, else its position in the queue. -/
def State.standing (s : State) (p : Port) : Nat :=
  if s.checker.runsOn p then 0 else s.checker.queue.findIdx (fun e => e.port == p) + 1

/-- PROBE PORT (R90). -/
def State.standingReport (s : State) (p : Port) : List Octet := one p.val ++ one (s.standing p)

/-- The value octet of a template as READ SWEEP reports it; without VALUE it is not stated (log 17). -/
def Template.reportedValue (t : Template) : Octet :=
  match t.mode with
  | .value v => BitVec.ofNat 8 v.val
  | _ => Config.unusedBulkValue t.valueOctet

/-- The extents, template and originator of the walk record in READ SWEEP. -/
def orderOctets (order : Option WalkOrder) : List Octet :=
  match order with
  | none => List.replicate 14 0xFF
  | some o =>
    one o.trunkFirst.val ++ one o.trunkLast.val ++ one o.slotFirst.val ++ one o.slotLast.val
      ++ one o.template.service.code ++ descOctets o.template.head ++ one o.template.tier.val
      ++ one o.template.cls.val ++ one o.template.discipline.code ++ one o.template.mode.code
      ++ [o.template.reportedValue] ++ one o.originator.val ++ one o.originatorTier.val

/-- The cursor of the walk record, 0xFF for none. -/
def Walker.cursorOctets (w : Walker) : List Octet :=
  oneOrNone (w.cursor.map fun x => x.1.val) ++ oneOrNone (w.cursor.map fun x => x.2.val)

/-- READ SWEEP (R127). -/
def State.sweepReport (s : State) : List Octet :=
  yesNo (decide (s.sweep.state = .running)) ++ one s.sweepQueue.length
    ++ one (s.sweepQueue.filter fun c => decide ((s.route c).standing = .displaced)).length
    ++ oneOrNone (s.sweepQueue.head?.map Fin.val) ++ one s.strandedCircuits.length
    ++ oneOrNone (s.strandedCircuits.head?.map Fin.val)
    ++ yesNo (decide (s.walker.state = .walking)) ++ orderOctets s.walker.order
    ++ one s.walker.total ++ s.walker.cursorOctets ++ one s.walker.written
    ++ one s.walker.skipped

/-- BULK ABORT (R145). -/
def Walker.abortReport (w : Walker) : List Octet :=
  one w.written ++ one w.skipped ++ w.cursorOctets

/-! ## The event answer (R157) -/

/-- The member of a port set at an index, as port and loopback mark (R152). -/
def memberOctets (i : Fin 16) : List Octet := one (i.val / 2) ++ one (i.val % 2)

/-- The first member of a set of ports (R152). -/
def firstMemberOctets (v : Vector Bool 16) : List Octet :=
  match firstMember v with
  | some i => memberOctets i
  | none => []

/-- The detail of a source, as a take of it finds the host's record (R152 to R154). -/
def State.detailOctets (s : State) (h : HostId) : Source → List Octet
  | .pathDown => firstMemberOctets (s.hostRecord h).pathDown
  | .stranded => one s.strandedCircuits.length ++ oneOrNone (s.strandedCircuits.head?.map Fin.val)
  | .chainFault =>
    match (s.hostRecord h).chainFault.latest with
    | some (c, d, k) =>
      one c.val ++ two d.val ++ one (faultCode k) ++ one (s.hostRecord h).chainFault.count
    | none => []
  | .groupSuspect =>
    match firstMember (s.hostRecord h).groupSuspect with
    | some g => one g.val
    | none => []
  | .pathSuspect => firstMemberOctets (s.hostRecord h).pathSuspect
  | .stationAlarm => [octetOfSet s.inAlarm]
  | .forcedCutover =>
    match (s.hostRecord h).forcedCutover.latest with
    | some c => one c.val ++ one (s.hostRecord h).forcedCutover.count
    | none => []
  | .probeResult =>
    match (s.hostRecord h).probeResult.latest with
    | some (p, e, ok) =>
      one p.val ++ two e ++ yesNo (!ok) ++ one (s.hostRecord h).probeResult.count
    | none => []
  | .pathUp => firstMemberOctets (s.hostRecord h).pathUp
  | .bulkDone =>
    match (s.hostRecord h).bulkDone with
    | some (completed, written, skipped) => yesNo (!completed) ++ one written ++ one skipped
    | none => []
  | .sweepIdle => []

/-! ## Parameters (R170) -/

/-- The first identifier, then the stored values from it on, up to 12 of them. -/
def State.paramReport (s : State) (first : Fin 22) : List Octet :=
  one first.val ++ (((Param.all.drop first.val).take 12).flatMap fun x => three (s.param x))

end Sys2Proof.Machine
end

