-- ==== Sys2Proof/Machine/Engine.lean ====
section
/-! DEFINITION. The request engine (chapter 11, R163 to R166): the round over the ports, the taking of a
request, its execution, and the forming of its response. -/

namespace Sys2Proof.Machine

/-! ## Which row of the table serves a request -/

/-- The kind code of a request, its first body octet. -/
def kindIs (code : Octet) (body : List Octet) : Bool := body.head? == some code

/-- The kind codes of the table of section 11.4. -/
def kindCodes : List Octet :=
  [0x10, 0x11, 0x14, 0x15, 0x20, 0x21, 0x22, 0x23, 0x24, 0x25, 0x30, 0x31, 0x32, 0x33, 0x40, 0x41,
   0x42, 0x43, 0x50, 0x51, 0x5F]

/-- R166, check 1: the kind code is not in the table. -/
def kindUnknown (body : List Octet) : Bool :=
  match body.head? with
  | some k => !kindCodes.contains k
  | none => true

/-- The action that a SET PORT carries, when it carries a known one. -/
def actionIn (body : List Octet) : Option PortAction := body[2]?.bind actionOf

/-- Whether a request is a SET PORT of an action. One that carries no known action is refused whatever row
serves it, and any of the six may (log 18). -/
def setPortIs (a : PortAction) (body : List Octet) : Bool :=
  kindIs 0x21 body && (actionIn body == some a || actionIn body == none)

/-! ## Taking a request (R163) -/

/-- The ports from the first after the pointer, round to the pointer itself. -/
def roundFrom (pointer : Option Port) : List Port :=
  match pointer with
  | none => allPorts
  | some p => (allPorts.filter fun q => p < q) ++ allPorts.filter fun q => q ≤ p

namespace State

/-- R163: a port's request queue holds a request and its response queue fewer than 2 responses. -/
def eligible (s : State) (p : Port) : Bool :=
  !(s.control p).requests.isEmpty && decide ((s.control p).responses.length < 2)

/-- R163: the first eligible port after the pointer. -/
def nextPort (s : State) : Option Port := (roundFrom s.engine.pointer).find? s.eligible

/-- R163, R172: whether the engine takes a request now: it holds none, and no reset is in hand. -/
def engineFree (s : State) : Bool :=
  s.engine.held.isNone && decide (s.engine.resetPhase = .none)

/-- R163: the engine takes the oldest request of a port and holds it. -/
def holdRequest (s : State) (p : Port) (body : List Octet) (rest : List (List Octet)) : State :=
  (s.setControl p { s.control p with requests := rest }).setEngine
    { s.engine with
      pointer := some p, held := some { port := p, body := body, orphaned := false } }

/-- R163: the engine takes the next request, if the row serves it (log 6). -/
def takeRequest (s : State) (serves : List Octet → Bool) : State :=
  if s.engineFree then
    match s.nextPort with
    | none => s
    | some p =>
      match (s.control p).requests with
      | [] => s
      | body :: rest => if serves body then s.holdRequest p body rest else s
  else s

end State

/-! ## Executing a request (R163 to R166) -/

/-- What the execution of a request leaves: the state, the result, and the data of the response. -/
structure Answer where
  state : State
  result : Result
  data : List Octet

/-- R166: a refused request changes nothing and carries no data. -/
def refuse (s : State) (r : Result) : Answer := { state := s, result := r, data := [] }

/-- R166: an executed request. -/
def accept (s : State) (data : List Octet) : Answer := { state := s, result := .done, data := data }

/-- The tier test of a kind that is refused to hosts above a tier. -/
def State.trusted (s : State) (p : Port) (limit : Tier) : Bool :=
  decide (s.tierOf (s.hostOf p) ≤ limit)

namespace State

/-- R164: whether the response of the request held will be discarded. -/
def responseLost (s : State) : Bool :=
  match s.engine.held with
  | some h => h.orphaned
  | none => false

/-- R165: the body of the response to a request of a port, formed on the state that the execution left. -/
def responseBody (s : State) (p : Port) (kind : Octet) (result : Result) (data : List Octet) :
    List Octet :=
  [kind, result.code, s.statusOctet p] ++ data

/-- R163 to R165: the response is formed, which clears the overrun flag of the port, and is joined to the
tail of its response queue or discarded; the engine holds no request. -/
def giveResponse (s : State) (p : Port) (response : List Octet) : State :=
  let c := s.control p
  let queue := if s.responseLost then c.responses else c.responses ++ [response]
  (s.setControl p { c with overrunFlag := false, responses := queue }).setEngine
    { s.engine with held := none }

/-- R163 to R166: the request held is executed, and its response formed. -/
def execute (s : State) (h : HeldRequest) (act : State → Port → List Octet → Answer) : State :=
  let a := act s h.port h.body
  a.state.giveResponse h.port
    (a.state.responseBody h.port (h.body.headD 0) a.result a.data)

/-- R163: a request kind as a command: the engine takes the next request, or executes the request that it
holds, when the row serves it (log 6). -/
def serve (s : State) (phase : EnginePhase) (serves : List Octet → Bool)
    (act : State → Port → List Octet → Answer) : State :=
  match phase with
  | .take => s.takeRequest serves
  | .run =>
    let s' := s.takeRequest serves
    match s'.engine.held with
    | some h => if serves h.body then s'.execute h act else s'
    | none => s'

end State

/-! ## UNKNOWN_KIND (R166) -/

/-- R166: a kind code not in the table is refused with UNKNOWN. -/
def answerUnknown (s : State) (_p : Port) (_body : List Octet) : Answer := refuse s .unknown

/-- UNKNOWN_KIND (R166). -/
def execUnknownKind (phase : EnginePhase) (s : State) : Host.Outcome State Fault Refusal :=
  .next (s.serve phase kindUnknown answerUnknown)

end Sys2Proof.Machine
end

