-- ==== Sys2Proof/Machine/AttentionRequests.lean ====
section
/-! DEFINITION. The requests at the attention controller: TAKE EVENT, SET MASK, SET URGENCY, CLEAR ALARM
(chapter 10). Each acts on the record of the host to which its arrival port is strapped. -/

namespace Sys2Proof.Machine

/-! ## TAKE EVENT (R157) -/

/-- R157: a source is taken: the mask becomes its urgency, and its pending state is taken. -/
def State.takeSource (s : State) (h : HostId) (x : Source) : State :=
  s.setHostRecord h (({ s.hostRecord h with mask := s.urgency h x } : HostRecord).taken x)

/-- The number of a source (10.2). -/
def Source.number (x : Source) : Nat := (sourceIndex x).val + 1

/-- R157: an answer's source number, urgency and mask after the take, before its detail. -/
def answerHeader (source urgency : Nat) (mask : Urgency) : List Octet :=
  one source ++ one urgency ++ one mask.val

/-- R157. -/
def answerTakeEvent (s : State) (p : Port) (body : List Octet) : Answer :=
  let h := s.hostOf p
  match bareBody body with
  | none => refuse s .range
  | some _ =>
    if (s.hostRecord h).latch then
      accept s (answerHeader 0 0 (s.hostRecord h).mask ++ yesNo s.exchangeLost)
    else
      match s.topSource h with
      | some x =>
        accept (s.takeSource h x)
          (answerHeader x.number (s.urgency h x).val (s.urgency h x) ++ s.detailOctets h x)
      | none => accept s (answerHeader 0xFF 0 (s.hostRecord h).mask)

/-- TAKE_EVENT (R157). -/
def execTakeEvent (phase : EnginePhase) (s : State) : Host.Outcome State Fault Refusal :=
  .next (s.serve phase (kindIs 0x40) answerTakeEvent)

/-! ## SET MASK, SET URGENCY, CLEAR ALARM (R158) -/

/-- R158. -/
def State.storeMask (s : State) (h : HostId) (m : Urgency) : State :=
  s.setHostRecord h { s.hostRecord h with mask := m }

/-- R158. -/
def answerSetMask (s : State) (p : Port) (body : List Octet) : Answer :=
  match maskOf body with
  | none => refuse s .range
  | some m => accept (s.storeMask (s.hostOf p) m) (one m.val)

/-- SET_MASK (R158). -/
def execSetMask (phase : EnginePhase) (s : State) : Host.Outcome State Fault Refusal :=
  .next (s.serve phase (kindIs 0x41) answerSetMask)

/-- R158. -/
def State.storeUrgency (s : State) (h : HostId) (n : Fin 11) (u : Urgency) : State :=
  s.setHostRecord h { s.hostRecord h with urgency := (s.hostRecord h).urgency.set n u }

/-- R158. -/
def answerSetUrgency (s : State) (p : Port) (body : List Octet) : Answer :=
  match urgencyWriteOf body with
  | none => refuse s .range
  | some (n, u) => accept (s.storeUrgency (s.hostOf p) n u) (one (n.val + 1) ++ one u.val)

/-- SET_URGENCY (R158). -/
def execSetUrgency (phase : EnginePhase) (s : State) : Host.Outcome State Fault Refusal :=
  .next (s.serve phase (kindIs 0x42) answerSetUrgency)

/-- R155, R158. -/
def State.clearLatch (s : State) (h : HostId) : State :=
  s.setHostRecord h { s.hostRecord h with latch := false }

/-- R158. -/
def answerClearAlarm (s : State) (p : Port) (body : List Octet) : Answer :=
  match bareBody body with
  | none => refuse s .range
  | some _ => accept (s.clearLatch (s.hostOf p)) (yesNo s.exchangeLost)

/-- CLEAR_ALARM (R158). -/
def execClearAlarm (phase : EnginePhase) (s : State) : Host.Outcome State Fault Refusal :=
  .next (s.serve phase (kindIs 0x43) answerClearAlarm)

end Sys2Proof.Machine
end

