-- ==== Sys2Proof/Machine/Bulk.lean ====
section
/-! DEFINITION. The bulk walker (chapter 9): its extents, and one step of a walk. -/

namespace Sys2Proof.Machine

/-- R142: the number of members of an extent of a numbering of `n`. -/
def extentSize (n first last : Nat) : Nat :=
  if first ≤ last then last - first + 1 else last + n + 1 - first

/-- R142: how many trunks the rectangle has. -/
def WalkOrder.trunks (o : WalkOrder) : Nat := extentSize 8 o.trunkFirst.val o.trunkLast.val

/-- R142: how many station slots the rectangle has. -/
def WalkOrder.slots (o : WalkOrder) : Nat := extentSize 16 o.slotFirst.val o.slotLast.val

/-- R142: the number of entries in the rectangle. -/
def WalkOrder.total (o : WalkOrder) : Nat := o.trunks * o.slots

/-- R142: the trunk of the entry of step `i`, counted from 0, in slot-major order. -/
def WalkOrder.trunkOfStep (o : WalkOrder) (i : Nat) : Trunk :=
  ⟨(o.trunkFirst.val + i % o.trunks) % 8, Nat.mod_lt _ (by omega)⟩

/-- R142: the station slot of the entry of step `i`, counted from 0, in slot-major order. -/
def WalkOrder.slotOfStep (o : WalkOrder) (i : Nat) : StationSlot :=
  ⟨(o.slotFirst.val + i / o.trunks) % 16, Nat.mod_lt _ (by omega)⟩

/-- R143: the offset that a step writes, from the entry's present one and its station slot. -/
def OffsetMode.offset (m : OffsetMode) (present : Offset) (slot : StationSlot) : Offset :=
  match m with
  | .keep => present
  | .value v => v
  | .stationSlot => ⟨slot.val, by omega⟩

/-- R143: the fields that a step writes. -/
def Template.fields (t : Template) (present : Offset) (slot : StationSlot) : RouteFields :=
  { head := t.head, tier := t.tier, cls := t.cls, discipline := t.discipline
    offset := t.mode.offset present slot }

/-- R16: the tier test of a write of a route entry. -/
def tierTest (requester present new : Tier) : Bool :=
  decide (requester ≤ present) && decide (requester ≤ new)

namespace State

/-- R143: the write or the skip of a step, without the walk record. -/
def applyStep (s : State) (o : WalkOrder) (c : Circuit) (slot : StationSlot) : State :=
  let f := (s.route c).fields
  if tierTest o.originatorTier f.tier o.template.tier then
    s.writeEntry c o.template.service (o.template.fields f.offset slot)
  else s

/-- The walk record after a step (R143). -/
def stepRecord (s : State) (o : WalkOrder) (t : Trunk) (slot : StationSlot) : Walker :=
  let passed := tierTest o.originatorTier (s.route (circuitAt t slot)).fields.tier o.template.tier
  { s.walker with
    cursor := some (t, slot)
    written := s.walker.written + (if passed then 1 else 0)
    skipped := s.walker.skipped + (if passed then 0 else 1)
    stepsDue := s.walker.stepsDue - 1 }

/-- R144, R145: the walk ends; the record is kept as it stands, and BULK DONE is raised. -/
def endWalk (s : State) (completed : Bool) : State :=
  (s.setWalker { s.walker with state := .idle, stepsDue := 0 }).raise
    (.bulkDone completed s.walker.written s.walker.skipped)

/-- R143, R144: one step of the walk. -/
def walkStep (s : State) (o : WalkOrder) : State :=
  let i := s.walker.written + s.walker.skipped
  let t := o.trunkOfStep i
  let slot := o.slotOfStep i
  let s' := (s.applyStep o (circuitAt t slot) slot).setWalker (s.stepRecord o t slot)
  if s'.walker.written + s'.walker.skipped = s'.walker.total then s'.endWalk true else s'

end State

/-- BULK_STEP (R143): a step of the WALKING walker that falls due with a frame period. -/
def execBulkStep (s : State) : Host.Outcome State Fault Refusal :=
  .next <|
    match s.walker.state, s.walker.order with
    | .walking, some o => if 0 < s.walker.stepsDue then s.walkStep o else s
    | _, _ => s

end Sys2Proof.Machine
end

