-- ==== Sys2Proof/Machine/Events.lean ====
section
/-! DEFINITION. The card's own events between requests: decay ticks, timer expiries, block-end passage, and
the entries that the group monitor and the sweep engine take (chapters 4, 6 and 8). -/

namespace Sys2Proof.Machine

namespace State

/-! ## The group monitor (R97 to R100) -/

/-- R96: the member ports of a group, by the straps. -/
def members (s : State) (g : Group) : List Port := allPorts.filter fun p => s.groupOf p == g

/-- R99: whether a member port is in DOWN, AWAIT PROBE or PROBING. -/
def memberOut (s : State) (g : Group) : Bool :=
  (s.members g).any fun p => (s.port p).state.recovering

/-- R100: a SUSPECT group whose hold timer has stopped clears when no member is out. -/
def examineGroup (s : State) (g : Group) : State :=
  let r := s.group g
  if r.state = .suspect ∧ r.hold = none ∧ !s.memberOut g then
    s.setGroup g { r with state := .clear }
  else s

/-- R97: whether a DOWN entry of a port qualifies. -/
def entryQualifies (s : State) (p : Port) : Bool :=
  match (s.group (s.groupOf p)).lastDown with
  | none => false
  | some (q, t) =>
    decide (0 < s.param .groupWindow) && decide (q ≠ p)
      && decide (s.now - t ≤ s.param .groupWindow)

/-- R97: a CLEAR group becomes SUSPECT. -/
def suspectGroup (s : State) (g : Group) : State :=
  let s₁ := (s.setGroup g
    { s.group g with state := .suspect, hold := some (s.param .groupHold) }).raise (.groupSuspect g)
  if s.isOn .drain then s₁.handGroupDrain g else s₁

/-- R97, R98: a DOWN entry at the group's record. -/
def takeDownEntry (s : State) (p : Port) : State :=
  let g := s.groupOf p
  let s₁ := s.setGroup g { s.group g with lastDown := some (p, s.now) }
  if s.entryQualifies p then
    match (s.group g).state with
    | .clear => s₁.suspectGroup g
    | .suspect => s₁.setGroup g { s₁.group g with hold := some (s.param .groupHold) }
  else s₁

/-- One record's decay tick (R65, R100). -/
def decayRecord (s : State) : DecayRecord → State
  | .port p => s.decayPort p
  | .group g => s.examineGroup g

end State

/-- DECAY_TICK (R65, R66, R100): a tick that the timebase has given reaches every record, in the order
chosen (log 13). -/
def execDecayTick (order : List DecayRecord) (s : State) : Host.Outcome State Fault Refusal :=
  .next <|
    if 0 < s.time.decayDue then
      (decayOrder order).foldl (fun s r => s.decayRecord r)
        (s.setTime { s.time with decayDue := s.time.decayDue - 1 })
    else s

/-- STAGED_TIMER_EXPIRY (R133): the staged timer of a STAGED circuit has run out. -/
def execStagedTimerExpiry (c : Circuit) (s : State) : Host.Outcome State Fault Refusal :=
  .next <|
    match (s.route c).standing with
    | .staged cur move =>
      if move.timer = 0 then (s.cutover c cur move).raise (.forcedCutover c) else s
    | _ => s

/-- BLOCK_END_PASSAGE (R131, R132): a passage handed to the route store for a STAGED circuit. -/
def execBlockEndPassage (c : Circuit) (s : State) : Host.Outcome State Fault Refusal :=
  .next <|
    match (s.route c).standing with
    | .staged cur move => if move.blockEndPassed then s.cutover c cur move else s
    | _ => s

/-- HOLD_TIMER_EXPIRY (R99): the hold timer of a SUSPECT group has run out. -/
def execHoldTimerExpiry (g : Group) (s : State) : Host.Outcome State Fault Refusal :=
  .next <|
    if (s.group g).hold = some 0 then
      (s.setGroup g { s.group g with hold := none }).examineGroup g
    else s

/-- FAIL_BACK_EXPIRY (R106): a port's fail-back timer has run out. -/
def execFailBackExpiry (p : Port) (s : State) : Host.Outcome State Fault Refusal :=
  .next <|
    if (s.port p).failBack = some 0 then
      let s₁ := s.setPort p { s.port p with failBack := none }
      if s.isOn .failBackEnable then s₁.reviewWhere fun cur => !cur.preferred else s₁
    else s

/-- DOWN_ENTRY (R97): the group monitor takes a DOWN entry handed to it. -/
def execDownEntry (p : Port) (s : State) : Host.Outcome State Fault Refusal :=
  .next <|
    if p ∈ s.handed.downEntries then
      (s.setHanded { s.handed with downEntries := s.handed.downEntries.erase p }).takeDownEntry p
    else s

/-- UP_ENTRY (R100): the group monitor takes an UP entry handed to it. -/
def execUpEntry (p : Port) (s : State) : Host.Outcome State Fault Refusal :=
  .next <|
    if p ∈ s.handed.upEntries then
      (s.setHanded { s.handed with upEntries := s.handed.upEntries.erase p }).examineGroup (s.groupOf p)
    else s

/-- PORT_DRAIN (R102): the sweep engine takes a port's entry into SUSPECT. -/
def execPortDrain (p : Port) (s : State) : Host.Outcome State Fault Refusal :=
  .next <|
    if p ∈ s.handed.portDrains then
      (s.setHanded { s.handed with portDrains := s.handed.portDrains.erase p }).reviewWhere
        fun cur => decide (cur.path.port = p)
    else s

/-- GROUP_DRAIN (R103): the sweep engine takes a group's entry into SUSPECT. -/
def execGroupDrain (g : Group) (s : State) : Host.Outcome State Fault Refusal :=
  .next <|
    if g ∈ s.handed.groupDrains then
      (s.setHanded { s.handed with groupDrains := s.handed.groupDrains.erase g }).reviewWhere
        fun cur => s.groupOf cur.path.port == g && s.inService cur.path.port
    else s

end Sys2Proof.Machine
end

