-- ==== Sys2Proof/Machine/Lines.lean ====
section
/-! DEFINITION. The receivers of the station trunks and the path ports (chapter 3, sections 3.2 to 3.4):
octet by octet, with the octets they deliver. -/

namespace Sys2Proof.Machine

/-! ## What trunk and port receivers share (R51, R52) -/

/-- A good alignment octet on a path link. -/
def goodPath (o : Octet) : Bool := o == 0x9B || o == 0x9A

/-- A good alignment octet on a station trunk. -/
def goodTrunk (o : Octet) : Bool := o == 0x9B

/-- R51: whether an octet confirms the candidate that stands one frame of `n` octets before it. -/
def Framer.confirms (f : Framer) (n : Nat) (good : Bool) : Bool :=
  good && f.candidates[n - 1]? == some true

/-- R51: the receiver enters ALIGNED at the octet that opened its first aligned frame. -/
def Framer.align (f : Framer) : Framer :=
  { f with state := .aligned, badRun := 0, pos := 1, candidates := [] }

/-- R51: one octet that confirms nothing is kept as a candidate or as none, for one frame. -/
def Framer.search (f : Framer) (n : Nat) (good : Bool) : Framer :=
  { f with candidates := (good :: f.candidates).take n }

/-- R52, R53: the receiver leaves for HUNTING or NO SIGNAL, and its search starts afresh. -/
def Framer.lose (f : Framer) (target : RxState) : Framer :=
  { f with state := target, badRun := 0, pos := 0, candidates := [] }

/-- The position after one octet of an aligned frame of `n` octets. -/
def Framer.advance (f : Framer) (n : Nat) : Framer := { f with pos := (f.pos + 1) % n }

/-! ## Station trunks (R51, R52, R59) -/

namespace State

/-- R5, R59: station-lost on the 16 circuits of a trunk. -/
def setStationLost (s : State) (t : Trunk) (lost : Bool) : State :=
  { s with
    routes := Vector.ofFn fun c =>
      if trunkOf c = t then { s.route c with stationLost := lost } else s.route c }

/-- R131: a block-end code received for a circuit that the slot exchange sees STAGED is handed to the
route store. -/
def markBlockEnd (s : State) (c : Circuit) (o : Octet) : State :=
  match (s.route c).standing with
  | .staged cur move =>
    if move.seen ∧ o = s.codeOctet .blockEndCode then
      s.setRoute c
        { s.route c with standing := .staged cur { move with blockEndPassed := true } }
    else s
  | _ => s

/-- R8, R129: the slot exchange takes a station octet. It is sent on the current path of a circuit that
the frame sees ROUTED or STAGED and whose station-lost flag is no; otherwise it is discarded. -/
def stationOctet (s : State) (c : Circuit) (o : Octet) : State :=
  match s.exch.view[c] with
  | .carried _ =>
    if (s.route c).stationLost then s
    else (s.setExch { s.exch with toHost := s.exch.toHost.set c (some o) }).markBlockEnd c o
  | _ => s

/-- R52: the octet in the alignment position of an aligned trunk. -/
def trunkAlignment (s : State) (t : Trunk) (o : Octet) : State :=
  let f := s.trunk t
  if goodTrunk o then s.setTrunk t (({ f with badRun := 0 } : Framer).advance 17)
  else if f.badRun < 2 then
    s.setTrunk t (({ f with badRun := f.badRun + 1 } : Framer).advance 17)
  else (s.setTrunk t (f.lose .hunting)).setStationLost t true

/-- R49 to R53: one octet at a trunk receiver. -/
def trunkOctet (s : State) (t : Trunk) (o : Octet) : State :=
  let f := s.trunk t
  match f.state with
  | .noSignal => s
  | .hunting =>
    if f.confirms 17 (goodTrunk o) then (s.setTrunk t f.align).setStationLost t false
    else s.setTrunk t (f.search 17 (goodTrunk o))
  | .aligned =>
    if f.pos = 0 then s.trunkAlignment t o
    else
      (s.setTrunk t (f.advance 17)).stationOctet
        (circuitAt t ⟨(f.pos - 1) % 16, Nat.mod_lt _ (by omega)⟩) o

/-! ## Path ports (R51, R52, R54, R58) -/

/-- R54: what a good alignment octet does to far-end ready and the form run, and whether it is a FERD. -/
def takeForm (r : PathRx) (o : Octet) : PathRx × Bool :=
  let ready := o == 0x9B
  if ready == r.farEndReady then ({ r with formRun := 0 }, false)
  else if r.formRun < 3 then ({ r with formRun := r.formRun + 1 }, false)
  else ({ r with farEndReady := ready, formRun := 0 }, r.farEndReady)

/-- R54: a good alignment octet of an aligned frame, whose receiver fields are given. -/
def goodAlignment (s : State) (p : Port) (r : PathRx) (o : Octet) : State :=
  let (r', ferd) := takeForm r o
  let s' := s.setPathRx p r'
  if ferd then (s'.takeAllEnded p).lineEvent p .ferd else s'

/-- R52, R54, R58, R164: a port receiver leaves ALIGNED; the port stops serving its control slot. -/
def loseAlignment (s : State) (p : Port) (target : RxState) : State :=
  let r := s.pathRx p
  ((s.takeAllEnded p).setPathRx p { r with framer := r.framer.lose target, formRun := 0 }).endServing p

/-- R52: the octet in the alignment position of an aligned port. -/
def pathAlignment (s : State) (p : Port) (o : Octet) : State :=
  let r := s.pathRx p
  if goodPath o then
    s.goodAlignment p
      { r with framer := ({ r.framer with badRun := 0 } : Framer).advance 33 } o
  else if r.framer.badRun < 2 then
    ((s.takeAllEnded p).setPathRx p
      { r with
        framer := ({ r.framer with badRun := r.framer.badRun + 1 } : Framer).advance 33
        formRun := 0 }).lineEvent p .fae
  else (s.loseAlignment p .hunting).lineEvent p .fae

/-- R7, R130: the slot exchange takes a traffic octet: it goes to the circuit that the frame sees holding
the slot as CURRENT, and is discarded otherwise. -/
def trafficOctet (s : State) (q : PathSlot) (o : Octet) : State :=
  match s.exch.map[q.index] with
  | some { circuit := c, role := .current } =>
    s.setExch { s.exch with toStation := s.exch.toStation.set c (some o) }
  | _ => s

/-- R49: an octet of slot 31. -/
def probeOctet (s : State) (p : Port) (o : Octet) : State :=
  if s.checker.runsOn p then s.setChecker { s.checker with returned := some o } else s

/-- R49: a slot octet delivered at a position of the frame, 1 for slot 0 to 32 for slot 31. -/
def deliver (s : State) (p : Port) (pos : Nat) (o : Octet) : State :=
  if pos = 1 then s.controlOctet p o
  else if pos = 32 then s.probeOctet p o
  else s.trafficOctet { port := p, slot := ⟨(pos - 2) % 30, Nat.mod_lt _ (by omega)⟩ } o

/-- R49 to R55: one octet at a port receiver that is on its line. -/
def pathOctet (s : State) (p : Port) (o : Octet) : State :=
  let r := s.pathRx p
  match r.framer.state with
  | .noSignal => s
  | .hunting =>
    if r.framer.confirms 33 (goodPath o) then
      s.goodAlignment p { r with framer := r.framer.align, beganHunting := false } o
    else s.setPathRx p { r with framer := r.framer.search 33 (goodPath o) }
  | .aligned =>
    if r.framer.pos = 0 then s.pathAlignment p o
    else (s.setPathRx p { r with framer := r.framer.advance 33 }).deliver p r.framer.pos o

/-- R57: the receiver returns to its line from LOOPBACK. -/
def returnToLine (s : State) (p : Port) : State :=
  s.setPathRx p
    { PathRx.start (s.pathRx p).framer.measure with beganHunting := (s.pathRx p).beganHunting }

/-- R57: the receiver takes its frames from the port's own transmitter. -/
def enterLoop (s : State) (p : Port) (ready : Bool) : State :=
  let r := s.pathRx p
  s.setPathRx p
    { r with
      framer := { r.framer with state := .aligned, badRun := 0, pos := 0, candidates := [] }
      farEndReady := ready, formRun := 0, beganHunting := false }

end State

/-- STATION_FRAME (R52): the octets that arrive on a trunk, in their order. -/
def execStationFrame (t : Trunk) (octets : List Octet) (s : State) :
    Host.Outcome State Fault Refusal :=
  .next (octets.foldl (fun s o => s.trunkOctet t o) s)

/-- PATH_FRAME (R52): the octets that arrive on a path link, in their order. The line of a looped port is
not watched (R57). -/
def execPathFrame (p : Port) (octets : List Octet) (s : State) : Host.Outcome State Fault Refusal :=
  .next <|
    if (s.port p).state.looped then s else octets.foldl (fun s o => s.pathOctet p o) s

/-! ## Loss and return of signal (R53, R64) -/

/-- Whether a line has carried no transitions for 1 ms (R53, log 10). -/
def onsetDue (m : LineMeasure) : Bool := decide (m.sinceTransition.val = 8)

/-- Whether a line has carried transitions without a gap for 1 ms (R53, log 10). -/
def endDue (m : LineMeasure) : Bool := decide (m.withoutGap.val = 8)

namespace State

/-- R53: LOS onset at a trunk receiver. -/
def trunkLosOnset (s : State) (t : Trunk) : State :=
  let f := s.trunk t
  match f.state with
  | .noSignal => s
  | .hunting => s.setTrunk t (f.lose .noSignal)
  | .aligned => (s.setTrunk t (f.lose .noSignal)).setStationLost t true

/-- R53, R64: LOS onset at a port receiver on its line, and at the health monitor. A HUNTING receiver's port
does not serve, so no record has ended on it. -/
def pathLosOnset (s : State) (p : Port) : State :=
  let r := s.pathRx p
  match r.framer.state with
  | .noSignal => s
  | .hunting => (s.setPathRx p { r with framer := r.framer.lose .noSignal }).losOnsetHealth p
  | .aligned => (s.loseAlignment p .noSignal).losOnsetHealth p

end State

/-- LOS_ONSET (R53): taken when the line has carried no transitions for 1 ms and its receiver is not yet
in NO SIGNAL; the line of a looped port is not watched (R57). -/
def execLosOnset (l : Line) (s : State) : Host.Outcome State Fault Refusal :=
  .next <|
    match l with
    | .trunk t => if onsetDue (s.trunk t).measure then s.trunkLosOnset t else s
    | .path p =>
      if onsetDue (s.pathRx p).framer.measure ∧ !(s.port p).state.looped then s.pathLosOnset p else s

/-- LOS_END (R53): taken when the line has carried transitions without a gap for 1 ms and its receiver is
in NO SIGNAL. -/
def execLosEnd (l : Line) (s : State) : Host.Outcome State Fault Refusal :=
  .next <|
    match l with
    | .trunk t =>
      let f := s.trunk t
      if endDue f.measure ∧ f.state = .noSignal then s.setTrunk t (f.lose .hunting) else s
    | .path p =>
      let r := s.pathRx p
      if endDue r.framer.measure ∧ r.framer.state = .noSignal ∧ !(s.port p).state.looped then
        (s.setPathRx p { r with framer := r.framer.lose .hunting }).losEndHealth p
      else s

end Sys2Proof.Machine
end

