-- ==== Sys2Proof/Machine/Frame.lean ====
section
/-! DEFINITION. FRAME_PERIOD (chapter 3; R7, R8, R65, R86, R87, R143): the frame period that runs ends, with
the frames it has transmitted, and the next begins. -/

namespace Sys2Proof.Machine

/-! ## The frames of the period that ends (R7, R8, R46 to R48) -/

namespace State

/-- R7: the octet presented to a circuit's station slot. -/
def stationSlotOctet (s : State) (c : Circuit) : Octet :=
  match s.exch.view[c] with
  | .idle => s.codeOctet .idleFill
  | .engaged => s.codeOctet .engagedCode
  | .carried _ => (s.exch.toStation[c]).getD (s.codeOctet .idleFill)

/-- R46, R47: the frame transmitted on a station trunk. -/
def trunkFrame (s : State) (t : Trunk) : List Octet :=
  0x9B :: (List.finRange 16).map fun i => s.stationSlotOctet (circuitAt t i)

/-- R48: the octet transmitted in a traffic slot. -/
def trafficSlotOctet (s : State) (q : PathSlot) : Octet :=
  match s.exch.map[q.index] with
  | some { circuit := c, role := .current } => (s.exch.toHost[c]).getD (s.codeOctet .idleFill)
  | _ => s.codeOctet .idleFill

/-- R46 to R48: the frame transmitted on a path link. -/
def pathFrame (s : State) (p : Port) : List Octet :=
  let head := s.exch.heads[p]
  [head.alignment, head.control]
    ++ (List.finRange 30).map (fun n => s.trafficSlotOctet { port := p, slot := n })
    ++ [head.probe.getD (s.codeOctet .idleFill)]

/-- R46: the frames of the period, as transmitted on every line. -/
def transmit (s : State) : State :=
  s.setExch
    { s.exch with
      txTrunk := Vector.ofFn fun t => s.trunkFrame t
      txPath := Vector.ofFn fun p => s.pathFrame p }

end State

/-! ## What the lines carried in the period (R50, R53, R55) -/

/-- One more frame period, stopping at 8. -/
def bumpNine (n : Fin 9) : Fin 9 := if h : n.val < 8 then ⟨n.val + 1, by omega⟩ else n

/-- The measure after a frame period in which the line carried transitions, or none (log 10). -/
def measureAfter (m : LineMeasure) (signal : Bool) : LineMeasure :=
  if signal then { sinceTransition := 0, withoutGap := bumpNine m.withoutGap }
  else { sinceTransition := bumpNine m.sinceTransition, withoutGap := 0 }

namespace State

/-- R50: every receiver's measure of its line, after the period. -/
def measureLines (s : State) (trunkSignal pathSignal : BitVec 8) : State :=
  { s with
    trunks := Vector.ofFn fun t =>
      { s.trunk t with measure := measureAfter (s.trunk t).measure (trunkSignal.getLsbD t.val) }
    rx := Vector.ofFn fun p =>
      { s.pathRx p with
        framer :=
          { (s.pathRx p).framer with
            measure := measureAfter (s.pathRx p).framer.measure (pathSignal.getLsbD p.val) } } }

/-- R55: whether the period that ends is one frame period spent HUNTING. A period at whose end LOS onset
falls is counted as ending in NO SIGNAL. -/
def huntedWhole (s : State) (p : Port) : Bool :=
  let r := s.pathRx p
  r.beganHunting && decide (r.framer.state = .hunting) && !onsetDue r.framer.measure

/-- R55: the FAE of a frame period spent HUNTING. -/
def huntingFae (s : State) (p : Port) : State :=
  if s.huntedWhole p then s.lineEvent p .fae else s

/-! ## The timebase (R65, R96, R105) -/

/-- A running timer after a millisecond tick; at 0 it has run out (log 11). -/
def tickTimer (t : Option Nat) : Option Nat := t.map fun n => n - 1

/-- A staged timer after a millisecond tick (R133). -/
def tickStanding : Standing → Standing
  | .staged cur move => .staged cur { move with timer := move.timer - 1 }
  | x => x

/-- R65: the count of milliseconds since the last decay tick, and the tick given when it reaches the
decay interval that stands. -/
def tickDecay (s : State) : Timebase :=
  let n := s.time.sinceDecay + 1
  if s.param .decayInterval ≤ n then
    { s.time with sinceDecay := 0, decayDue := s.time.decayDue + 1 }
  else { s.time with sinceDecay := n }

/-- The millisecond tick: every running timer falls by one, and the decay count rises (R3, R65, R96,
R105). -/
def millisecond (s : State) : State :=
  { s with
    routes := Vector.ofFn fun c =>
      { s.route c with standing := tickStanding (s.route c).standing }
    groups := Vector.ofFn fun g => { s.group g with hold := tickTimer (s.group g).hold }
    ports := Vector.ofFn fun p => { s.port p with failBack := tickTimer (s.port p).failBack }
    time := s.tickDecay }

/-- The frame count rises by one, and every eighth frame period ends a millisecond (log 9). -/
def countFrame (s : State) : State :=
  let s' := s.setTime { s.time with frames := s.time.frames + 1 }
  if s'.time.frames % 8 = 0 then s'.millisecond else s'

/-! ## The frames of the period that begins (R8, R47, R48, R143, R156, R162) -/

/-- R143: a WALKING bulk walker has a step to make in the period that begins. -/
def bulkStepDue (s : State) : State :=
  if s.walker.state = .walking then s.setWalker { s.walker with stepsDue := s.walker.stepsDue + 1 }
  else s

/-- R47: the alignment form of a path port. -/
def alignmentOctet (s : State) (p : Port) : Octet :=
  match (s.port p).state with
  | .disabled | .loopback _ _ => 0x9A
  | _ => 0x9B

/-- R156: the idle octet of a serving port. -/
def idleOctet (s : State) (p : Port) : Octet :=
  if s.needsAttention (s.hostOf p) then 0x0F else 0x00

/-- R48, R162: the slot 0 octet of the frame that begins, and whether it is an octet of the response in
transmission. The model's choice (log 36): an octet counts as sent when its frame begins, so RESPONSE_SENT may be
taken from the beginning of the frame of the last octet on; and a frame that begins before RESPONSE_SENT has been
taken carries the idle octet, though a second response waits. -/
def controlSlotOctet (s : State) (p : Port) : Octet × Bool :=
  if !s.serving p then (0x00, false)
  else
    match (s.control p).responses with
    | [] => (s.idleOctet p, false)
    | body :: _ =>
      match (recordOctets body)[(s.control p).sent]? with
      | some o => (o, true)
      | none => (s.idleOctet p, false)

/-- What the slot exchange sees of a route (R7, R8). -/
def viewOf : Standing → SlotView
  | .idle => .idle
  | .barred | .displaced | .stranded => .engaged
  | .routed cur => .carried cur.path
  | .staged cur _ => .carried cur.path

/-- R131: a frame has begun since the staging. -/
def markSeen : Standing → Standing
  | .staged cur move => .staged cur { move with seen := true }
  | x => x

/-- The head octets of the frame that begins on a port. -/
def headOf (s : State) (p : Port) : FrameHead :=
  { alignment := s.alignmentOctet p
    control := (s.controlSlotOctet p).1
    probe := if s.checker.runsOn p then some (Stages.octet s.checker.generator).1 else none }

/-- The checker as the period begins: its generator has made the octet that the frame carries (R48, R83,
R85). -/
def checkerBegins (s : State) : Checker :=
  match s.checker.state.entry with
  | none => s.checker
  | some _ =>
    { s.checker with started := true, generator := (Stages.octet s.checker.generator).2 }

/-- The control slot of a port as the period begins: one more octet of its response has been sent
(R162). -/
def controlBegins (s : State) (p : Port) : Control :=
  if (s.controlSlotOctet p).2 then { s.control p with sent := (s.control p).sent + 1 }
  else s.control p

/-- The next frame begins: the slot exchange takes the routes and the map as they stand (R8), no octet of
the frame has been received, and the octets that stand from its start are fixed. -/
def beginFrame (s : State) : State :=
  { s with
    routes := Vector.ofFn fun c => { s.route c with standing := markSeen (s.route c).standing }
    rx := Vector.ofFn fun p =>
      { s.pathRx p with beganHunting := decide ((s.pathRx p).framer.state = .hunting) }
    ctl := Vector.ofFn fun p => s.controlBegins p
    checker := s.checkerBegins
    exch :=
      { s.exch with
        view := Vector.ofFn fun c => viewOf (s.route c).standing
        map := s.occ
        toHost := Vector.replicate 128 none
        toStation := Vector.replicate 128 none
        heads := Vector.ofFn fun p => s.headOf p } }

/-- What a frame period does to the card, from its end to the start of the next. The spec gives the events of
one boundary no order among them (R65 allows either order of a line event and a tick). The model's choice (log 33):
the checker's octet, then the FAEs of hunting in the order given, then the millisecond tick with the timers and
the decay tick that it gives, then the bulk step that falls due and the next frame. -/
def framePeriod (s : State) (order : List Port) (trunkSignal pathSignal : BitVec 8) : State :=
  let s₁ := (s.transmit.measureLines trunkSignal pathSignal).stepChecker
  let s₂ := (portOrder order).foldl (fun s p => s.huntingFae p) s₁
  ((s₂.countFrame).bulkStepDue).beginFrame

end State

/-- FRAME_PERIOD (R46). -/
def execFramePeriod (order : List Port) (trunkSignal pathSignal : BitVec 8) (s : State) :
    Host.Outcome State Fault Refusal :=
  .next (s.framePeriod order trunkSignal pathSignal)

end Sys2Proof.Machine
end

