-- ==== Sys2Proof/Machine/PortRequests.lean ====
section
/-! DEFINITION. The requests at the health monitor and the probe checker: READ PORT, the six actions of SET
PORT, PROBE PORT, INJECT (chapters 4 and 5). -/

namespace Sys2Proof.Machine

/-! ## READ PORT (R77) -/

/-- R77. -/
def answerReadPort (s : State) (_p : Port) (body : List Octet) : Answer :=
  match oneNumber 8 body with
  | none => refuse s .range
  | some q => accept s (s.portReport q)

/-- READ_PORT (R77). -/
def execReadPort (phase : EnginePhase) (s : State) : Host.Outcome State Fault Refusal :=
  .next (s.serve phase (kindIs 0x20) answerReadPort)

/-! ## SET PORT (R78 to R81) -/

/-- R78, check 3: tier 0 may set any port, tier 1 the ports strapped to its own host. -/
def State.maySet (s : State) (arrival target : Port) : Bool :=
  match (s.tierOf (s.hostOf arrival)).val with
  | 0 => true
  | 1 => s.hostOf target == s.hostOf arrival
  | _ => false

/-- R78: checks 3 and 4 of a SET PORT whose operands are given, and its effect, which answers with the
port report. -/
def State.setPortAs (s : State) (arrival target : Port) (allowed : Bool) (effect : State) : Answer :=
  if !s.maySet arrival target then refuse s .denied
  else if !allowed then refuse s .state
  else accept effect (effect.portReport target)

namespace State

/-- R79: ENABLE. -/
def enablePort (s : State) (q : Port) : State :=
  s.setPort q { s.port q with state := .down, q := 0 }

/-- R79: DISABLE. -/
def disablePort (s : State) (q : Port) : State :=
  match (s.port q).state with
  | .up | .suspect => s.leaveService q .disabled
  | .loopback _ _ =>
    ((s.setPort q { s.port q with state := .disabled, losHold := false }).cancelProbe
      q).returnToLine q
  | .awaitProbe | .probing => (s.setPort q { s.port q with state := .disabled }).cancelProbe q
  | .down | .disabled => s.setPort q { s.port q with state := .disabled }

/-- R80, R91: the port state, by LOOPBACK ON, with the departure or the cancellation that it brings. -/
def loopPort (s : State) (q : Port) (ready : Bool) : State :=
  match (s.port q).state with
  | .up | .suspect => s.leaveService q (.loopback ready .up)
  | _ => (s.setPort q { s.port q with state := .loopback ready .up }).cancelProbe q

/-- R91: the test begins. -/
def beginTest (s : State) (q : Port) : State :=
  s.setPort q { s.port q with h := 0, q := 0, losHold := false }

/-- R80: LOOPBACK ON. A record that has ended on the port ended before its serving does (R164). -/
def loopbackOn (s : State) (q : Port) (ready : Bool) : State :=
  ((((s.takeAllEnded q).loopPort q ready).beginTest q).enterLoop q ready).endServing q

/-- R80, R95: LOOPBACK OFF. -/
def loopbackOff (s : State) (q : Port) : State :=
  ((s.setPort q { s.port q with state := .down, q := 0, losHold := false }).cancelProbe
    q).returnToLine q

/-- R81: CEILING n, clamped to 1 to 30; a raised ceiling is a capacity event. -/
def storeCeiling (s : State) (q : Port) (n : Nat) : State :=
  let stored := max 1 (min 30 n)
  let s' := s.setPort q { s.port q with ceiling := stored }
  if (s.port q).ceiling < stored then s'.capacityEvent.settleSweep else s'

/-- R75, R81: CLEAR COUNTS. -/
def clearCounts (s : State) (q : Port) : State :=
  s.setPort q
    { s.port q with
      counts := { fae := 0, ccf := 0, ferd := 0, los := 0, down := 0, overrun := 0 } }

end State

/-- R78, R79. -/
def answerEnable (s : State) (p : Port) (body : List Octet) : Answer :=
  match plainAction .enable body with
  | none => refuse s .range
  | some q => s.setPortAs p q (decide ((s.port q).state = .disabled)) (s.enablePort q)

/-- SET_PORT_ENABLE (R79). -/
def execSetPortEnable (phase : EnginePhase) (s : State) : Host.Outcome State Fault Refusal :=
  .next (s.serve phase (setPortIs .enable) answerEnable)

/-- R78, R79. -/
def answerDisable (s : State) (p : Port) (body : List Octet) : Answer :=
  match plainAction .disable body with
  | none => refuse s .range
  | some q => s.setPortAs p q (decide ((s.port q).state ≠ .disabled)) (s.disablePort q)

/-- SET_PORT_DISABLE (R79). -/
def execSetPortDisable (phase : EnginePhase) (s : State) : Host.Outcome State Fault Refusal :=
  .next (s.serve phase (setPortIs .disable) answerDisable)

/-- R78, R80. -/
def answerLoopbackOn (s : State) (p : Port) (body : List Octet) : Answer :=
  match loopbackOnOf body with
  | none => refuse s .range
  | some (q, ready) =>
    s.setPortAs p q (decide ((s.port q).state ≠ .disabled)) (s.loopbackOn q ready)

/-- SET_PORT_LOOPBACK_ON (R80). -/
def execSetPortLoopbackOn (phase : EnginePhase) (s : State) : Host.Outcome State Fault Refusal :=
  .next (s.serve phase (setPortIs .loopbackOn) answerLoopbackOn)

/-- R78, R80. -/
def answerLoopbackOff (s : State) (p : Port) (body : List Octet) : Answer :=
  match plainAction .loopbackOff body with
  | none => refuse s .range
  | some q => s.setPortAs p q (s.port q).state.looped (s.loopbackOff q)

/-- SET_PORT_LOOPBACK_OFF (R80). -/
def execSetPortLoopbackOff (phase : EnginePhase) (s : State) : Host.Outcome State Fault Refusal :=
  .next (s.serve phase (setPortIs .loopbackOff) answerLoopbackOff)

/-- R78, R81. -/
def answerCeiling (s : State) (p : Port) (body : List Octet) : Answer :=
  match actionWith .ceiling body with
  | none => refuse s .range
  | some (q, n) => s.setPortAs p q true (s.storeCeiling q n.toNat)

/-- SET_PORT_CEILING (R81). -/
def execSetPortCeiling (phase : EnginePhase) (s : State) : Host.Outcome State Fault Refusal :=
  .next (s.serve phase (setPortIs .ceiling) answerCeiling)

/-- R78, R81. -/
def answerClearCounts (s : State) (p : Port) (body : List Octet) : Answer :=
  match plainAction .clearCounts body with
  | none => refuse s .range
  | some q => s.setPortAs p q true (s.clearCounts q)

/-- SET_PORT_CLEAR_COUNTS (R81). -/
def execSetPortClearCounts (phase : EnginePhase) (s : State) : Host.Outcome State Fault Refusal :=
  .next (s.serve phase (setPortIs .clearCounts) answerClearCounts)

/-! ## PROBE PORT (R90) -/

/-- Whether a port is in the probe queue or being probed. -/
def State.hasStanding (s : State) (q : Port) : Bool :=
  s.checker.runsOn q || s.checker.queue.any fun e => e.port == q

/-- R90: the port states that refuse a probe. -/
def PortState.refusesProbe : PortState → Bool
  | .down | .disabled => true
  | _ => false

/-- R90: the port states in which a request makes a DEMAND probe. -/
def PortState.takesDemand : PortState → Bool
  | .up | .suspect | .loopback _ _ => true
  | _ => false

/-- R90: a request for a DEMAND probe that passes its checks. -/
def State.demandProbe (s : State) (q : Port) : State :=
  if (s.port q).state.takesDemand && !s.hasStanding q then
    s.joinProbeQueue { port := q, kind := .demand }
  else s

/-- R90. -/
def answerProbePort (s : State) (p : Port) (body : List Octet) : Answer :=
  match oneNumber 8 body with
  | none => refuse s .range
  | some q =>
    if !s.trusted p 1 then refuse s .denied
    else if (s.port q).state.refusesProbe then refuse s .state
    else accept (s.demandProbe q) ((s.demandProbe q).standingReport q)

/-- PROBE_PORT (R90). -/
def execProbePort (phase : EnginePhase) (s : State) : Host.Outcome State Fault Refusal :=
  .next (s.serve phase (kindIs 0x22) answerProbePort)

/-! ## INJECT (R94) -/

/-- R94: a line event taken a number of times in succession. -/
def State.injected (s : State) (q : Port) (e : LineEvent) : Nat → State
  | 0 => s
  | n + 1 => (s.loopEvent q e).injected q e n

/-- R94. -/
def answerInject (s : State) (p : Port) (body : List Octet) : Answer :=
  match injectionOf body with
  | none => refuse s .range
  | some x =>
    if !s.trusted p 0 then refuse s .denied
    else if !(s.port x.port).state.looped then refuse s .state
    else
      let s' := s.injected x.port x.event x.count
      accept s' (s'.portReport x.port)

/-- INJECT (R94). -/
def execInject (phase : EnginePhase) (s : State) : Host.Outcome State Fault Refusal :=
  .next (s.serve phase (kindIs 0x23) answerInject)

end Sys2Proof.Machine
end

