-- ==== Sys2Proof/Machine/Reset.lean ====
section
/-! DEFINITION. The resets (chapter 12, R172): POWER_ON_RESET, RESET_EXCHANGE and RESET_TAKES_EFFECT. -/

namespace Sys2Proof.Machine

namespace State

/-- The measures that the receivers keep of their lines through a reset (R50, log 22). -/
def lineMeasures (s : State) : LineMeasures :=
  { trunks := Vector.ofFn fun t => (s.trunk t).measure
    paths := Vector.ofFn fun p => (s.pathRx p).framer.measure }

/-- R172: a RESET EXCHANGE takes effect. The commands that wait are not the card's and stay (log 30). -/
def resetNow (s : State) (straps : Straps) : State := State.fresh straps s.lineMeasures s.pending

end State

/-- POWER_ON_RESET (R172). -/
def execPowerOnReset (straps : Straps) (lines : LineMeasures) (s : State) :
    Host.Outcome State Fault Refusal :=
  .next (State.fresh straps lines s.pending)

/-- R172: how far a RESET EXCHANGE has come as it is executed: its response will wait in the queue of the
port, or will be discarded as it is formed. -/
def State.acceptedReset (s : State) (p : Port) : ResetPhase :=
  if s.responseLost then .due else .waiting p

/-- R172: the checks of RESET EXCHANGE. Once it is executed the engine takes no further request. -/
def answerResetExchange (s : State) (p : Port) (body : List Octet) : Answer :=
  match bareBody body with
  | none => refuse s .range
  | some _ =>
    if s.trusted p 0 then accept (s.setEngine { s.engine with resetPhase := s.acceptedReset p }) []
    else refuse s .denied

/-- RESET_EXCHANGE (R172). When its response is discarded as it is formed, the reset takes effect within
the command. -/
def execResetExchange (phase : EnginePhase) (straps : Straps) (s : State) :
    Host.Outcome State Fault Refusal :=
  .next <|
    let s' := s.serve phase (kindIs 0x5F) answerResetExchange
    if s.engine.resetPhase = .none ∧ s'.engine.resetPhase = .due then s'.resetNow straps else s'

/-- RESET_TAKES_EFFECT (R172): taken when an event has made the reset due (log 7). -/
def execResetTakesEffect (straps : Straps) (s : State) : Host.Outcome State Fault Refusal :=
  .next (if s.engine.resetPhase = .due then s.resetNow straps else s)

end Sys2Proof.Machine
end

