-- ==== Sys2Proof/Machine/RouteRequests.lean ====
section
/-! DEFINITION. The requests at the route store, the sweep engine and the bulk walker: READ ROUTE, WRITE
ROUTE, BULK ROUTE, BULK ABORT, REVIEW RANGE, READ SWEEP (chapters 1, 7 and 9). -/

namespace Sys2Proof.Machine

/-! ## READ ROUTE and WRITE ROUTE (R14 to R19) -/

/-- R14. -/
def answerReadRoute (s : State) (_p : Port) (body : List Octet) : Answer :=
  match oneNumber 128 body with
  | none => refuse s .range
  | some c => accept s (s.routeReport c)

/-- READ_ROUTE (R14). -/
def execReadRoute (phase : EnginePhase) (s : State) : Host.Outcome State Fault Refusal :=
  .next (s.serve phase (kindIs 0x10) answerReadRoute)

/-- R15, R16. -/
def answerWriteRoute (s : State) (p : Port) (body : List Octet) : Answer :=
  match routeWriteOf body with
  | none => refuse s .range
  | some w =>
    if tierTest (s.tierOf (s.hostOf p)) (s.route w.circuit).fields.tier w.fields.tier then
      let s' := s.writeEntry w.circuit w.service w.fields
      accept s' (s'.routeReport w.circuit)
    else refuse s .denied

/-- WRITE_ROUTE (R15 to R19). -/
def execWriteRoute (phase : EnginePhase) (s : State) : Host.Outcome State Fault Refusal :=
  .next (s.serve phase (kindIs 0x11) answerWriteRoute)

/-! ## BULK ROUTE and BULK ABORT (R141, R145) -/

/-- R141: the walk that a BULK ROUTE of a port orders. -/
def State.walkOrder (s : State) (p : Port) (b : BulkOrder) : WalkOrder :=
  { trunkFirst := b.trunkFirst, trunkLast := b.trunkLast, slotFirst := b.slotFirst
    slotLast := b.slotLast, template := b.template
    originator := s.hostOf p, originatorTier := s.tierOf (s.hostOf p) }

/-- R141: the walk record as a walk begins; its first step falls due with the next frame period (R143). -/
def startedWalk (o : WalkOrder) : Walker :=
  { state := .walking, order := some o, total := o.total, cursor := none, written := 0, skipped := 0
    stepsDue := 0 }

/-- R141. -/
def answerBulkRoute (s : State) (p : Port) (body : List Octet) : Answer :=
  match bulkOrderOf body with
  | none => refuse s .range
  | some b =>
    if s.walker.state = .walking then refuse s .busy
    else
      let o := s.walkOrder p b
      accept (s.setWalker (startedWalk o)) (one o.total)

/-- BULK_ROUTE (R141). -/
def execBulkRoute (phase : EnginePhase) (s : State) : Host.Outcome State Fault Refusal :=
  .next (s.serve phase (kindIs 0x30) answerBulkRoute)

/-- R145. -/
def answerBulkAbort (s : State) (p : Port) (body : List Octet) : Answer :=
  match bareBody body with
  | none => refuse s .range
  | some _ =>
    match s.walker.state, s.walker.order with
    | .walking, some o =>
      if s.trusted p o.originatorTier then accept (s.endWalk false) s.walker.abortReport
      else refuse s .denied
    | _, _ => refuse s .state

/-- BULK_ABORT (R145). -/
def execBulkAbort (phase : EnginePhase) (s : State) : Host.Outcome State Fault Refusal :=
  .next (s.serve phase (kindIs 0x31) answerBulkAbort)

/-! ## REVIEW RANGE (R147, R148) -/

/-- R147: whether a circuit is in a range, which wraps when its last is less than its first. -/
def inRange (first last c : Circuit) : Bool :=
  if first ≤ last then decide (first ≤ c) && decide (c ≤ last)
  else decide (first ≤ c) || decide (c ≤ last)

/-- R148: whether a route state is one that a review queues. -/
def Standing.reviewable : Standing → Bool
  | .routed _ => true
  | .stranded => true
  | _ => false

/-- R148: whether a circuit of the range is queued. -/
def State.reviews (s : State) (requester : Tier) (first last c : Circuit) : Bool :=
  inRange first last c && decide (requester ≤ (s.route c).fields.tier)
    && (s.route c).standing.reviewable

/-- R148: the standing that a queued circuit takes. -/
def Standing.underReview : Standing → Standing
  | .stranded => .displaced
  | x => x

/-- R148: the route store takes the circuits of the range. -/
def State.reviewRange (s : State) (requester : Tier) (first last : Circuit) : State :=
  State.settleSweep
    { s with
      routes := Vector.ofFn fun c =>
        if s.reviews requester first last c then
          { s.route c with standing := (s.route c).standing.underReview }
        else s.route c
      sweep := { s.sweep with
        queued := Vector.ofFn fun c => s.queued c || s.reviews requester first last c
        stranded := Vector.ofFn fun c => s.strandedHas c && !s.reviews requester first last c } }

/-- R148: how many circuits of the range are queued. -/
def State.reviewCount (s : State) (requester : Tier) (first last : Circuit) : Nat :=
  (allCircuits.filter fun c => s.reviews requester first last c).length

/-- R147, R148. -/
def answerReviewRange (s : State) (p : Port) (body : List Octet) : Answer :=
  match rangeOf body with
  | none => refuse s .range
  | some (first, last) =>
    let requester := s.tierOf (s.hostOf p)
    let queued := s.reviewCount requester first last
    accept (s.reviewRange requester first last)
      (one queued ++ one (extentSize 128 first.val last.val - queued))

/-- REVIEW_RANGE (R147, R148). -/
def execReviewRange (phase : EnginePhase) (s : State) : Host.Outcome State Fault Refusal :=
  .next (s.serve phase (kindIs 0x32) answerReviewRange)

/-! ## READ SWEEP (R127) -/

/-- R127. -/
def answerReadSweep (s : State) (_p : Port) (body : List Octet) : Answer :=
  match bareBody body with
  | none => refuse s .range
  | some _ => accept s s.sweepReport

/-- READ_SWEEP (R127). -/
def execReadSweep (phase : EnginePhase) (s : State) : Host.Outcome State Fault Refusal :=
  .next (s.serve phase (kindIs 0x33) answerReadSweep)

end Sys2Proof.Machine
end

