-- ==== Sys2Proof/Machine/StoreRequests.lean ====
section
/-! DEFINITION. The requests at the descriptor store, the group monitor, the station trunks and the
parameter set: READ and WRITE DESCRIPTOR, READ GROUP, READ TRUNK, READ PARAMETERS, WRITE PARAMETER (chapters 2,
3, 6 and 12). -/

namespace Sys2Proof.Machine

/-! ## Descriptors (R41 to R44) -/

/-- R41. -/
def answerReadDescriptor (s : State) (_p : Port) (body : List Octet) : Answer :=
  match descReadOf body with
  | none => refuse s .range
  | some d => accept s (s.descReport d)

/-- READ_DESCRIPTOR (R41). -/
def execReadDescriptor (phase : EnginePhase) (s : State) : Host.Outcome State Fault Refusal :=
  .next (s.serve phase (kindIs 0x14) answerReadDescriptor)

/-- R44: a descriptor is replaced whole, and the write is a capacity event. -/
def State.writeDescriptor (s : State) (d : Desc) (x : Descriptor) : State :=
  (s.setDesc d x).capacityEvent.settleSweep

/-- R42 to R44. The tier test of R43 is that of R16. -/
def answerWriteDescriptor (s : State) (p : Port) (body : List Octet) : Answer :=
  match descWriteOf body with
  | none => refuse s .range
  | some w =>
    if tierTest (s.tierOf (s.hostOf p)) (s.desc w.desc).tier w.record.tier then
      let s' := s.writeDescriptor w.desc w.record
      accept s' (s'.descReport w.desc)
    else refuse s .denied

/-- WRITE_DESCRIPTOR (R42 to R44). -/
def execWriteDescriptor (phase : EnginePhase) (s : State) : Host.Outcome State Fault Refusal :=
  .next (s.serve phase (kindIs 0x15) answerWriteDescriptor)

/-! ## Groups and trunks (R60, R108) -/

/-- R108. -/
def answerReadGroup (s : State) (_p : Port) (body : List Octet) : Answer :=
  match oneNumber 4 body with
  | none => refuse s .range
  | some g => accept s (s.groupReport g)

/-- READ_GROUP (R108). -/
def execReadGroup (phase : EnginePhase) (s : State) : Host.Outcome State Fault Refusal :=
  .next (s.serve phase (kindIs 0x24) answerReadGroup)

/-- R60. -/
def answerReadTrunk (s : State) (_p : Port) (body : List Octet) : Answer :=
  match oneNumber 8 body with
  | none => refuse s .range
  | some t => accept s (s.trunkReport t)

/-- READ_TRUNK (R60). -/
def execReadTrunk (phase : EnginePhase) (s : State) : Host.Outcome State Fault Refusal :=
  .next (s.serve phase (kindIs 0x25) answerReadTrunk)

/-! ## Parameters (R168 to R170) -/

/-- R170. -/
def answerReadParameters (s : State) (_p : Port) (body : List Octet) : Answer :=
  match oneNumber 22 body with
  | none => refuse s .range
  | some i => accept s (s.paramReport i)

/-- READ_PARAMETERS (R170). -/
def execReadParameters (phase : EnginePhase) (s : State) : Host.Outcome State Fault Refusal :=
  .next (s.serve phase (kindIs 0x50) answerReadParameters)

/-- R169, R168, R68. -/
def answerWriteParameter (s : State) (p : Port) (body : List Octet) : Answer :=
  match paramWriteOf body with
  | none => refuse s .range
  | some (x, v) =>
    if s.trusted p 0 then
      let s' := s.storeParam x v
      accept s' (one x.id.val ++ three (s'.param x))
    else refuse s .denied

/-- WRITE_PARAMETER (R169). -/
def execWriteParameter (phase : EnginePhase) (s : State) : Host.Outcome State Fault Refusal :=
  .next (s.serve phase (kindIs 0x51) answerWriteParameter)

end Sys2Proof.Machine
end

