-- ==== Sys2Proof/Machine/Resolver.lean ====
section
/-! DEFINITION. The resolver (chapter 2): the walk of a chain in up to two passes. It writes nothing
(R26). -/

namespace Sys2Proof.Machine

/-- The two passes of a resolution (R38). -/
inductive Pass where
  | first | second
deriving DecidableEq, Repr

/-- The walk state of section 2.2, less the pass and the visit count, which are arguments of the walk. -/
structure Walk where
  effectiveTier : Option Tier
  offset : Offset
  firstPath : Option Desc
  position : Desc
deriving DecidableEq, Repr

/-- How a pass ends (R27). -/
inductive PassEnd where
  | result (path : PathSlot) (via : Desc) (firstChoice : Bool)
  | exhausted
  | fault (k : FaultKind) (d : Desc)
deriving DecidableEq, Repr

/-- The outcome of a resolution (R40). -/
inductive Resolved where
  | result (found : CurrentSet)
  | failure (fault : Option (FaultKind × Desc))
deriving DecidableEq, Repr

/-- R35: a slot is free, or held by the circuit itself as CURRENT. -/
def State.slotFreeFor (s : State) (c : Circuit) (q : PathSlot) : Bool :=
  match s.holder q with
  | none => true
  | some h => h == { circuit := c, role := .current }

/-- R33: the lowest-numbered slot of a port that is free for the circuit. -/
def State.poolSlot (s : State) (c : Circuit) (p : Port) : Option Slot :=
  (List.finRange 30).find? fun n => s.slotFreeFor c { port := p, slot := n }

/-- R32, R33: the slot that a PATH descriptor offers; for a slot number n in 1 to 30 held as n - 1,
OFFSET base gives 1 + ((base - 1 + e) mod 30). -/
def State.offeredSlot (s : State) (c : Circuit) (p : Port) (rule : SlotRule) (e : Offset) :
    Option Slot :=
  match rule with
  | .fixed n => some n
  | .offset base => some (base + e)
  | .pool => s.poolSlot c p

/-- R34: the port's state, and in pass 1 its group's. -/
def State.portAccepts (s : State) (pass : Pass) (p : Port) : Bool :=
  match pass with
  | .first => decide ((s.port p).state = .up) && decide ((s.group (s.groupOf p)).state = .clear)
  | .second => s.inService p

/-- R36: the used count is below the ceiling, or the circuit's current path is on the port. -/
def State.hasRoom (s : State) (c : Circuit) (p : Port) : Bool :=
  decide (s.usedCount p < (s.port p).ceiling) ||
    (match (s.route c).standing.currentPath with
      | some q => decide (q.port = p)
      | none => false)

/-- R34 to R36: an offered slot is usable. -/
def State.usable (s : State) (pass : Pass) (c : Circuit) (q : PathSlot) : Bool :=
  s.portAccepts pass q.port && s.slotFreeFor c q && s.hasRoom c q.port

/-- R30: the effective tier after a visit. -/
def raiseTier (effective : Option Tier) (t : Tier) : Tier :=
  match effective with
  | none => t
  | some e => max e t

/-- R31: one visit to a DIVERT descriptor moves the walk on. -/
def Walk.divert (w : Walk) (target : Desc) (shift : Offset) : Walk :=
  { w with offset := w.offset + shift, position := target }

/-- R27 to R37: a pass, with the visits it has left. The ninth visit is not made (R28). -/
def State.walk (s : State) (pass : Pass) (c : Circuit) : Nat → Walk → PassEnd
  | 0, w => .fault .depth w.position
  | visits + 1, w =>
    let d := s.desc w.position
    if d.withdrawn then .fault .withdrawn w.position
    else
      let t := raiseTier w.effectiveTier d.tier
      if (s.route c).fields.tier < t then .fault .tier w.position
      else
        match d.kind with
        | .divert target shift =>
          s.walk pass c visits ({ w with effectiveTier := some t }.divert target shift)
        | .path p rule alternative =>
          let first := w.firstPath.getD w.position
          match (s.offeredSlot c p rule w.offset).filter fun n =>
              s.usable pass c { port := p, slot := n } with
          | some n => .result { port := p, slot := n } w.position (decide (first = w.position))
          | none =>
            match alternative with
            | none => .exhausted
            | some a =>
              s.walk pass c visits
                { w with effectiveTier := some t, firstPath := some first, position := a }

/-- R27, R28: one pass from the circuit's head, of at most 8 visits. A circuit in service always has a
head (R15); without one the pass finds nothing (log 21). -/
def State.runPass (s : State) (pass : Pass) (c : Circuit) : PassEnd :=
  match (s.route c).fields.head with
  | none => .exhausted
  | some d =>
    s.walk pass c 8
      { effectiveTier := none, offset := (s.route c).fields.offset, firstPath := none, position := d }

/-- R38 to R40: a resolution of one circuit. -/
def State.resolve (s : State) (c : Circuit) : Resolved :=
  match s.runPass .first c with
  | .result path via firstChoice =>
    .result { path := path, via := via, preferred := firstChoice }
  | _ =>
    match s.runPass .second c with
    | .result path via _ => .result { path := path, via := via, preferred := false }
    | .exhausted => .failure none
    | .fault k d => .failure (some (k, d))

end Sys2Proof.Machine
end

