-- ==== Sys2Proof/Machine/Sweep.lean ====
section
/-! DEFINITION. The sweep engine (chapter 7): the resolution at the front of the queue and what its
outcome does to the circuit. -/

namespace Sys2Proof.Machine

namespace State

/-- R40: a failure with a fault raises CHAIN FAULT. -/
def raiseChainFault (s : State) (c : Circuit) (fault : Option (FaultKind × Desc)) : State :=
  match fault with
  | some (k, d) => s.raise (.chainFault c d k)
  | none => s

/-- R116: a DISPLACED circuit is placed. -/
def place (s : State) (c : Circuit) (found : CurrentSet) : State :=
  let r := s.route c
  (s.holdSlot found.path { circuit := c, role := .current }).setRoute c
    { r with
      standing := .routed found
      placed := true
      moves := if r.placed then bump8 r.moves else r.moves }

/-- R117: a DISPLACED circuit is stranded. -/
def strand (s : State) (c : Circuit) (fault : Option (FaultKind × Desc)) : State :=
  ((s.setRoute c { s.route c with standing := .stranded }).joinStranded c).raiseChainFault c fault

/-- R119: a ROUTED circuit of discipline PROMPT is moved. -/
def movePrompt (s : State) (c : Circuit) (old found : CurrentSet) : State :=
  let r := s.route c
  (((s.holdSlot found.path { circuit := c, role := .current }).releaseSlot old.path).setRoute c
    { r with standing := .routed found, moves := bump8 r.moves }).capacityIf
      (s.inService old.path.port)

/-- R120: a ROUTED circuit of discipline CLEAN is staged. -/
def stage (s : State) (c : Circuit) (cur found : CurrentSet) : State :=
  (s.holdSlot found.path { circuit := c, role := .staged }).setRoute c
    { s.route c with
      standing := .staged cur
        { path := found.path, via := found.via, preferred := found.preferred
          timer := s.param .cleanHoldLimit, seen := false, blockEndPassed := false } }

/-- R118, R121: a ROUTED circuit stays, with the preferred flag given. -/
def stay (s : State) (c : Circuit) (cur : CurrentSet) (preferred : Bool) : State :=
  s.setRoute c { s.route c with standing := .routed { cur with preferred := preferred } }

/-- R116 to R121: the outcome of a resolution applied to its circuit. The queue holds only DISPLACED and
ROUTED circuits (R110). -/
def applyOutcome (s : State) (c : Circuit) (outcome : Resolved) : State :=
  match (s.route c).standing, outcome with
  | .displaced, .result found => s.place c found
  | .displaced, .failure fault => s.strand c fault
  | .routed cur, .result found =>
    if found.path = cur.path then s.stay c cur found.preferred
    else
      match (s.route c).fields.discipline with
      | .prompt => s.movePrompt c cur found
      | .clean => s.stage c cur found
  | .routed cur, .failure fault => (s.stay c cur false).raiseChainFault c fault
  | _, _ => s

end State

/-- RESOLUTION (R115): the circuit at the front of the queue is removed, its chain walked and the outcome
applied. With no circuit in the queue there is no resolution (log 1). -/
def execResolution (s : State) : Host.Outcome State Fault Refusal :=
  .next <|
    match s.sweepQueue with
    | [] => s
    | c :: _ => ((s.leaveQueue c).applyOutcome c (s.resolve c)).settleSweep

end Sys2Proof.Machine
end

