-- ==== Sys2Proof/Machine/Dispatch.lean ====
section
/-! DEFINITION. The dispatch: one arm for each command, one direct call of its meaning. -/

namespace Sys2Proof.Machine

def exec (i : Instr) (s : State) : Host.Outcome State Fault Refusal :=
  match i with
  | .powerOnReset straps lines => Sys2Proof.Machine.execPowerOnReset straps lines s
  | .resetExchange ph straps => Sys2Proof.Machine.execResetExchange ph straps s
  | .resetTakesEffect straps => Sys2Proof.Machine.execResetTakesEffect straps s
  | .framePeriod order trunkSignal pathSignal => Sys2Proof.Machine.execFramePeriod order trunkSignal pathSignal s
  | .stationFrame t octets => Sys2Proof.Machine.execStationFrame t octets s
  | .pathFrame p octets => Sys2Proof.Machine.execPathFrame p octets s
  | .losOnset l => Sys2Proof.Machine.execLosOnset l s
  | .losEnd l => Sys2Proof.Machine.execLosEnd l s
  | .controlRecord p => Sys2Proof.Machine.execControlRecord p s
  | .responseSent p => Sys2Proof.Machine.execResponseSent p s
  | .decayTick order => Sys2Proof.Machine.execDecayTick order s
  | .stagedTimerExpiry c => Sys2Proof.Machine.execStagedTimerExpiry c s
  | .holdTimerExpiry g => Sys2Proof.Machine.execHoldTimerExpiry g s
  | .failBackExpiry p => Sys2Proof.Machine.execFailBackExpiry p s
  | .blockEndPassage c => Sys2Proof.Machine.execBlockEndPassage c s
  | .resolution => Sys2Proof.Machine.execResolution s
  | .bulkStep => Sys2Proof.Machine.execBulkStep s
  | .probeComplete => Sys2Proof.Machine.execProbeComplete s
  | .downEntry p => Sys2Proof.Machine.execDownEntry p s
  | .upEntry p => Sys2Proof.Machine.execUpEntry p s
  | .portDrain p => Sys2Proof.Machine.execPortDrain p s
  | .groupDrain g => Sys2Proof.Machine.execGroupDrain g s
  | .occurrenceRecorded o => Sys2Proof.Machine.execOccurrenceRecorded o s
  | .readRoute ph => Sys2Proof.Machine.execReadRoute ph s
  | .writeRoute ph => Sys2Proof.Machine.execWriteRoute ph s
  | .readDescriptor ph => Sys2Proof.Machine.execReadDescriptor ph s
  | .writeDescriptor ph => Sys2Proof.Machine.execWriteDescriptor ph s
  | .readPort ph => Sys2Proof.Machine.execReadPort ph s
  | .setPortEnable ph => Sys2Proof.Machine.execSetPortEnable ph s
  | .setPortDisable ph => Sys2Proof.Machine.execSetPortDisable ph s
  | .setPortLoopbackOn ph => Sys2Proof.Machine.execSetPortLoopbackOn ph s
  | .setPortLoopbackOff ph => Sys2Proof.Machine.execSetPortLoopbackOff ph s
  | .setPortCeiling ph => Sys2Proof.Machine.execSetPortCeiling ph s
  | .setPortClearCounts ph => Sys2Proof.Machine.execSetPortClearCounts ph s
  | .probePort ph => Sys2Proof.Machine.execProbePort ph s
  | .inject ph => Sys2Proof.Machine.execInject ph s
  | .readGroup ph => Sys2Proof.Machine.execReadGroup ph s
  | .readTrunk ph => Sys2Proof.Machine.execReadTrunk ph s
  | .bulkRoute ph => Sys2Proof.Machine.execBulkRoute ph s
  | .bulkAbort ph => Sys2Proof.Machine.execBulkAbort ph s
  | .reviewRange ph => Sys2Proof.Machine.execReviewRange ph s
  | .readSweep ph => Sys2Proof.Machine.execReadSweep ph s
  | .takeEvent ph => Sys2Proof.Machine.execTakeEvent ph s
  | .setMask ph => Sys2Proof.Machine.execSetMask ph s
  | .setUrgency ph => Sys2Proof.Machine.execSetUrgency ph s
  | .clearAlarm ph => Sys2Proof.Machine.execClearAlarm ph s
  | .readParameters ph => Sys2Proof.Machine.execReadParameters ph s
  | .writeParameter ph => Sys2Proof.Machine.execWriteParameter ph s
  | .unknownKind ph => Sys2Proof.Machine.execUnknownKind ph s

end Sys2Proof.Machine
end

