-- ==== Sys2Proof/Machine/Step.lean ====
section
/-! DEFINITION. A step of the card: the command at the front of the queue is taken and executed. -/

namespace Sys2Proof.Machine

/-- Take the command at the front of the queue and answer its outcome; on an empty queue the card idles
(log 2). -/
def step (s : State) : Host.Outcome State Fault Refusal :=
  match s.pending with
  | [] => .next s
  | c :: rest => exec c { s with pending := rest }

/-- The state with the command that a word spells at the front of its queue; no row of the table gives
bits, so no word spells one. -/
def State.withFetchWord (s : State) (nbits w : Nat) : State :=
  match decodeTableWord nbits w with
  | some c => { s with pending := c :: s.pending }
  | none => s

end Sys2Proof.Machine
end

