-- ==== Sys2Proof/Safety.lean ====
section
/-! DEFINITION. The laws of the card that every step keeps, in the words of the spec's rules, and the
vocabulary of the statements. -/

namespace Sys2Proof.Machine

/-! ## Slots and routes (R9, R13) -/

/-- The staged path of a circuit, when it has one (R6). -/
def Standing.stagedPath : Standing → Option PathSlot
  | .staged _ move => some move.path
  | _ => none

/-- R9: circuit c holds slot (p, n) exactly when its current path or its staged path is (p, n), as CURRENT
for the one and as STAGED for the other. -/
def MapAgrees (s : State) : Prop :=
  ∀ (c : Circuit) (p : Port) (n : Slot),
    (s.holder ⟨p, n⟩ = some ⟨c, .current⟩ ↔ (s.route c).standing.currentPath = some ⟨p, n⟩) ∧
    (s.holder ⟨p, n⟩ = some ⟨c, .staged⟩ ↔ (s.route c).standing.stagedPath = some ⟨p, n⟩)

/-- The number of slots of a port that are held. -/
def heldSlots (s : State) (p : Port) : Nat :=
  ((List.finRange 30).filter fun n => (s.holder ⟨p, n⟩).isSome).length

/-- R9: the used count of a port is the number of its slots held. -/
def CountsAgree (s : State) : Prop := ∀ p : Port, s.usedCount p = heldSlots s p

/-- R13: every held slot lies on a port that is UP or SUSPECT. -/
def HeldInService (s : State) : Prop :=
  ∀ (p : Port) (n : Slot), (s.holder ⟨p, n⟩).isSome → s.inService p = true

/-- R9 and R13: the laws of the occupancy map. -/
def SlotLaws (s : State) : Prop := MapAgrees s ∧ CountsAgree s ∧ HeldInService s

/-! ## The sweep engine (R110, R111) -/

/-- R110: the queue holds every DISPLACED circuit and no circuit but DISPLACED and ROUTED ones; the
stranded set holds exactly the STRANDED circuits. -/
def QueueLaws (s : State) : Prop :=
  ∀ c : Circuit,
    ((s.route c).standing = .displaced → s.queued c = true) ∧
    (s.queued c = true → (s.route c).standing = .displaced ∨
      ∃ cur, (s.route c).standing = .routed cur) ∧
    (s.strandedHas c = true ↔ (s.route c).standing = .stranded)

/-- R111: the engine is RUNNING exactly while the queue holds a circuit. -/
def RunningLaw (s : State) : Prop :=
  s.sweep.state = .running ↔ ∃ c : Circuit, s.queued c = true

/-- R110 and R111. -/
def SweepLaws (s : State) : Prop := QueueLaws s ∧ RunningLaw s

/-! ## The probe checker (R84, R85, R89) -/

/-- The entries of the probe queue and the entry that the checker serves. -/
def probeEntries (k : Checker) : List ProbeEntry := k.state.entry.toList ++ k.queue

/-- R84: the queue and the checker together hold each port at most once. -/
def PortsOnce (s : State) : Prop := ((probeEntries s.checker).map ProbeEntry.port).Nodup

/-- R84, R85: a port is in AWAIT PROBE exactly when the queue holds it as RECOVERY, and in PROBING exactly
when the checker serves it as RECOVERY. -/
def RecoveryLaw (s : State) : Prop :=
  ∀ p : Port,
    ((s.port p).state = .awaitProbe ↔ (⟨p, .recovery⟩ : ProbeEntry) ∈ s.checker.queue) ∧
    ((s.port p).state = .probing ↔ s.checker.state.entry = some ⟨p, .recovery⟩)

/-- R89: a DEMAND entry's port is in UP, SUSPECT or LOOPBACK. -/
def DemandLaw (s : State) : Prop :=
  ∀ p : Port, (⟨p, .demand⟩ : ProbeEntry) ∈ probeEntries s.checker →
    (s.port p).state.takesDemand = true

/-- R85: the checker serves a port whenever an entry waits. -/
def CheckerBusy (s : State) : Prop := s.checker.state = .idle → s.checker.queue = []

/-- R84, R85 and R89. -/
def ProbeLaws (s : State) : Prop := PortsOnce s ∧ RecoveryLaw s ∧ DemandLaw s ∧ CheckerBusy s

/-! ## The control slots (R160 to R164, R172) -/

/-- R162: neither queue of a port holds more than 2. -/
def QueueBounds (s : State) : Prop :=
  ∀ p : Port, (s.control p).requests.length ≤ 2 ∧ (s.control p).responses.length ≤ 2

/-- R164: a port that does not serve its control slot has empty queues, its receiver in HUNT and no record
in hand. -/
def QuietWhenNotServing (s : State) : Prop :=
  ∀ p : Port, s.serving p = false →
    (s.control p).rx = .hunt ∧ (s.control p).ended = [] ∧ (s.control p).requests = [] ∧
    (s.control p).responses = [] ∧ (s.control p).sent = 0

/-- R163: a request held that has not lost its response came from a port that still serves and whose
response queue has room. -/
def HeldHasRoom (s : State) : Prop :=
  ∀ h : HeldRequest, s.engine.held = some h → h.orphaned = false →
    s.serving h.port = true ∧ (s.control h.port).responses.length < 2

/-- R172: while a reset is in hand the engine holds no request; a reset that waits has its response at the
tail of its port's response queue; and the response of an accepted RESET EXCHANGE stands in a queue only while
a reset is in hand. -/
def ResetLaw (s : State) : Prop :=
  (s.engine.resetPhase ≠ .none → s.engine.held = none) ∧
  (∀ (p : Port) (body : List Octet), body ∈ (s.control p).responses →
    isResetResponse body = true → s.engine.resetPhase ≠ .none) ∧
  ∀ p : Port, s.engine.resetPhase = .waiting p →
    ∃ body, (s.control p).responses.getLast? = some body ∧ isResetResponse body = true

/-- R162 to R164, R172. -/
def ControlLaws (s : State) : Prop :=
  QueueBounds s ∧ QuietWhenNotServing s ∧ HeldHasRoom s ∧ ResetLaw s

/-! ## Station trunks (R5, R59) -/

/-- R5: a circuit's station-lost flag is yes exactly while its trunk's receiver is not ALIGNED. -/
def StationLaw (s : State) : Prop :=
  ∀ c : Circuit, (s.route c).stationLost = true ↔ (s.trunk (trunkOf c)).state ≠ .aligned

/-! ## Ranges -/

/-- The least value of a parameter's range (R168). -/
def paramLow : Param → Nat
  | .decayInterval => 8 | .decayFactor => 1 | .recoverTicks => 1 | .probeLen => 256
  | .groupHold => 100 | .failBackDelay => 1000 | .cleanHoldLimit => 10
  | _ => 0

/-- The greatest value of a parameter's range (R168). -/
def paramHigh : Param → Nat
  | .faeWeight | .ccfWeight | .ferdWeight => 255
  | .probeFailWeight => 4095
  | .decayInterval => 64
  | .decayFactor => 32
  | .suspectAt | .downAt | .recoverBelow => 4095
  | .recoverTicks => 255
  | .probeRequired | .drain | .failBackEnable => 1
  | .probeLen | .probeMaxErr => 65535
  | .groupWindow => 10000
  | .groupHold | .cleanHoldLimit => 60000
  | .failBackDelay => 600000
  | .blockEndCode | .engagedCode | .idleFill => 255

/-- R168: every stored parameter is in its range. -/
def ParamRanges (s : State) : Prop :=
  ∀ x : Param, paramLow x ≤ s.param x ∧ s.param x ≤ paramHigh x

/-- R168: the decay interval is 8, 16, 32 or 64. -/
def IntervalLaw (s : State) : Prop := s.param .decayInterval ∈ [8, 16, 32, 64]

/-- R68: SUSPECT_AT is no greater than DOWN_AT, and RECOVER_BELOW is below SUSPECT_AT, or 0 with it. -/
def ThresholdLaw (s : State) : Prop :=
  s.param .suspectAt ≤ s.param .downAt ∧
  (s.param .recoverBelow < s.param .suspectAt ∨
    s.param .suspectAt = 0 ∧ s.param .recoverBelow = 0)

/-- R68 and R168. -/
def ParamLaws (s : State) : Prop := ParamRanges s ∧ IntervalLaw s ∧ ThresholdLaw s

/-- A port that counts quiet ticks: DOWN, or looped with the verdict DOWN (R69, R93). -/
def PortState.countsQuiet : PortState → Bool
  | .down => true
  | .loopback _ .down => true
  | _ => false

/-- R61: the values of a port record. -/
def PortInRange (r : PortRecord) : Prop :=
  r.h ≤ 4095 ∧ r.q ≤ 255 ∧ (r.state.countsQuiet = true → r.q < 255) ∧
  r.counts.fae ≤ 65535 ∧ r.counts.ccf ≤ 65535 ∧ r.counts.ferd ≤ 65535 ∧ r.counts.los ≤ 65535 ∧
  r.counts.down ≤ 65535 ∧ r.counts.overrun ≤ 65535 ∧ 1 ≤ r.ceiling ∧ r.ceiling ≤ 30 ∧
  (∀ n, r.failBack = some n → n ≤ 600000)

/-- R61. -/
def PortRanges (s : State) : Prop := ∀ p : Port, PortInRange (s.port p)

/-- R105: the fail-back timer runs only in UP. -/
def FailBackLaw (s : State) : Prop :=
  ∀ p : Port, (s.port p).failBack ≠ none → (s.port p).state = .up

/-- R61, R105. -/
def PortLaws (s : State) : Prop := PortRanges s ∧ FailBackLaw s

/-- R96, R99: a group's hold timer runs only in SUSPECT, and within its range. -/
def GroupLaws (s : State) : Prop :=
  ∀ (g : Group) (n : Nat), (s.group g).hold = some n → (s.group g).state = .suspect ∧ n ≤ 60000

/-- R140, R144: a WALKING walker has a rectangle, its total is that of the rectangle, and fewer steps than
the total have been made; and the counts never exceed the total. -/
def WalkLaws (s : State) : Prop :=
  (s.walker.state = .walking → ∃ o, s.walker.order = some o ∧ s.walker.total = o.total ∧
    s.walker.written + s.walker.skipped < s.walker.total) ∧
  s.walker.written + s.walker.skipped ≤ s.walker.total ∧ s.walker.total ≤ 128

/-- R4, R3, R133: the moves count of a route entry, and its staged timer, 0 when it has run out (log 11). -/
def RouteInRange (r : Route) : Prop :=
  r.moves ≤ 255 ∧ ∀ cur m, r.standing = .staged cur m → m.timer ≤ 60000

/-- R84: the values of the checker's record, and compared below the latched length, at which a probe ends
(R87). -/
def CheckerInRange (k : Checker) : Prop :=
  256 ≤ k.length ∧ k.length ≤ 65535 ∧ k.limit ≤ 65535 ∧ k.errors ≤ 65535 ∧ k.compared < k.length ∧
  k.seeds.length ≤ 2

/-- R153: the counts of the latest-and-count sources. -/
def TalliesInRange (r : HostRecord) : Prop :=
  r.chainFault.count ≤ 255 ∧ r.forcedCutover.count ≤ 255 ∧ r.probeResult.count ≤ 255

/-- The fields of a receiver of frames of `n` octets: its bad run (section 3.2), its place in the frame and
the candidates of the last frame of octets (R51). -/
def FramerInRange (f : Framer) (n : Nat) : Prop :=
  f.badRun ≤ 2 ∧ f.pos < n ∧ f.candidates.length ≤ n

/-- Section 3.2: every receiver's fields. That no form run stands outside ALIGNED is the model's choice where
R53 and R54 differ (log 14): R54 ends the run at every departure from ALIGNED, and R53 has LOS onset keep it. -/
def ReceiversInRange (s : State) : Prop :=
  (∀ k : Trunk, FramerInRange (s.trunk k) 17) ∧
  ∀ p : Port, FramerInRange (s.pathRx p).framer 33 ∧ (s.pathRx p).formRun ≤ 3 ∧
    ((s.pathRx p).framer.state ≠ .aligned → (s.pathRx p).formRun = 0)

/-- R4, R54, R84, R133, R153: the counts and timers of the route table, the checker, the host records and the
receivers. -/
def CountLaws (s : State) : Prop :=
  (∀ c : Circuit, RouteInRange (s.route c)) ∧ CheckerInRange s.checker ∧
  (∀ h : HostId, TalliesInRange (s.hostRecord h)) ∧ ReceiversInRange s

/-! ## The card after a reset (R172) -/

/-- A host record with nothing pending, every urgency and the mask 0, and the latch clear (R150). -/
def HostRecordClear (r : HostRecord) : Prop :=
  r.mask = 0 ∧ (∀ n : Fin 11, r.urgency[n] = 0) ∧
  (∀ i : Fin 16, r.pathDown[i] = false ∧ r.pathSuspect[i] = false ∧ r.pathUp[i] = false) ∧
  (∀ g : Group, r.groupSuspect[g] = false) ∧
  r.chainFault = ⟨none, 0⟩ ∧ r.forcedCutover = ⟨none, 0⟩ ∧ r.probeResult = ⟨none, 0⟩ ∧
  r.bulkDone = none ∧ r.sweepIdle = false ∧ r.latch = false

/-- R1, R2, R9, R24: the route table, the occupancy map and the descriptors after a reset. -/
def StoresReset (t : State) : Prop :=
  (∀ c : Circuit, t.route c =
    { standing := .idle
      fields := { head := none, tier := 3, cls := 3, discipline := .prompt, offset := 0 }
      placed := false, moves := 0, stationLost := true }) ∧
  (∀ (p : Port) (n : Slot), t.holder ⟨p, n⟩ = none) ∧ (∀ p : Port, t.usedCount p = 0) ∧
  (∀ d : Desc, t.desc d = { kind := .path 0 (.fixed 0) none, tier := 3, withdrawn := true })

/-- R61, R84, R96: the port records, the probe checker and the group records after a reset. -/
def MonitorsReset (t : State) : Prop :=
  (∀ p : Port, t.port p =
    { state := .down, h := 0, q := 0, losHold := false
      counts := { fae := 0, ccf := 0, ferd := 0, los := 0, down := 0, overrun := 0 }
      ceiling := 30, failBack := none }) ∧
  t.checker.state = .idle ∧ t.checker.generator = 0x7FF#11 ∧ t.checker.check = 0x7FF#11 ∧
  t.checker.seeds = [] ∧ t.checker.compared = 0 ∧ t.checker.errors = 0 ∧
  t.checker.length = 4000 ∧ t.checker.limit = 4 ∧ t.checker.queue = [] ∧
  t.checker.started = false ∧ t.checker.returned = none ∧
  (∀ g : Group, t.group g = { state := .clear, lastDown := none, hold := none })

/-- R109, R140, R150, R163, R164, R168: the sweep engine, the walk record, the host records, the control
slots, the request engine and the parameters after a reset. -/
def EnginesReset (t : State) : Prop :=
  t.sweep.state = .idle ∧ (∀ c : Circuit, t.queued c = false ∧ t.strandedHas c = false) ∧
  t.walker.state = .idle ∧ t.walker.order = none ∧ t.walker.total = 0 ∧ t.walker.cursor = none ∧
  t.walker.written = 0 ∧ t.walker.skipped = 0 ∧ t.walker.stepsDue = 0 ∧
  (∀ h : HostId, HostRecordClear (t.hostRecord h)) ∧
  (∀ p : Port, (t.control p).rx = .hunt ∧ (t.control p).requests = [] ∧
    (t.control p).responses = [] ∧ (t.control p).overrunFlag = false ∧
    (t.control p).ended = [] ∧ (t.control p).sent = 0) ∧
  t.engine = { pointer := none, held := none, resetPhase := .none } ∧
  (∀ x : Param, t.param x = x.default)

/-- R2, R9, R47, R48: the slot exchange after a reset, with the head octets of a port that is DOWN and does
not serve. -/
def ExchangeReset (t : State) : Prop :=
  (∀ c : Circuit, t.exch.view[c] = .idle ∧ t.exch.toHost[c] = none ∧ t.exch.toStation[c] = none) ∧
  (∀ (p : Port) (n : Slot), t.exch.map[(⟨p, n⟩ : PathSlot).index] = none) ∧
  ∀ p : Port, t.exch.heads[p] = { alignment := 0x9B, control := 0x00, probe := none }

/-- R172: every block after a reset that has read the straps, with the timebase restarted, so that the first
decay tick comes one interval later (R65), and nothing handed on: no occurrence, no entry and no drain. -/
def AfterReset (straps : Straps) (t : State) : Prop :=
  StoresReset t ∧ MonitorsReset t ∧ EnginesReset t ∧ ExchangeReset t ∧ t.straps = straps ∧
  t.time = { frames := 0, sinceDecay := 0, decayDue := 0 } ∧
  t.handed =
    { occurrences := [], downEntries := [], upEntries := [], portDrains := [], groupDrains := [] }

/-- R50: a receiver starts in HUNTING on a line that has carried a transition within 1 ms, else in
NO SIGNAL. -/
def startsBy (m : LineMeasure) (x : RxState) : Prop :=
  x = if m.sinceTransition.val < 8 then .hunting else .noSignal

/-- R50: every receiver starts by its line and keeps its measure of it, with no run, no candidate and far-end
ready absent. -/
def ReceiversStart (lines : LineMeasures) (t : State) : Prop :=
  (∀ k : Trunk, startsBy lines.trunks[k] (t.trunk k).state ∧ (t.trunk k).badRun = 0 ∧
    (t.trunk k).candidates = [] ∧ (t.trunk k).measure = lines.trunks[k]) ∧
  (∀ p : Port, startsBy lines.paths[p] (t.pathRx p).framer.state ∧
    (t.pathRx p).framer.badRun = 0 ∧ (t.pathRx p).framer.candidates = [] ∧
    (t.pathRx p).framer.measure = lines.paths[p] ∧ (t.pathRx p).formRun = 0 ∧
    (t.pathRx p).farEndReady = false)

/-! ## Requests and responses (chapter 11) -/

/-- R163 to R165: the state once a request of port p has been executed and answered: the response (kind,
result, status and data) is at the tail of the port's queue, or discarded when it is lost, the overrun flag is
clear and the engine holds no request. Everything else is as the execution left it. -/
def State.answered (t : State) (p : Port) (lost : Bool) (kind : Octet) (r : Result)
    (data : List Octet) : State :=
  { t with
    ctl := t.ctl.set p
      { t.control p with
        overrunFlag := false
        responses :=
          if lost then (t.control p).responses
          else (t.control p).responses ++ [[kind, r.code, t.statusOctet p] ++ data] }
    engine := { t.engine with held := none } }

/-- The table of section 11.4: the command that serves a request, by its kind code, and for SET PORT by its
action. -/
def rowFor (body : List Octet) (phase : EnginePhase) (straps : Straps) : Instr :=
  match (body.headD 0).toNat with
  | 0x10 => .readRoute phase
  | 0x11 => .writeRoute phase
  | 0x14 => .readDescriptor phase
  | 0x15 => .writeDescriptor phase
  | 0x20 => .readPort phase
  | 0x21 =>
    match body[2]?.bind actionOf with
    | some .enable => .setPortEnable phase
    | some .disable => .setPortDisable phase
    | some .loopbackOn => .setPortLoopbackOn phase
    | some .loopbackOff => .setPortLoopbackOff phase
    | some .ceiling => .setPortCeiling phase
    | some .clearCounts => .setPortClearCounts phase
    | none => .setPortEnable phase
  | 0x22 => .probePort phase
  | 0x23 => .inject phase
  | 0x24 => .readGroup phase
  | 0x25 => .readTrunk phase
  | 0x30 => .bulkRoute phase
  | 0x31 => .bulkAbort phase
  | 0x32 => .reviewRange phase
  | 0x33 => .readSweep phase
  | 0x40 => .takeEvent phase
  | 0x41 => .setMask phase
  | 0x42 => .setUrgency phase
  | 0x43 => .clearAlarm phase
  | 0x50 => .readParameters phase
  | 0x51 => .writeParameter phase
  | 0x5F => .resetExchange phase straps
  | _ => .unknownKind phase

/-- The body lengths of section 11.4. -/
def lengthAllowed (kind : Nat) (n : Nat) : Bool :=
  match kind with
  | 0x10 | 0x20 | 0x22 | 0x24 | 0x25 | 0x41 | 0x50 => n == 2
  | 0x11 => n == 9
  | 0x14 | 0x32 | 0x42 => n == 3
  | 0x15 => n == 11 || n == 9
  | 0x21 => n == 4 || n == 3
  | 0x23 => n == 4
  | 0x30 => n == 13
  | 0x31 | 0x33 | 0x40 | 0x43 | 0x5F => n == 1
  | 0x51 => n == 5
  | _ => true

/-- How far a port stands after the engine's pointer in the round of R163, 0 for the first examined. -/
def roundDistance (pointer : Option Port) (p : Port) : Nat :=
  match pointer with
  | none => p.val
  | some q => (p.val + 7 - q.val) % 8

/-- The operands of WRITE ROUTE as body octets 2 to 9 (chapter 11, "Record layouts"). -/
def RouteWrite.octets (w : RouteWrite) : List Octet :=
  one w.circuit.val ++ one w.service.code ++ descOctets w.fields.head ++ one w.fields.tier.val
    ++ one w.fields.cls.val ++ one w.fields.discipline.code ++ one w.fields.offset.val

/-- A slot rule as two octets; the second of a POOL is any octet. -/
def ruleOctets (rule : SlotRule) (any : Octet) : List Octet :=
  match rule with
  | .fixed n => one 0 ++ one (n.val + 1)
  | .offset base => one 1 ++ one (base.val + 1)
  | .pool => [2, any]

/-- The operands of WRITE DESCRIPTOR as body octets from 2 on. -/
def DescWrite.octets (w : DescWrite) (any : Octet) : List Octet :=
  two w.desc.val ++
    match w.record.kind with
    | .path p rule alternative =>
      one 0 ++ one w.record.tier.val ++ yesNo w.record.withdrawn ++ one p.val ++ ruleOctets rule any
        ++ descOctets alternative
    | .divert target shift =>
      one 1 ++ one w.record.tier.val ++ yesNo w.record.withdrawn ++ two target.val ++ one shift.val

/-- The operands of BULK ROUTE as body octets 2 to 13. -/
def BulkOrder.octets (b : BulkOrder) : List Octet :=
  one b.trunkFirst.val ++ one b.trunkLast.val ++ one b.slotFirst.val ++ one b.slotLast.val
    ++ one b.template.service.code ++ descOctets b.template.head ++ one b.template.tier.val
    ++ one b.template.cls.val ++ one b.template.discipline.code ++ one b.template.mode.code
    ++ [b.template.valueOctet]

/-- A template whose value octet is 0 to 29, and with VALUE v is v. -/
def Template.ValueFits (t : Template) : Prop :=
  t.valueOctet.toNat ≤ 29 ∧ ∀ v, t.mode = .value v → t.valueOctet.toNat = v.val

/-- The members of an extent of a numbering of `n`, in its order (R142). -/
def extent (n first last : Nat) : List Nat :=
  if first ≤ last then List.range' first (last - first + 1)
  else List.range' first (n - first) ++ List.range (last + 1)

/-- What a capacity event does to the stranded circuits, and nothing else (R12): each becomes DISPLACED
and joins the sweep queue. -/
def CapacityEvent (before after : State) : Prop :=
  ∀ c : Circuit,
    (before.strandedHas c = true →
      after.route c = { before.route c with standing := .displaced } ∧
      after.queued c = true ∧ after.strandedHas c = false)

/-- The stranded circuits stay as they are. -/
def StrandedStay (before after : State) : Prop :=
  ∀ c : Circuit, (before.route c).standing = .stranded →
    after.route c = before.route c ∧ after.strandedHas c = before.strandedHas c

/-- An octet as it stands at a place of a frame or a record. -/
def octetAt (l : List Octet) (i : Nat) : Octet := l.getD i 0

/-- The octets of a record from a place on, as many as given. -/
def octetsAt (l : List Octet) (i n : Nat) : List Octet := (l.drop i).take n

/-- R55: whether a frame period of which the lines' transitions are given is one that a port hunts from its
beginning to its end, no LOS onset falling at its end (log 10). -/
def State.huntsThrough (s : State) (signal : BitVec 8) (p : Port) : Bool :=
  (s.pathRx p).beganHunting && decide ((s.pathRx p).framer.state = .hunting) &&
    (signal.getLsbD p.val || decide ((s.pathRx p).framer.measure.sinceTransition.val < 7))

/-- R49, R130: what the 32 slot octets of a delivered frame do, from the state that receives them: slot 0 at
the control receiver, each traffic octet at the circuit that the frame sees holding its slot as CURRENT, and
slot 31 at a checker that runs on the port. -/
def SlotsDelivered (before after : State) (p : Port) (os : List Octet) : Prop :=
  after.control p = (before.controlOctet p (octetAt os 0)).control p ∧
  (∀ q : Port, q ≠ p → after.control q = before.control q) ∧
  (after.checker.runsOn p = true → after.checker.returned = some (octetAt os 31)) ∧
  (before.checker.runsOn p = false → after.checker.returned = before.checker.returned) ∧
  after.exch = { before.exch with toStation := after.exch.toStation } ∧
  (∀ c : Circuit,
    (∀ n : Slot, before.exch.map[(⟨p, n⟩ : PathSlot).index] ≠ some ⟨c, .current⟩) →
    after.exch.toStation[c] = before.exch.toStation[c]) ∧
  ∀ (c : Circuit) (n : Slot),
    before.exch.map[(⟨p, n⟩ : PathSlot).index] = some ⟨c, .current⟩ →
    (∀ n' : Slot, before.exch.map[(⟨p, n'⟩ : PathSlot).index] = some ⟨c, .current⟩ → n' = n) →
    after.exch.toStation[c] = some (octetAt os (n.val + 1))

/-- R8, R49, R129, R131: what the 16 slot octets of a delivered frame of a trunk do, from the state that
receives them: each octet goes on the current path of a circuit that the frame sees with one and whose
station-lost flag is no, a block end of a STAGED circuit is marked, and nothing else changes of any circuit. -/
def StationOctetsDelivered (before after : State) (k : Trunk) (os : List Octet) : Prop :=
  after.exch = { before.exch with toHost := after.exch.toHost } ∧
  ∀ c : Circuit,
    ((∃ q, before.exch.view[c] = .carried q) ∧ trunkOf c = k ∧
        (before.route c).stationLost = false →
      after.exch.toHost[c] = some (octetAt os (stationSlotOf c).val) ∧
      (∀ cur m, (before.route c).standing = .staged cur m → m.seen = true →
        octetAt os (stationSlotOf c).val = before.codeOctet .blockEndCode →
        after.route c =
          { before.route c with standing := .staged cur { m with blockEndPassed := true } }) ∧
      ((∀ cur m, (before.route c).standing = .staged cur m → m.seen = false ∨
          octetAt os (stationSlotOf c).val ≠ before.codeOctet .blockEndCode) →
        after.route c = before.route c)) ∧
    (¬((∃ q, before.exch.view[c] = .carried q) ∧ trunkOf c = k ∧
        (before.route c).stationLost = false) →
      after.exch.toHost[c] = before.exch.toHost[c] ∧ after.route c = before.route c)

/-- R162, R161: the octets of a record on the line: 0xC3, the length, the body, and a check that brings the
sum of the length, the body and the check to 0 modulo 256. -/
def RecordFramed (body : List Octet) : Prop :=
  ∃ check : Octet,
    recordOctets body = [0xC3, BitVec.ofNat 8 body.length] ++ body ++ [check] ∧
    (body.length + (body.map BitVec.toNat).sum + check.toNat) % 256 = 0

/-- R156: a host needs attention while its latch is set, or some source of an urgency above its mask is pending
or true. -/
def AttentionRule (s : State) (h : HostId) : Prop :=
  s.needsAttention h = true ↔
    (s.hostRecord h).latch = true ∨
      ∃ x : Source, (s.hostRecord h).mask < s.urgency h x ∧ s.raised h x = true

/-- R150, 10.2: the numbers of the sources, and the urgency of each by its number. -/
def SourceNumbers (s : State) (h : HostId) : Prop :=
  Source.number .pathDown = 1 ∧ Source.number .stranded = 2 ∧ Source.number .chainFault = 3 ∧
  Source.number .groupSuspect = 4 ∧ Source.number .pathSuspect = 5 ∧
  Source.number .stationAlarm = 6 ∧ Source.number .forcedCutover = 7 ∧
  Source.number .probeResult = 8 ∧ Source.number .pathUp = 9 ∧ Source.number .bulkDone = 10 ∧
  Source.number .sweepIdle = 11 ∧
  ∀ (x : Source) (n : Fin 11), x.number = n.val + 1 → s.urgency h x = (s.hostRecord h).urgency[n]

/-- R152 to R154: when each source is pending for a host, or true. -/
def RaisedRule (s : State) (h : HostId) : Prop :=
  let r := s.hostRecord h
  (s.raised h .pathDown = true ↔ ∃ i : Fin 16, r.pathDown[i] = true) ∧
  (s.raised h .pathSuspect = true ↔ ∃ i : Fin 16, r.pathSuspect[i] = true) ∧
  (s.raised h .pathUp = true ↔ ∃ i : Fin 16, r.pathUp[i] = true) ∧
  (s.raised h .groupSuspect = true ↔ ∃ g : Group, r.groupSuspect[g] = true) ∧
  (s.raised h .stranded = true ↔ ∃ c : Circuit, s.strandedHas c = true) ∧
  (s.raised h .stationAlarm = true ↔ ∃ k : Trunk, (s.trunk k).state ≠ .aligned) ∧
  (s.raised h .chainFault = true ↔ 0 < r.chainFault.count) ∧
  (s.raised h .forcedCutover = true ↔ 0 < r.forcedCutover.count) ∧
  (s.raised h .probeResult = true ↔ 0 < r.probeResult.count) ∧
  (s.raised h .bulkDone = true ↔ r.bulkDone ≠ none) ∧
  (s.raised h .sweepIdle = true ↔ r.sweepIdle = true)

/-- R152: the first member of a set, by its index. -/
def FirstOf {n : Nat} (v : Vector Bool n) (i : Fin n) : Prop :=
  v[i] = true ∧ ∀ j : Fin n, j < i → v[j] = false

/-- R157: what a take does to the pending state of each source: a set loses its first member, a
latest-and-count source its detail and count, BULK DONE and SWEEP IDLE their flags, a condition nothing. -/
def TakenRule (r : HostRecord) : Prop :=
  (∀ i, FirstOf r.pathDown i →
    r.taken .pathDown = { r with pathDown := r.pathDown.set i false }) ∧
  (∀ i, FirstOf r.pathSuspect i →
    r.taken .pathSuspect = { r with pathSuspect := r.pathSuspect.set i false }) ∧
  (∀ i, FirstOf r.pathUp i → r.taken .pathUp = { r with pathUp := r.pathUp.set i false }) ∧
  (∀ i, FirstOf r.groupSuspect i →
    r.taken .groupSuspect = { r with groupSuspect := r.groupSuspect.set i false }) ∧
  r.taken .chainFault = { r with chainFault := ⟨none, 0⟩ } ∧
  r.taken .forcedCutover = { r with forcedCutover := ⟨none, 0⟩ } ∧
  r.taken .probeResult = { r with probeResult := ⟨none, 0⟩ } ∧
  r.taken .bulkDone = { r with bulkDone := none } ∧
  r.taken .sweepIdle = { r with sweepIdle := false } ∧
  r.taken .stranded = r ∧ r.taken .stationAlarm = r

/-- R152 to R154 and the event answer of chapter 11: the detail of each source. -/
def DetailRule (s : State) (h : HostId) : Prop :=
  let r := s.hostRecord h
  (∀ p m, FirstOf r.pathDown (memberIndex p m) →
    s.detailOctets h .pathDown = [BitVec.ofNat 8 p.val, if m then 1 else 0]) ∧
  (∀ p m, FirstOf r.pathSuspect (memberIndex p m) →
    s.detailOctets h .pathSuspect = [BitVec.ofNat 8 p.val, if m then 1 else 0]) ∧
  (∀ p m, FirstOf r.pathUp (memberIndex p m) →
    s.detailOctets h .pathUp = [BitVec.ofNat 8 p.val, if m then 1 else 0]) ∧
  (∀ g, FirstOf r.groupSuspect g →
    s.detailOctets h .groupSuspect = [BitVec.ofNat 8 g.val]) ∧
  (∀ c : Circuit, s.strandedHas c = true → (∀ d : Circuit, d < c → s.strandedHas d = false) →
    s.detailOctets h .stranded =
      [BitVec.ofNat 8 (allCircuits.filter s.strandedHas).length, BitVec.ofNat 8 c.val]) ∧
  ((∀ c : Circuit, s.strandedHas c = false) → s.detailOctets h .stranded = [0, 0xFF]) ∧
  (∃ set : Octet, s.detailOctets h .stationAlarm = [set] ∧
    ∀ k : Trunk, set.getLsbD k.val = decide ((s.trunk k).state ≠ .aligned)) ∧
  (∀ c d k, r.chainFault.latest = some (c, d, k) →
    s.detailOctets h .chainFault =
      [BitVec.ofNat 8 c.val] ++ two d.val ++
        [match k with
          | .depth => 0
          | .withdrawn => 1
          | .tier => 2,
        BitVec.ofNat 8 r.chainFault.count]) ∧
  (∀ c, r.forcedCutover.latest = some c →
    s.detailOctets h .forcedCutover =
      [BitVec.ofNat 8 c.val, BitVec.ofNat 8 r.forcedCutover.count]) ∧
  (∀ p n passed, r.probeResult.latest = some (p, n, passed) →
    s.detailOctets h .probeResult =
      [BitVec.ofNat 8 p.val] ++ two n ++
        [if passed then 0 else 1, BitVec.ofNat 8 r.probeResult.count]) ∧
  (∀ completed w k, r.bulkDone = some (completed, w, k) →
    s.detailOctets h .bulkDone =
      [if completed then 0 else 1, BitVec.ofNat 8 w, BitVec.ofNat 8 k]) ∧
  s.detailOctets h .sweepIdle = []

/-- A port record after a line event of a weight (R62). -/
def scored (h w : Nat) : Nat := min 4095 (h + w)

/-- R63, with R72 and R74: what the comparison with the thresholds leaves of a port whose score an event has
changed, from the state before the event and the state after it. A port in AWAIT PROBE may have been taken into
PROBING meanwhile. -/
def ScoreCompared (before after : State) (p : Port) : Prop :=
  let r := before.port p
  let r' := after.port p
  (before.inService p = true → before.param .downAt ≤ r'.h →
    r'.state = .down ∧ r'.q = 0 ∧ r'.failBack = none ∧
    r'.counts.down = min 65535 (r.counts.down + 1) ∧
    Occurrence.pathDown p false ∈ after.handed.occurrences ∧ p ∈ after.handed.downEntries) ∧
  (r.state = .up → r'.h < before.param .downAt → before.param .suspectAt ≤ r'.h →
    r'.state = .suspect ∧ r'.q = r.q ∧ r'.failBack = none ∧ r'.counts.down = r.counts.down ∧
    Occurrence.pathSuspect p false ∈ after.handed.occurrences ∧
    (before.param .drain ≠ 0 → p ∈ after.handed.portDrains)) ∧
  (r.state = .up → r'.h < before.param .downAt → r'.h < before.param .suspectAt →
    r'.state = .up ∧ r'.q = r.q ∧ r'.counts.down = r.counts.down) ∧
  (r.state = .suspect → r'.h < before.param .downAt →
    r'.state = .suspect ∧ r'.q = r.q ∧ r'.counts.down = r.counts.down) ∧
  (r.state = .awaitProbe ∨ r.state = .probing → before.param .downAt ≤ r'.h →
    r'.state = .down ∧ r'.q = 0 ∧ r'.counts.down = r.counts.down) ∧
  (r.state = .awaitProbe ∨ r.state = .probing → r'.h < before.param .downAt →
    (r'.state = .awaitProbe ∨ r'.state = .probing) ∧ r'.q = r.q ∧
    r'.counts.down = r.counts.down) ∧
  (r.state = .down ∨ r.state = .disabled →
    r'.state = r.state ∧ r'.q = r.q ∧ r'.counts.down = r.counts.down)

/-- R73: what the entry of a port into UP hands on: PATH UP, an UP entry, the fail-back timer when fail-back is
enabled, and a capacity event, which the laws of the sweep give its effect on the stranded circuits. -/
def UpHandedOn (before after : State) (p : Port) : Prop :=
  Occurrence.pathUp p false ∈ after.handed.occurrences ∧ p ∈ after.handed.upEntries ∧
  (after.port p).failBack =
    (if before.param .failBackEnable ≠ 0 then some (before.param .failBackDelay) else none) ∧
  (SweepLaws before → CapacityEvent before after)

/-- R155: the exchange-lost latch of every host is set by an event that takes the last port in service out of
it, and no host record changes otherwise. -/
def LatchesFollow (before after : State) (p : Port) : Prop :=
  ∀ h : HostId, after.hostRecord h =
    if before.inService p = true ∧ ∀ q : Port, q ≠ p → before.inService q = false then
      { before.hostRecord h with latch := true }
    else before.hostRecord h

/-- R111, R126: after an event at the sweep queue that raises the occurrences given, the engine is RUNNING
exactly while the queue holds a circuit, and SWEEP IDLE is raised exactly when the event leaves the queue of a
RUNNING engine empty. -/
def SweepSettled (before after : State) (raised : List Occurrence) : Prop :=
  (after.sweep.state = .running ↔ ∃ c : Circuit, after.queued c = true) ∧
  (before.sweep.state = .running ∧ (∀ c : Circuit, after.queued c = false) →
    after.handed =
      { before.handed with
        occurrences := before.handed.occurrences ++ raised ++ [.sweepIdle] }) ∧
  (¬(before.sweep.state = .running ∧ ∀ c : Circuit, after.queued c = false) →
    after.handed = { before.handed with occurrences := before.handed.occurrences ++ raised })

/-- R87, R88, R71: what the completion of a probe does, from the state before it and the state after it, for
the entry served, the errors counted and the verdict. -/
def VerdictGiven (before after : State) (e : ProbeEntry) (errors : Nat) (pass : Bool) : Prop :=
  let r := before.port e.port
  let r' := after.port e.port
  (∃ l, after.handed.occurrences =
    before.handed.occurrences ++ [.probeResult e.port errors pass] ++ l) ∧
  (before.checker.queue = [] →
    after.checker.state = .idle ∧ after.checker.seeds = [] ∧ after.checker.compared = 0 ∧
    after.checker.errors = 0 ∧ after.checker.queue = []) ∧
  (∀ e' l, before.checker.queue = e' :: l →
    after.checker =
      { state := .seeding e', generator := 0x7FF#11, check := 0x7FF#11, seeds := []
        compared := 0, errors := 0, length := before.param .probeLen
        limit := before.param .probeMaxErr, queue := l, started := false, returned := none } ∧
    (e'.kind = .recovery → (after.port e'.port).state = .probing)) ∧
  (e.kind = .recovery → pass = true →
    r'.state = .up ∧ r'.h = r.h ∧ r'.counts = r.counts ∧
    Occurrence.pathUp e.port false ∈ after.handed.occurrences ∧
    e.port ∈ after.handed.upEntries ∧ CapacityEvent before after) ∧
  (e.kind = .recovery → pass = false →
    r' = { r with state := .down, q := 0, h := scored r.h (before.param .probeFailWeight) } ∧
    after.routes = before.routes ∧ after.handed.downEntries = before.handed.downEntries) ∧
  (e.kind = .demand → pass = true → r' = r ∧ after.routes = before.routes) ∧
  (e.kind = .demand → pass = false →
    r'.h = scored r.h (before.param .probeFailWeight) ∧
    r'.counts = { r.counts with down := r'.counts.down } ∧ ScoreCompared before after e.port) ∧
  (e.kind = .demand → pass = false → r.state.looped = true →
    r' = { r with h := scored r.h (before.param .probeFailWeight) } ∧
    after.routes = before.routes)

end Sys2Proof.Machine
end

