-- ==== Sys2Proof/Certificates/Slice0/Obligations.lean ====
section
/-! DEFINITION. The statements about the card, for the provers. A statement about a request speaks of its
command's `run` phase on the request that the engine holds: the division of R163 into a taking and an
execution is the model's (log 6). A boundary of frame periods stands for a frame's start and end (log 8), and
eight of them for a millisecond (logs 9, 10). -/

open Sys2Proof Sys2Proof.Machine

/-! ## The queue of commands -/

/-- A step takes the command at the front of the queue and executes it on the state with the rest. -/
def Obligations.StepRunsFrontCommand : Prop :=
  ∀ (s : State) (c : Instr) (rest : List Instr), s.pending = c :: rest →
    step s = exec c { s with pending := rest }

/-! ## Resets (12.3) -/

/-- POWER_ON_RESET leaves every block at its reset value, with the straps read, the receivers started by their
lines, the next decay tick one interval away and nothing due or handed on. That the commands that wait are
kept, and that the command carries the lines, are the model's choice (logs 22, 30). RESET_TAKES_EFFECT, once
it is due (log 7), leaves the card in the same state as a power-on reset does, the receivers by the measures
they have kept of their lines. -/
def Obligations.EveryResetRestoresCard : Prop :=
  (∀ (s : State) (straps : Straps) (lines : LineMeasures),
    ∃ t, exec (.powerOnReset straps lines) s = .next t ∧
      AfterReset straps t ∧ ReceiversStart lines t ∧ t.pending = s.pending) ∧
  (∀ (s : State) (straps : Straps), s.engine.resetPhase = .due →
    ∃ t, exec (.resetTakesEffect straps) s = .next t ∧
      AfterReset straps t ∧ ReceiversStart s.lineMeasures t ∧ t.pending = s.pending)

/-- RESET_EXCHANGE: a tier 0 request is answered DONE and its reset waits for the response to be sent, or is
made within the command when the response is discarded; a request of another tier is DENIED and one of another
length RANGE. -/
def Obligations.ResetExchangeRequest : Prop :=
  ∀ (s : State) (p : Port) (lost : Bool) (args : List Octet) (straps : Straps),
    s.engine.held = some ⟨p, 0x5F :: args, lost⟩ → s.engine.resetPhase = .none →
    (args ≠ [] → exec (.resetExchange .run straps) s = .next (s.answered p lost 0x5F .range [])) ∧
    (args = [] → s.tierOf (s.hostOf p) ≠ 0 →
      exec (.resetExchange .run straps) s = .next (s.answered p lost 0x5F .denied [])) ∧
    (args = [] → s.tierOf (s.hostOf p) = 0 → lost = false →
      exec (.resetExchange .run straps) s =
        .next (({ s with engine := { s.engine with resetPhase := .waiting p } } : State).answered
          p false 0x5F .done [])) ∧
    (args = [] → s.tierOf (s.hostOf p) = 0 → lost = true →
      ∃ t, exec (.resetExchange .run straps) s = .next t ∧ AfterReset straps t ∧
        ReceiversStart s.lineMeasures t)

/-! ## The frame period (chapter 3) -/

/-- FRAME_PERIOD transmits a frame of 17 octets on every trunk: 0x9B, then for each station slot idle fill,
the engaged code, or the octet of the circuit's current path, by the route as the frame's start saw it.
FRAME_PERIOD transmits a frame of 33 octets on every path link: the alignment and control octets fixed at its
start, the station octet or idle fill in each traffic slot, and the probe octet or idle fill. -/
def Obligations.FramesTransmitted : Prop :=
  (∀ (s : State) (order : List Port) (a b : BitVec 8),
    ∃ t, exec (.framePeriod order a b) s = .next t ∧
      t.time.frames = s.time.frames + 1 ∧
      ∀ k : Trunk,
        t.exch.txTrunk[k].length = 17 ∧ octetAt t.exch.txTrunk[k] 0 = 0x9B ∧
        ∀ i : StationSlot,
          octetAt t.exch.txTrunk[k] (i.val + 1) =
            match s.exch.view[circuitAt k i], s.exch.toStation[circuitAt k i] with
            | .idle, _ => s.codeOctet .idleFill
            | .engaged, _ => s.codeOctet .engagedCode
            | .carried _, some o => o
            | .carried _, none => s.codeOctet .idleFill) ∧
  (∀ (s : State) (order : List Port) (a b : BitVec 8),
    ∃ t, exec (.framePeriod order a b) s = .next t ∧
      ∀ p : Port,
        t.exch.txPath[p].length = 33 ∧
        octetAt t.exch.txPath[p] 0 = s.exch.heads[p].alignment ∧
        octetAt t.exch.txPath[p] 1 = s.exch.heads[p].control ∧
        octetAt t.exch.txPath[p] 32 = s.exch.heads[p].probe.getD (s.codeOctet .idleFill) ∧
        ∀ n : Slot,
          octetAt t.exch.txPath[p] (n.val + 2) =
            match s.exch.map[(⟨p, n⟩ : PathSlot).index] with
            | some ⟨c, .current⟩ => (s.exch.toHost[c]).getD (s.codeOctet .idleFill)
            | some ⟨_, .staged⟩ => s.codeOctet .idleFill
            | none => s.codeOctet .idleFill)

/-- The frame that FRAME_PERIOD begins: its alignment form by the port state, its control octet (an octet of
the response in transmission, or the idle octet: 0x0F while the host needs attention, else 0x00), its slot 31
octet (on the port that the checker serves, the octet that the transmit generator makes in eight steps, from
all ones for an entry just taken; on the others none), and the routes and the map as they stand. An octet
counts as sent when its frame begins, and while a response whose last octet has been sent awaits RESPONSE_SENT
the frame carries the idle octet (the model's choice: log 36). A response on the line is 0xC3, its length, its
body and a check that brings the sum to 0; a host needs attention by its latch, or by a source pending or true
whose urgency exceeds its mask. -/
def Obligations.NextFrameBegins : Prop :=
  (∀ body : List Octet, RecordFramed body) ∧ (∀ (s : State) (h : HostId), AttentionRule s h) ∧
  ∀ (s : State) (order : List Port) (a b : BitVec 8),
    ∃ t, exec (.framePeriod order a b) s = .next t ∧
      t.exch.map = t.occ ∧
      (∀ c : Circuit, t.exch.toHost[c] = none ∧ t.exch.toStation[c] = none ∧
        t.exch.view[c] =
          match (t.route c).standing with
          | .idle => .idle
          | .routed cur => .carried cur.path
          | .staged cur _ => .carried cur.path
          | .barred | .displaced | .stranded => .engaged) ∧
      ∀ p : Port,
        (t.exch.heads[p].alignment =
          if (t.port p).state = .disabled ∨ (t.port p).state.looped then 0x9A else 0x9B) ∧
        (t.serving p = false → t.exch.heads[p].control = 0x00) ∧
        (t.serving p = true → (s.control p).responses = [] →
          t.exch.heads[p].control = if t.needsAttention (t.hostOf p) then 0x0F else 0x00) ∧
        (∀ body rest, t.serving p = true → (s.control p).responses = body :: rest →
          (s.control p).sent < body.length + 3 →
          t.exch.heads[p].control = octetAt (recordOctets body) (s.control p).sent ∧
          (t.control p).sent = (s.control p).sent + 1) ∧
        (∀ body rest, t.serving p = true → (s.control p).responses = body :: rest →
          body.length + 3 ≤ (s.control p).sent →
          t.exch.heads[p].control = (if t.needsAttention (t.hostOf p) then 0x0F else 0x00) ∧
          (t.control p).sent = (s.control p).sent) ∧
        (t.checker.state.entry = none → t.exch.heads[p].probe = none) ∧
        (∀ (e : ProbeEntry) (g : Stages), ProbeLaws s → t.checker.state.entry = some e →
          g = (if s.checker.state.entry = some e then s.checker.generator else 0x7FF#11) →
          t.checker.started = true ∧ t.checker.generator = (Stages.octet g).2 ∧
          t.exch.heads[p].probe = if p = e.port then some (Stages.octet g).1 else none)

/-- FRAME_PERIOD, after the checker's octet (log 33): each port that hunts the whole period takes one FAE,
which raises H by the FAE weight and its count by one, and the score is compared with the thresholds; the H
and the counts of every other port stay. That LOS onset is judged at the end of the period is the model's
choice (log 10). -/
def Obligations.HuntingPeriodIsFae : Prop :=
  ∀ (s : State) (order : List Port) (a b : BitVec 8) (u : State), u = s.stepChecker →
    ∃ t, exec (.framePeriod order a b) s = .next t ∧
      ∀ p : Port,
        ((s.pathRx p).beganHunting = true ∧ (s.pathRx p).framer.state = .hunting ∧
            (b.getLsbD p.val = true ∨ (s.pathRx p).framer.measure.sinceTransition.val < 7) →
          (t.port p).h = scored (u.port p).h (s.param .faeWeight) ∧
          (t.port p).counts.fae = min 65535 ((u.port p).counts.fae + 1) ∧
          (ProbeLaws s → ScoreCompared u t p)) ∧
        (¬((s.pathRx p).beganHunting = true ∧ (s.pathRx p).framer.state = .hunting ∧
            (b.getLsbD p.val = true ∨ (s.pathRx p).framer.measure.sinceTransition.val < 7)) →
          (t.port p).h = (u.port p).h ∧ (t.port p).counts = (u.port p).counts)

/-- FRAME_PERIOD, after the checker's octet and the FAEs of the ports that hunt, in the order given (log 33;
with no port hunting none): the eighth frame period of a millisecond (log 9) takes one from every running
timer and gives a decay tick when the interval is reached, counted as due (log 23); any other period changes
no timer. Every STAGED circuit has then seen a frame begin, every other route stays, a WALKING walker has one
more step due (log 23), and the checker's generator makes its next octet. The checker's octet: none before a
frame period has begun since its entry; in SEEDING it is kept, 0x00 when none was returned, and the second
loads the check register and enters COUNTING; in COUNTING the check register is stepped eight times, the
differing bits are added, or 8 when no octet was returned, and compared rises. The octet is the looped one in
LOOPBACK. Seeding is as R86 gives it, for a late loop too (log 35). The seeded register and the differing bits
are in ProbePatternAndSeeding. -/
def Obligations.QuietFramePeriod : Prop :=
  (∀ (s : State) (order : List Port) (a b : BitVec 8) (u w : State), u = s.stepChecker →
    w = (portOrder order).foldl
      (fun x p => if s.huntsThrough b p then x.lineEvent p .fae else x) u →
    (∀ p : Port, p ∈ portOrder order) ∧ (portOrder order).Nodup ∧
    (order.Nodup → order <+: portOrder order) ∧
    ((∀ p : Port, (s.pathRx p).beganHunting = false) → w = u) ∧
    ∃ t, exec (.framePeriod order a b) s = .next t ∧
      t.descs = s.descs ∧ t.params = s.params ∧ t.hosts = w.hosts ∧ t.occ = w.occ ∧
      t.used = w.used ∧ t.sweep = w.sweep ∧ t.handed = w.handed ∧
      t.walker =
        { s.walker with
          stepsDue := s.walker.stepsDue + if s.walker.state = .walking then 1 else 0 } ∧
      t.checker =
        (if w.checker.state.entry = none then w.checker
        else
          { w.checker with
            started := true, generator := (Stages.octet w.checker.generator).2 }) ∧
      (∀ c : Circuit, (∀ cur m, (w.route c).standing ≠ .staged cur m) → t.route c = w.route c) ∧
      ((s.time.frames + 1) % 8 ≠ 0 →
        t.ports = w.ports ∧ t.groups = s.groups ∧ t.time.sinceDecay = s.time.sinceDecay ∧
        t.time.decayDue = s.time.decayDue ∧
        ∀ (c : Circuit) (cur : CurrentSet) (m : StagedSet), (w.route c).standing = .staged cur m →
          t.route c = { w.route c with standing := .staged cur { m with seen := true } }) ∧
      ((s.time.frames + 1) % 8 = 0 →
        (∀ p : Port, t.port p = { w.port p with failBack := (w.port p).failBack.map (· - 1) }) ∧
        (∀ g : Group, t.group g = { s.group g with hold := (s.group g).hold.map (· - 1) }) ∧
        (∀ (c : Circuit) (cur : CurrentSet) (m : StagedSet), (w.route c).standing = .staged cur m →
          t.route c =
            { w.route c with
              standing := .staged cur { m with timer := m.timer - 1, seen := true } }) ∧
        (s.time.sinceDecay + 1 < s.param .decayInterval →
          t.time.sinceDecay = s.time.sinceDecay + 1 ∧ t.time.decayDue = s.time.decayDue) ∧
        (s.param .decayInterval ≤ s.time.sinceDecay + 1 →
          t.time.sinceDecay = 0 ∧ t.time.decayDue = s.time.decayDue + 1))) ∧
  (∀ (s u : State), u = s.stepChecker →
    (s.checker.started = false ∨ s.checker.state = .idle →
      u = { s with checker := { s.checker with returned := none } }) ∧
    (∀ (e : ProbeEntry) (o : Octet), s.checker.started = true → s.checker.state = .seeding e →
      o = (s.returnedOctet e.port).getD 0x00 →
      (s.checker.seeds = [] →
        u = { s with checker := { s.checker with seeds := [o], returned := none } }) ∧
      (∀ first : Octet, s.checker.seeds = [first] →
        u = { s with
          checker :=
            { s.checker with
              seeds := [first, o], check := seedRegister first o, state := .counting e
              returned := none } })) ∧
    (∀ e : ProbeEntry, s.checker.started = true → s.checker.state = .counting e →
      s.checker.compared + 1 < s.checker.length →
      u = { s with
        checker :=
          { s.checker with
            compared := s.checker.compared + 1, check := (Stages.octet s.checker.check).2
            errors := min 65535 (s.checker.errors +
              match s.returnedOctet e.port with
              | some o => differingBits (Stages.octet s.checker.check).1 o
              | none => 8)
            returned := none } }) ∧
    ∀ p : Port,
      ((s.port p).state.looped = false → s.returnedOctet p = s.checker.returned) ∧
      ((s.port p).state.looped = true → s.returnedOctet p = s.exch.heads[p].probe))

/-! ## Receivers (chapter 3) -/

/-- STATION_FRAME: an aligned frame sends the octet of each station slot on the current path of a circuit that
the frame sees with one and whose station-lost flag is no, and changes no other octet; a bad run ends. -/
def Obligations.StationFrameDelivered : Prop :=
  ∀ (s : State) (k : Trunk) (os : List Octet),
    (s.trunk k).state = .aligned → (s.trunk k).pos = 0 → os.length = 16 →
    ∃ t, exec (.stationFrame k (0x9B :: os)) s = .next t ∧
      t = { s with trunks := t.trunks, routes := t.routes, exch := t.exch } ∧
      t.trunk k = { s.trunk k with badRun := 0 } ∧ (∀ j : Trunk, j ≠ k → t.trunk j = s.trunk j) ∧
      StationOctetsDelivered s t k os

/-- STATION_FRAME: a trunk receiver leaves ALIGNED at the third bad alignment octet in a row and sets
station-lost on its 16 circuits, and the octets of that frame are not delivered; before that it stays ALIGNED
with a longer run, and the frame is delivered as others are. STATION_FRAME: a hunting trunk receiver whose
candidate of one frame ago is confirmed enters ALIGNED and clears station-lost on its 16 circuits, and the
frame, its first aligned one, is delivered to them so. Nothing else of the card changes. -/
def Obligations.TrunkAlignmentLostAndFound : Prop :=
  (∀ (s : State) (k : Trunk) (o : Octet) (os : List Octet),
    (s.trunk k).state = .aligned → (s.trunk k).pos = 0 → o ≠ 0x9B → os.length = 16 →
    ∃ t, exec (.stationFrame k (o :: os)) s = .next t ∧
      t = { s with trunks := t.trunks, routes := t.routes, exch := t.exch } ∧
      (∀ j : Trunk, j ≠ k → t.trunk j = s.trunk j) ∧
      (∀ c : Circuit, trunkOf c ≠ k → t.route c = s.route c) ∧
      ((s.trunk k).badRun < 2 →
        t.trunk k = { s.trunk k with badRun := (s.trunk k).badRun + 1 } ∧
        StationOctetsDelivered s t k os) ∧
      (2 ≤ (s.trunk k).badRun →
        (t.trunk k).state = .hunting ∧ (t.trunk k).badRun = 0 ∧
        t.exch = s.exch ∧
        ∀ c : Circuit, trunkOf c = k → t.route c = { s.route c with stationLost := true })) ∧
  (∀ (s : State) (k : Trunk) (os : List Octet) (u : State),
    (s.trunk k).state = .hunting → (s.trunk k).candidates[16]? = some true → os.length = 16 →
    u = { s with
          routes := Vector.ofFn fun c =>
            if trunkOf c = k then { s.route c with stationLost := false } else s.route c } →
    ∃ t, exec (.stationFrame k (0x9B :: os)) s = .next t ∧
      t = { s with trunks := t.trunks, routes := t.routes, exch := t.exch } ∧
      t.trunk k = { s.trunk k with state := .aligned, badRun := 0, pos := 0, candidates := [] } ∧
      (∀ j : Trunk, j ≠ k → t.trunk j = s.trunk j) ∧
      (∀ i : StationSlot, (t.route (circuitAt k i)).stationLost = false) ∧
      (∀ c : Circuit, trunkOf c ≠ k → t.route c = s.route c) ∧
      StationOctetsDelivered u t k os)

/-- PATH_FRAME: an aligned frame with a good alignment octet that is not the fourth in a row of the opposite
form ends the bad run and, by whether its form agrees with far-end ready, sets the form run to 0 or raises it
by one; and it delivers slot 0 to the control receiver, each traffic octet to the circuit that the frame sees
holding the slot as CURRENT, and slot 31 to a checker that runs on the port. -/
def Obligations.PathFrameDelivered : Prop :=
  ∀ (s : State) (p : Port) (o : Octet) (os : List Octet) (agrees : Bool),
    (s.pathRx p).framer.state = .aligned → (s.pathRx p).framer.pos = 0 →
    (s.port p).state.looped = false → os.length = 32 → o = 0x9B ∨ o = 0x9A →
    agrees = (decide (o = 0x9B) == (s.pathRx p).farEndReady) →
    (agrees = false → (s.pathRx p).formRun < 3) →
    ∃ t, exec (.pathFrame p (o :: os)) s = .next t ∧
      t = { s with
            rx := t.rx, ctl := t.ctl, exch := t.exch
            checker := { s.checker with returned := t.checker.returned } } ∧
      t.pathRx p =
        { s.pathRx p with
          framer := { (s.pathRx p).framer with badRun := 0 }
          formRun := if agrees then 0 else (s.pathRx p).formRun + 1 } ∧
      (∀ q : Port, q ≠ p → t.pathRx q = s.pathRx q) ∧ SlotsDelivered s t p os

/-- PATH_FRAME: the fourth frame in a row of the opposite form changes far-end ready. From present to absent
it is one FERD, which raises H and the FERD count; from absent to present no port record changes. PATH_FRAME:
every bad alignment octet is one FAE. The first and second in a row leave the receiver ALIGNED with a longer
run, and their frames are delivered as others are; the third takes it to HUNTING, its frame is not delivered,
and the port stops serving: its queues are emptied, its control receiver returns to HUNT, the overrun flag
stands, and a request already taken loses its response. After an FAE or a FERD the score is compared with the
thresholds. Records that have ended on the port are taken first (log 34). A HUNTING receiver whose candidate
of one frame ago is confirmed enters ALIGNED, its frame is delivered and counts toward a form run (which is 0
in HUNTING, a law of StepKeepsRangesAndThresholds that rests on log 14), and the port begins to serve with its
control receiver in HUNT and its queues empty; an octet that confirms nothing is kept as a candidate or as
none for one frame. -/
def Obligations.AlignmentOctetJudged : Prop :=
  (∀ (s : State) (p : Port) (os : List Octet) (u : State), u = s.takeAllEnded p →
    (s.pathRx p).framer.state = .aligned → (s.pathRx p).framer.pos = 0 →
    (s.port p).state.looped = false → os.length = 32 → (s.pathRx p).formRun = 3 →
    ((s.pathRx p).farEndReady = true →
      ∃ t, exec (.pathFrame p (0x9A :: os)) s = .next t ∧
        (t.pathRx p).farEndReady = false ∧ (t.pathRx p).formRun = 0 ∧
        (t.port p).h = scored (u.port p).h (s.param .ferdWeight) ∧
        (t.port p).counts.ferd = min 65535 ((u.port p).counts.ferd + 1) ∧
        (ProbeLaws s → ScoreCompared u t p) ∧ SlotsDelivered u t p os) ∧
    ((s.pathRx p).farEndReady = false →
      ∃ t, exec (.pathFrame p (0x9B :: os)) s = .next t ∧
        (t.pathRx p).farEndReady = true ∧ (t.pathRx p).formRun = 0 ∧ t.ports = s.ports ∧
        t.routes = s.routes ∧ t.handed = s.handed ∧ SlotsDelivered s t p os)) ∧
  (∀ (s : State) (p : Port) (o : Octet) (os : List Octet) (u : State), u = s.takeAllEnded p →
    (s.pathRx p).framer.state = .aligned → (s.pathRx p).framer.pos = 0 →
    (s.port p).state.looped = false → o ≠ 0x9B → o ≠ 0x9A → os.length = 32 →
    ∃ t, exec (.pathFrame p (o :: os)) s = .next t ∧
      (t.port p).h = scored (u.port p).h (s.param .faeWeight) ∧
      (t.port p).counts.fae = min 65535 ((u.port p).counts.fae + 1) ∧
      (ProbeLaws s → ScoreCompared u t p) ∧
      (t.pathRx p).farEndReady = (s.pathRx p).farEndReady ∧ (t.pathRx p).formRun = 0 ∧
      ((s.pathRx p).framer.badRun < 2 →
        (t.pathRx p).framer.state = .aligned ∧
        (t.pathRx p).framer.badRun = (s.pathRx p).framer.badRun + 1 ∧ SlotsDelivered u t p os) ∧
      (2 ≤ (s.pathRx p).framer.badRun →
        (t.pathRx p).framer.state = .hunting ∧ t.serving p = false ∧ t.exch = s.exch ∧
        (t.checker.runsOn p = true → t.checker.returned = u.checker.returned) ∧
        t.control p =
          { rx := .hunt, ended := [], requests := [], responses := [], sent := 0
            overrunFlag := (u.control p).overrunFlag } ∧
        (∀ h, s.engine.held = some h →
          t.engine.held = some { h with orphaned := h.orphaned || decide (h.port = p) }))) ∧
  (∀ (s : State) (p : Port) (o : Octet) (os : List Octet) (agrees : Bool),
    (s.pathRx p).framer.state = .hunting → (s.pathRx p).framer.candidates[32]? = some true →
    (s.port p).state.looped = false → os.length = 32 → o = 0x9B ∨ o = 0x9A →
    agrees = (decide (o = 0x9B) == (s.pathRx p).farEndReady) →
    (agrees = false → (s.pathRx p).formRun < 3) →
    ∃ t, exec (.pathFrame p (o :: os)) s = .next t ∧
      t = { s with
            rx := t.rx, ctl := t.ctl, exch := t.exch
            checker := { s.checker with returned := t.checker.returned } } ∧
      t.pathRx p =
        { framer :=
            { (s.pathRx p).framer with state := .aligned, badRun := 0, pos := 0, candidates := [] }
          farEndReady := (s.pathRx p).farEndReady
          formRun := if agrees then 0 else (s.pathRx p).formRun + 1
          beganHunting := false } ∧
      (∀ q : Port, q ≠ p → t.pathRx q = s.pathRx q) ∧ t.serving p = true ∧
      SlotsDelivered s t p os ∧
      (ControlLaws s →
        t.control p =
          { rx := if octetAt os 0 = 0xC3 then .length else .hunt
            ended := [], requests := [], responses := [], sent := 0
            overrunFlag := (s.control p).overrunFlag })) ∧
  (∀ (s : State) (p : Port) (o : Octet) (good : Bool),
    (s.pathRx p).framer.state = .hunting → good = decide (o = 0x9B ∨ o = 0x9A) →
    ¬(good = true ∧ (s.pathRx p).framer.candidates[32]? = some true) →
    s.pathOctet p o =
      s.setPathRx p
        { s.pathRx p with
          framer :=
            { (s.pathRx p).framer with
              candidates := (good :: (s.pathRx p).framer.candidates).take 33 } })

/-! ## Loss and return of signal (R53, R64) -/

/-- LOS_ONSET on a path port: the receiver enters NO SIGNAL, H becomes 4095, the LOS count rises and the LOS
hold is set. UP and SUSPECT ports enter DOWN with Q 0, counted, with PATH DOWN raised and a DOWN entry handed
on, and when no other port is in service the exchange-lost latch of every host is set; AWAIT PROBE and PROBING
ports enter DOWN with Q 0 uncounted; other ports keep their state. No host record changes but for the latches.
Records that have ended on a serving port are taken first (log 34). The 1 ms is eight frame periods (logs 9,
10). -/
def Obligations.PathLosOnset : Prop :=
  ∀ (s : State) (p : Port) (u : State), ProbeLaws s →
    (s.pathRx p).framer.measure.sinceTransition = 8 → (s.pathRx p).framer.state ≠ .noSignal →
    (s.port p).state.looped = false →
    u = (if (s.pathRx p).framer.state = .aligned then s.takeAllEnded p else s) →
    ∃ t, exec (.losOnset (.path p)) s = .next t ∧
      (t.pathRx p).framer.state = .noSignal ∧ (t.pathRx p).framer.badRun = 0 ∧
      (t.pathRx p).farEndReady = (s.pathRx p).farEndReady ∧
      (t.port p).h = 4095 ∧ (t.port p).losHold = true ∧
      (t.port p).counts.los = min 65535 ((u.port p).counts.los + 1) ∧ LatchesFollow u t p ∧
      ((u.inService p = true) →
        (t.port p).state = .down ∧ (t.port p).q = 0 ∧ (t.port p).failBack = none ∧
        (t.port p).counts.down = min 65535 ((u.port p).counts.down + 1) ∧
        Occurrence.pathDown p false ∈ t.handed.occurrences ∧ p ∈ t.handed.downEntries) ∧
      ((u.port p).state = .awaitProbe ∨ (u.port p).state = .probing →
        (t.port p).state = .down ∧ (t.port p).q = 0 ∧
        (t.port p).counts.down = (u.port p).counts.down ∧ t.handed = u.handed) ∧
      ((u.port p).state = .down ∨ (u.port p).state = .disabled →
        (t.port p).state = (u.port p).state ∧ (t.port p).q = (u.port p).q ∧
        t.handed = u.handed ∧ t.routes = u.routes)

/-- LOS_ONSET on a station trunk: the receiver enters NO SIGNAL with a bad run of 0, and when it was ALIGNED
station-lost is set on its 16 circuits; nothing else changes. LOS_END: the receiver enters HUNTING, and on a
path port the LOS hold is cleared; H, the counts and the state stay, as does everything else. -/
def Obligations.TrunkLosAndLosEnd : Prop :=
  (∀ (s : State) (k : Trunk),
    (s.trunk k).measure.sinceTransition = 8 → (s.trunk k).state ≠ .noSignal →
    ∃ t, exec (.losOnset (.trunk k)) s = .next t ∧
      t = { s with trunks := t.trunks, routes := t.routes } ∧
      (t.trunk k).state = .noSignal ∧ (t.trunk k).badRun = 0 ∧
      (∀ j : Trunk, j ≠ k → t.trunk j = s.trunk j) ∧
      ∀ c : Circuit, t.route c =
        if trunkOf c = k ∧ (s.trunk k).state = .aligned then
          { s.route c with stationLost := true }
        else s.route c) ∧
  ((∀ (s : State) (p : Port),
    (s.pathRx p).framer.measure.withoutGap = 8 → (s.pathRx p).framer.state = .noSignal →
    (s.port p).state.looped = false →
    ∃ t, exec (.losEnd (.path p)) s = .next t ∧
      t = { s with rx := t.rx, ports := s.ports.set p { s.port p with losHold := false } } ∧
      (t.pathRx p).framer.state = .hunting ∧
      (t.pathRx p).farEndReady = (s.pathRx p).farEndReady ∧
      (t.pathRx p).formRun = (s.pathRx p).formRun ∧
      (∀ q : Port, q ≠ p → t.pathRx q = s.pathRx q)) ∧
  (∀ (s : State) (k : Trunk),
    (s.trunk k).measure.withoutGap = 8 → (s.trunk k).state = .noSignal →
    ∃ t, exec (.losEnd (.trunk k)) s = .next t ∧ t = { s with trunks := t.trunks } ∧
      (t.trunk k).state = .hunting ∧ (∀ j : Trunk, j ≠ k → t.trunk j = s.trunk j)))

/-- The departure of an UP or SUSPECT port, by LOS onset: every slot on it is free and its used count 0; its
ROUTED circuits become DISPLACED and join the queue; a STAGED circuit is cut over, cancelled or displaced by
where its paths lie; and the stranded circuits stay stranded, since the releases are no capacity event.
Records that have ended on a serving port are taken first (log 34). -/
def Obligations.DepartureDisplacesCircuits : Prop :=
  ∀ (s : State) (p : Port) (u : State),
    (s.pathRx p).framer.measure.sinceTransition = 8 → (s.pathRx p).framer.state ≠ .noSignal →
    u = (if (s.pathRx p).framer.state = .aligned then s.takeAllEnded p else s) →
    u.inService p = true →
    ∃ t, exec (.losOnset (.path p)) s = .next t ∧
      (∀ n : Slot, t.holder ⟨p, n⟩ = none) ∧ t.usedCount p = 0 ∧
      (∀ q : Port, q ≠ p → t.usedCount q = u.usedCount q) ∧
      StrandedStay u t ∧
      ∀ c : Circuit,
        (∀ cur, (u.route c).standing = .routed cur →
          (cur.path.port = p →
            t.route c = { u.route c with standing := .displaced } ∧ t.queued c = true) ∧
          (cur.path.port ≠ p → t.route c = u.route c ∧ t.queued c = u.queued c)) ∧
        (∀ cur m, (u.route c).standing = .staged cur m →
          (cur.path.port = p → m.path.port ≠ p →
            t.route c =
              { u.route c with
                standing := .routed ⟨m.path, m.via, m.preferred⟩
                moves := min 255 ((u.route c).moves + 1) } ∧
            t.queued c = u.queued c) ∧
          (cur.path.port = p → m.path.port = p →
            t.route c =
              { u.route c with standing := .displaced, moves := min 255 ((u.route c).moves + 1) } ∧
            t.queued c = true) ∧
          (cur.path.port ≠ p → m.path.port = p →
            t.route c = { u.route c with standing := .routed cur } ∧ t.queued c = true) ∧
          (cur.path.port ≠ p → m.path.port ≠ p → t.route c = u.route c))

/-! ## The control slot (chapter 11) -/

/-- The control receiver, octet by octet: HUNT waits for 0xC3, LENGTH takes 1 to 40, BODY keeps every octet
until the length is reached, and CHECK ends the record. CONTROL_RECORD: a record whose sum is 0 modulo 256
joins the request queue when it holds fewer than 2, and else is lost to overrun, flagged and counted; a record
with another sum, or with its length refused, is one CCF, which raises H and the CCF count, and the score is
compared with the thresholds. Taking every ended record is as many CONTROL_RECORDs (log 34). -/
def Obligations.ControlRecords : Prop :=
  (∀ (s : State) (p : Port) (o : Octet) (t : State), t = s.controlOctet p o →
    ((s.control p).rx = .hunt →
      t.control p = { s.control p with rx := if o = 0xC3 then .length else .hunt }) ∧
    ((s.control p).rx = .length → 1 ≤ o.toNat → o.toNat ≤ 40 →
      t.control p = { s.control p with rx := .body o.toNat [] }) ∧
    ((s.control p).rx = .length → (o.toNat = 0 ∨ 40 < o.toNat) →
      t.control p =
        { s.control p with rx := .hunt, ended := (s.control p).ended ++ [.lengthRefused] }) ∧
    (∀ len got, (s.control p).rx = .body len got →
      t.control p =
        { s.control p with
          rx := if got.length + 1 < len then .body len (got ++ [o]) else .check len (got ++ [o]) }) ∧
    (∀ len body, (s.control p).rx = .check len body →
      t.control p =
        { s.control p with
          rx := .hunt, ended := (s.control p).ended ++ [.whole len body o] })) ∧
  (∀ (s : State) (p : Port) (rest : List RecordEnd),
    (∀ len body check, (s.control p).ended = .whole len body check :: rest →
      (len + (body.map BitVec.toNat).sum + check.toNat) % 256 = 0 →
      ((s.control p).requests.length < 2 →
        exec (.controlRecord p) s =
          .next (s.setControl p
            { s.control p with ended := rest, requests := (s.control p).requests ++ [body] })) ∧
      (2 ≤ (s.control p).requests.length →
        exec (.controlRecord p) s =
          .next ((s.setControl p { s.control p with ended := rest, overrunFlag := true }).setPort p
            { s.port p with
              counts :=
                { (s.port p).counts with
                  overrun := min 65535 ((s.port p).counts.overrun + 1) } }))) ∧
    (∀ e, (s.control p).ended = e :: rest →
      (e = .lengthRefused ∨ ∃ len body check, e = .whole len body check ∧
        (len + (body.map BitVec.toNat).sum + check.toNat) % 256 ≠ 0) →
      ∃ t, exec (.controlRecord p) s = .next t ∧
        t.control p = { s.control p with ended := rest } ∧
        (t.port p).counts.overrun = (s.port p).counts.overrun ∧
        ((s.port p).state.looped = false →
          (t.port p).h = scored (s.port p).h (s.param .ccfWeight) ∧
          (t.port p).counts.ccf = min 65535 ((s.port p).counts.ccf + 1) ∧
          (ProbeLaws s → ScoreCompared s t p)))) ∧
  (∀ (s : State) (p : Port),
    ((s.control p).ended = [] → s.takeAllEnded p = s) ∧
    (∀ e rest, (s.control p).ended = e :: rest →
      ∃ t, exec (.controlRecord p) s = .next t ∧ s.takeAllEnded p = t.takeAllEnded p))

/-- RESPONSE_SENT: a response of L body octets leaves the queue when its L + 3 octets have been sent. That of
an accepted RESET EXCHANGE makes the reset due, and RESET_TAKES_EFFECT follows as a command of its own, which
is the model's choice (log 7): R172 has the sending reset the card. -/
def Obligations.ResponseLeavesQueue : Prop :=
  ∀ (s : State) (p : Port) (body : List Octet) (rest : List (List Octet)),
    (s.control p).responses = body :: rest → (s.control p).sent = body.length + 3 →
    (isResetResponse body = false →
      exec (.responseSent p) s =
        .next { s with ctl := s.ctl.set p { s.control p with responses := rest, sent := 0 } }) ∧
    (isResetResponse body = true →
      exec (.responseSent p) s =
        .next { s with
          ctl := s.ctl.set p { s.control p with responses := rest, sent := 0 }
          engine := { s.engine with resetPhase := .due } })

/-- The request engine takes the oldest request of the first eligible port after its pointer: the command of
that request's kind, whichever it is, moves the request from the queue to the engine and sets the pointer, and
changes nothing else. -/
def Obligations.EngineTakesInTurn : Prop :=
  ∀ (s : State) (p : Port) (body : List Octet) (rest : List (List Octet)) (straps : Straps),
    s.engine.held = none → s.engine.resetPhase = .none → body ≠ [] →
    (s.control p).requests = body :: rest → (s.control p).responses.length < 2 →
    (∀ q : Port, (s.control q).requests ≠ [] → (s.control q).responses.length < 2 →
      roundDistance s.engine.pointer p ≤ roundDistance s.engine.pointer q) →
    exec (rowFor body .take straps) s =
      .next { s with
        ctl := s.ctl.set p { s.control p with requests := rest }
        engine := { pointer := some p, held := some ⟨p, body, false⟩, resetPhase := .none } }

/-- The status octet of a response: overrun flag in bit 0, attention in bit 1, the requester's tier in bits 2
and 3. Every position of the route report, the port report, the descriptor report and the sweep report, by the
record layouts of chapter 11, but for the bits and octets that they leave open (logs 15, 17, 24, 32); the
loopback ready setting is coded as SET PORT codes it (log 16), and a flag that holds is sent as 1 (log 28). A
host needs attention by its latch, or by a source pending or true whose urgency exceeds its mask. -/
def Obligations.ResponseLayouts : Prop :=
  (∀ (s : State) (h : HostId), AttentionRule s h) ∧
  (∀ (s : State) (p : Port),
    (s.statusOctet p).getLsbD 0 = (s.control p).overrunFlag ∧
    (s.statusOctet p).getLsbD 1 = s.needsAttention (s.hostOf p) ∧
    ((s.statusOctet p).extractLsb' 2 2).toNat = (s.tierOf (s.hostOf p)).val) ∧
  (∀ (s : State) (c : Circuit) (r : Route) (l : List Octet), r = s.route c → l = s.routeReport c →
    l.length = 20 ∧ octetAt l 0 = BitVec.ofNat 8 c.val ∧
    octetAt l 1 = (match r.standing with
      | .idle => 0 | .barred => 1 | .displaced => 2 | .routed _ => 3 | .staged _ _ => 4
      | .stranded => 5) ∧
    octetsAt l 2 2 = (match r.fields.head with
      | some d => two d.val
      | none => [0xFF, 0xFF]) ∧
    octetAt l 4 = BitVec.ofNat 8 r.fields.tier.val ∧ octetAt l 5 = BitVec.ofNat 8 r.fields.cls.val ∧
    octetAt l 6 = (if r.fields.discipline = .prompt then 0 else 1) ∧
    octetAt l 7 = BitVec.ofNat 8 r.fields.offset.val ∧
    (∀ cur, r.standing = .routed cur ∨ (∃ m, r.standing = .staged cur m) →
      octetAt l 8 = BitVec.ofNat 8 cur.path.port.val ∧
      octetAt l 9 = BitVec.ofNat 8 (cur.path.slot.val + 1) ∧ octetsAt l 10 2 = two cur.via.val ∧
      (octetAt l 19).getLsbD 0 = cur.preferred) ∧
    (r.standing.currentPath = none →
      octetsAt l 8 4 = [0xFF, 0, 0xFF, 0xFF] ∧ (octetAt l 19).getLsbD 0 = false) ∧
    (∀ cur m, r.standing = .staged cur m →
      octetAt l 12 = BitVec.ofNat 8 m.path.port.val ∧
      octetAt l 13 = BitVec.ofNat 8 (m.path.slot.val + 1) ∧ octetsAt l 14 2 = two m.via.val ∧
      octetsAt l 16 2 = two m.timer ∧ (octetAt l 19).getLsbD 1 = m.preferred) ∧
    (r.standing.stagedPath = none →
      octetsAt l 12 6 = [0xFF, 0, 0xFF, 0xFF, 0, 0] ∧ (octetAt l 19).getLsbD 1 = false) ∧
    octetAt l 18 = BitVec.ofNat 8 r.moves ∧ (octetAt l 19).getLsbD 2 = r.placed ∧
    (octetAt l 19).getLsbD 3 = r.stationLost ∧ (octetAt l 19).getLsbD 4 = s.queued c) ∧
  (∀ (s : State) (p : Port) (r : PortRecord) (l : List Octet), r = s.port p → l = s.portReport p →
    l.length = 27 ∧ octetAt l 0 = BitVec.ofNat 8 p.val ∧
    octetAt l 1 = (match r.state with
      | .disabled => 0 | .down => 1 | .awaitProbe => 2 | .probing => 3 | .up => 4 | .suspect => 5
      | .loopback _ _ => 6) ∧
    octetsAt l 2 2 = two r.h ∧ octetAt l 4 = BitVec.ofNat 8 r.q ∧
    octetAt l 5 = (match (s.pathRx p).framer.state with
      | .noSignal => 0 | .hunting => 1 | .aligned => 2) ∧
    (octetAt l 6).getLsbD 0 = r.losHold ∧ (octetAt l 6).getLsbD 1 = (s.pathRx p).farEndReady ∧
    (∀ ready v, r.state = .loopback ready v → (octetAt l 6).getLsbD 2 = !ready) ∧
    octetAt l 7 = (match r.state with
      | .loopback _ .up => 0 | .loopback _ .suspect => 1 | .loopback _ .down => 2 | _ => 0xFF) ∧
    octetAt l 8 = BitVec.ofNat 8 (s.usedCount p) ∧ octetAt l 9 = BitVec.ofNat 8 r.ceiling ∧
    octetsAt l 10 12 = two r.counts.fae ++ two r.counts.ccf ++ two r.counts.ferd ++
      two r.counts.los ++ two r.counts.down ++ two r.counts.overrun ∧
    octetsAt l 22 3 = (match r.failBack with
      | some n => three n
      | none => [0, 0, 0]) ∧
    octetAt l 25 = BitVec.ofNat 8 s.straps.host[p].val ∧
    octetAt l 26 = BitVec.ofNat 8 s.straps.group[p].val) ∧
  (∀ (s : State) (d : Desc) (r : Descriptor), r = s.desc d →
    ∃ any : Octet,
      s.descReport d = two d.val ++ (match r.kind with
        | .path p rule alternative =>
          [0, BitVec.ofNat 8 r.tier.val, if r.withdrawn then 1 else 0, BitVec.ofNat 8 p.val] ++
            (match rule with
              | .fixed n => [0, BitVec.ofNat 8 (n.val + 1)]
              | .offset base => [1, BitVec.ofNat 8 (base.val + 1)]
              | .pool => [2, any]) ++
            (match alternative with
              | some a => two a.val
              | none => [0xFF, 0xFF])
        | .divert target shift =>
          [1, BitVec.ofNat 8 r.tier.val, if r.withdrawn then 1 else 0] ++ two target.val ++
            [BitVec.ofNat 8 shift.val])) ∧
  (∀ (s : State) (w : Walker) (l : List Octet), w = s.walker → l = s.sweepReport →
    l.length = 26 ∧ octetAt l 0 = (if s.sweep.state = .running then 1 else 0) ∧
    octetAt l 1 = BitVec.ofNat 8 s.sweepQueue.length ∧
    octetAt l 2 = BitVec.ofNat 8
      (s.sweepQueue.filter fun c => decide ((s.route c).standing = .displaced)).length ∧
    octetAt l 3 = (match s.sweepQueue with
      | c :: _ => BitVec.ofNat 8 c.val
      | [] => 0xFF) ∧
    octetAt l 4 = BitVec.ofNat 8 s.strandedCircuits.length ∧
    octetAt l 5 = (match s.strandedCircuits with
      | c :: _ => BitVec.ofNat 8 c.val
      | [] => 0xFF) ∧
    octetAt l 6 = (if w.state = .walking then 1 else 0) ∧
    (w.order = none → octetsAt l 7 14 = List.replicate 14 0xFF) ∧
    (∀ o, w.order = some o →
      octetsAt l 7 5 =
        [BitVec.ofNat 8 o.trunkFirst.val, BitVec.ofNat 8 o.trunkLast.val,
          BitVec.ofNat 8 o.slotFirst.val, BitVec.ofNat 8 o.slotLast.val,
          match o.template.service with
          | .inService => 0
          | .barred => 1
          | .idle => 2] ∧
      octetsAt l 12 2 = (match o.template.head with
        | some d => two d.val
        | none => [0xFF, 0xFF]) ∧
      octetsAt l 14 4 =
        [BitVec.ofNat 8 o.template.tier.val, BitVec.ofNat 8 o.template.cls.val,
          if o.template.discipline = .prompt then 0 else 1,
          match o.template.mode with
          | .keep => 0
          | .value _ => 1
          | .stationSlot => 2] ∧
      (∀ v, o.template.mode = .value v → octetAt l 18 = BitVec.ofNat 8 v.val) ∧
      octetsAt l 19 2 =
        [BitVec.ofNat 8 o.originator.val, BitVec.ofNat 8 o.originatorTier.val]) ∧
    octetAt l 21 = BitVec.ofNat 8 w.total ∧
    octetsAt l 22 2 = (match w.cursor with
      | some (tr, sl) => [BitVec.ofNat 8 tr.val, BitVec.ofNat 8 sl.val]
      | none => [0xFF, 0xFF]) ∧
    octetsAt l 24 2 = [BitVec.ofNat 8 w.written, BitVec.ofNat 8 w.skipped])

/-! ## Health (chapter 4) -/

/-- DECAY_TICK: the H of every port falls by the greater of 1 and floor(H × k / 64), and an H of 0 stays. -/
def Obligations.DecayTickLowersScores : Prop :=
  ∀ (s : State) (order : List DecayRecord), 0 < s.time.decayDue →
    ∃ t, exec (.decayTick order) s = .next t ∧
      ∀ p : Port,
        (0 < (s.port p).h →
          (t.port p).h = (s.port p).h - max 1 ((s.port p).h * s.param .decayFactor / 64)) ∧
        ((s.port p).h = 0 → (t.port p).h = 0)

/-- DECAY_TICK: the comparison after the decay, for every state outside LOOPBACK, whatever the order of the
records: to DOWN, to SUSPECT, back to UP, or the quiet count of a DOWN port; DISABLED ports keep state and Q,
and AWAIT PROBE and PROBING ports are moved only by the checker's taking of an entry. A departure hands on
PATH DOWN and a DOWN entry, is counted, frees the port's slots and cancels its probe entry; a new SUSPECT
hands on PATH SUSPECT and, with drain enabled, the drain; an entry into UP hands on PATH UP and an UP entry,
starts the fail-back timer when fail-back is enabled, and is a capacity event. With no entry into UP the
stranded circuits stay. No other count changes. -/
def Obligations.DecayTickMovesPorts : Prop :=
  ∀ (s : State) (order : List DecayRecord) (p : Port) (h' : Nat),
    ProbeLaws s → 0 < s.time.decayDue →
    h' = (s.port p).h - max 1 ((s.port p).h * s.param .decayFactor / 64) →
    ∃ t, exec (.decayTick order) s = .next t ∧
      (s.inService p = true → s.param .downAt ≤ h' →
        (t.port p).state = .down ∧ (t.port p).q = 0 ∧ (t.port p).failBack = none ∧
        (t.port p).counts =
          { (s.port p).counts with down := min 65535 ((s.port p).counts.down + 1) } ∧
        Occurrence.pathDown p false ∈ t.handed.occurrences ∧ p ∈ t.handed.downEntries ∧
        (∀ n : Slot, t.holder ⟨p, n⟩ = none) ∧ ∀ x ∈ probeEntries t.checker, x.port ≠ p) ∧
      (¬(s.inService p = true ∧ s.param .downAt ≤ h') → (t.port p).counts = (s.port p).counts) ∧
      ((s.port p).state = .up → h' < s.param .downAt → s.param .suspectAt ≤ h' →
        (t.port p).state = .suspect ∧ (t.port p).failBack = none ∧
        Occurrence.pathSuspect p false ∈ t.handed.occurrences ∧
        (s.param .drain ≠ 0 → p ∈ t.handed.portDrains)) ∧
      ((s.port p).state = .up → h' < s.param .downAt → h' < s.param .suspectAt →
        (t.port p).state = .up ∧ (t.port p).failBack = (s.port p).failBack) ∧
      ((s.port p).state = .suspect → h' < s.param .downAt → h' ≤ s.param .recoverBelow →
        (t.port p).state = .up ∧ UpHandedOn s t p) ∧
      ((s.port p).state = .suspect → h' < s.param .downAt → s.param .recoverBelow < h' →
        (t.port p).state = .suspect) ∧
      ((s.port p).state = .disabled →
        (t.port p).state = .disabled ∧ (t.port p).q = (s.port p).q) ∧
      ((s.port p).state = .probing →
        (t.port p).state = .probing ∧ (t.port p).q = (s.port p).q ∧
        t.checker.state.entry = some ⟨p, .recovery⟩) ∧
      ((s.port p).state = .awaitProbe →
        (t.port p).q = (s.port p).q ∧
        ((t.port p).state = .awaitProbe ∨
          (t.port p).state = .probing ∧ t.checker.state.entry = some ⟨p, .recovery⟩)) ∧
      ((∀ q : Port, (t.port q).state = .up → (s.port q).state = .up) → StrandedStay s t) ∧
      ((s.port p).state = .down →
        ((h' ≤ s.param .recoverBelow ∧ (s.pathRx p).farEndReady = true ∧
            (s.port p).losHold = false ∧ (s.pathRx p).framer.state ≠ .noSignal) →
          (t.port p).q = (s.port p).q + 1 ∧
          ((s.port p).q + 1 < s.param .recoverTicks → (t.port p).state = .down) ∧
          (s.param .recoverTicks ≤ (s.port p).q + 1 → s.param .probeRequired = 0 →
            (t.port p).state = .up ∧ UpHandedOn s t p) ∧
          (s.param .recoverTicks ≤ (s.port p).q + 1 → s.param .probeRequired ≠ 0 →
            (t.port p).state = .awaitProbe ∨ (t.port p).state = .probing)) ∧
        (¬(h' ≤ s.param .recoverBelow ∧ (s.pathRx p).farEndReady = true ∧
            (s.port p).losHold = false ∧ (s.pathRx p).framer.state ≠ .noSignal) →
          (t.port p).state = .down ∧ (t.port p).q = 0))

/-- DECAY_TICK of a looped port: the verdict falls to DOWN with Q 0 or to SUSPECT, SUSPECT returns to UP at
RECOVER_BELOW, and a DOWN verdict counts quiet ticks and returns to UP; each change raises its loopback-marked
occurrence, and the port stays in LOOPBACK. -/
def Obligations.DecayTickOfLoopedPort : Prop :=
  ∀ (s : State) (order : List DecayRecord) (p : Port) (ready : Bool) (v : Verdict) (h' : Nat),
    ProbeLaws s → 0 < s.time.decayDue → (s.port p).state = .loopback ready v →
    h' = (s.port p).h - max 1 ((s.port p).h * s.param .decayFactor / 64) →
    ∃ t, exec (.decayTick order) s = .next t ∧
      (v ≠ .down → s.param .downAt ≤ h' →
        (t.port p).state = .loopback ready .down ∧ (t.port p).q = 0 ∧
        Occurrence.pathDown p true ∈ t.handed.occurrences) ∧
      (v = .up → h' < s.param .downAt → s.param .suspectAt ≤ h' →
        (t.port p).state = .loopback ready .suspect ∧ (t.port p).q = (s.port p).q ∧
        Occurrence.pathSuspect p true ∈ t.handed.occurrences) ∧
      (v = .suspect → h' < s.param .downAt → h' ≤ s.param .recoverBelow →
        (t.port p).state = .loopback ready .up ∧ (t.port p).q = (s.port p).q ∧
        Occurrence.pathUp p true ∈ t.handed.occurrences) ∧
      ((v = .up ∧ h' < s.param .suspectAt ∨ v = .suspect ∧ s.param .recoverBelow < h') →
        h' < s.param .downAt →
        (t.port p).state = .loopback ready v ∧ (t.port p).q = (s.port p).q) ∧
      (v = .down →
        ((h' ≤ s.param .recoverBelow ∧ (s.pathRx p).farEndReady = true ∧
            (s.port p).losHold = false ∧ (s.pathRx p).framer.state ≠ .noSignal) →
          (t.port p).q = (s.port p).q + 1 ∧
          ((s.port p).q + 1 < s.param .recoverTicks →
            (t.port p).state = .loopback ready .down) ∧
          (s.param .recoverTicks ≤ (s.port p).q + 1 →
            (t.port p).state = .loopback ready .up ∧
            Occurrence.pathUp p true ∈ t.handed.occurrences)) ∧
        (¬(h' ≤ s.param .recoverBelow ∧ (s.pathRx p).farEndReady = true ∧
            (s.port p).losHold = false ∧ (s.pathRx p).framer.state ≠ .noSignal) →
          (t.port p).state = .loopback ready .down ∧ (t.port p).q = 0))

/-! ## Cutover (chapter 8) -/

/-- The cutover of a STAGED circuit, by BLOCK_END_PASSAGE or by STAGED_TIMER_EXPIRY: the staged path becomes
the current one, the old slot is released, moves rises, and when the old port is in service every stranded
circuit returns to the queue. Only the expiry raises FORCED CUTOVER. -/
def Obligations.StagedCircuitCutOver : Prop :=
  ∀ (s : State) (c : Circuit) (cur : CurrentSet) (m : StagedSet) (i : Instr),
    SweepLaws s → (s.route c).standing = .staged cur m → cur.path ≠ m.path →
    (i = .blockEndPassage c ∧ m.blockEndPassed = true ∨ i = .stagedTimerExpiry c ∧ m.timer = 0) →
    ∃ t, exec i s = .next t ∧
      t = { s with routes := t.routes, occ := t.occ, used := t.used, sweep := t.sweep
                   handed := t.handed } ∧
      t.route c =
        { s.route c with
          standing := .routed ⟨m.path, m.via, m.preferred⟩
          moves := min 255 ((s.route c).moves + 1) } ∧
      t.holder m.path = some ⟨c, .current⟩ ∧ t.holder cur.path = none ∧
      (∀ q, q ≠ m.path → q ≠ cur.path → t.holder q = s.holder q) ∧
      (∀ p : Port, t.usedCount p = s.usedCount p - if p = cur.path.port then 1 else 0) ∧
      (s.inService cur.path.port = true → CapacityEvent s t) ∧
      (s.inService cur.path.port = false → StrandedStay s t) ∧
      (i = .blockEndPassage c → t.handed = s.handed) ∧
      (i = .stagedTimerExpiry c →
        t.handed =
          { s.handed with occurrences := s.handed.occurrences ++ [.forcedCutover c] })

/-! ## The sweep (chapters 2 and 7) -/

/-- The sweep queue holds the queued circuits, DISPLACED before the others, by class, and
by circuit number. -/
def Obligations.SweepQueueOrder : Prop :=
  ∀ s : State,
    (∀ c : Circuit, c ∈ s.sweepQueue ↔ s.queued c = true) ∧
    s.sweepQueue.Pairwise fun c d =>
      (if (s.route c).standing = .displaced then 0 else 1) <
        (if (s.route d).standing = .displaced then 0 else 1) ∨
      ((if (s.route c).standing = .displaced then 0 else 1) =
          (if (s.route d).standing = .displaced then 0 else 1) ∧
        ((s.route c).fields.cls < (s.route d).fields.cls ∨
          (s.route c).fields.cls = (s.route d).fields.cls ∧ c < d))

/-- RESOLUTION of a DISPLACED circuit: with a result it is placed, its slot held as CURRENT, placed set, and
moves raised unless this is its first placement; with a failure it is stranded, and a fault raises CHAIN
FAULT. It leaves the queue either way, and SWEEP IDLE is raised exactly when that leaves the queue of a
RUNNING engine empty. -/
def Obligations.ResolutionOfDisplaced : Prop :=
  ∀ (s : State) (c : Circuit) (rest : List Circuit),
    s.sweepQueue = c :: rest → (s.route c).standing = .displaced →
    ∃ t, exec .resolution s = .next t ∧
      t = { s with routes := t.routes, occ := t.occ, used := t.used, sweep := t.sweep
                   handed := t.handed } ∧
      t.queued c = false ∧
      (∀ d : Circuit, d ≠ c → t.route d = s.route d ∧ t.queued d = s.queued d ∧
        t.strandedHas d = s.strandedHas d) ∧
      (∀ found, s.resolve c = .result found →
        t.route c =
          { s.route c with
            standing := .routed found, placed := true
            moves :=
              if (s.route c).placed then min 255 ((s.route c).moves + 1)
              else (s.route c).moves } ∧
        t.holder found.path = some ⟨c, .current⟩ ∧
        (∀ q, q ≠ found.path → t.holder q = s.holder q) ∧
        (∀ p : Port, t.usedCount p = s.usedCount p + if p = found.path.port then 1 else 0) ∧
        SweepSettled s t []) ∧
      (∀ fault, s.resolve c = .failure fault →
        t.route c = { s.route c with standing := .stranded } ∧ t.strandedHas c = true ∧
        t.occ = s.occ ∧ t.used = s.used ∧
        SweepSettled s t (match fault with
          | some (k, d) => [.chainFault c d k]
          | none => []))

/-- RESOLUTION of a ROUTED circuit: the same path keeps it with the preferred flag of the result; a different
path moves it at once (PROMPT) or stages it (CLEAN) with the hold limit that stands; a failure keeps it with
preferred no, and a fault raises CHAIN FAULT. SWEEP IDLE is raised exactly when the event leaves the queue of
a RUNNING engine empty. -/
def Obligations.ResolutionOfRouted : Prop :=
  ∀ (s : State) (c : Circuit) (rest : List Circuit) (cur : CurrentSet),
    s.sweepQueue = c :: rest → (s.route c).standing = .routed cur → s.strandedHas c = false →
    ∃ t, exec .resolution s = .next t ∧
      t = { s with routes := t.routes, occ := t.occ, used := t.used, sweep := t.sweep
                   handed := t.handed } ∧
      t.queued c = false ∧ (∀ found, s.resolve c = .result found → SweepSettled s t []) ∧
      (∀ found, s.resolve c = .result found → found.path = cur.path →
        t.route c = { s.route c with standing := .routed { cur with preferred := found.preferred } } ∧
        t.occ = s.occ ∧ t.used = s.used ∧ StrandedStay s t) ∧
      (∀ found, s.resolve c = .result found → found.path ≠ cur.path →
        (s.route c).fields.discipline = .prompt →
        t.route c =
          { s.route c with standing := .routed found, moves := min 255 ((s.route c).moves + 1) } ∧
        t.holder found.path = some ⟨c, .current⟩ ∧ t.holder cur.path = none ∧
        (∀ q, q ≠ found.path → q ≠ cur.path → t.holder q = s.holder q) ∧
        (∀ p : Port, t.usedCount p =
          s.usedCount p + (if p = found.path.port then 1 else 0) -
            (if p = cur.path.port then 1 else 0)) ∧
        (s.inService cur.path.port = true → CapacityEvent s t)) ∧
      (∀ found, s.resolve c = .result found → found.path ≠ cur.path →
        (s.route c).fields.discipline = .clean →
        t.route c =
          { s.route c with
            standing := .staged cur
              { path := found.path, via := found.via, preferred := found.preferred
                timer := s.param .cleanHoldLimit, seen := false, blockEndPassed := false } } ∧
        t.holder found.path = some ⟨c, .staged⟩ ∧
        (∀ q, q ≠ found.path → t.holder q = s.holder q) ∧
        (∀ p : Port, t.usedCount p = s.usedCount p + if p = found.path.port then 1 else 0) ∧
        StrandedStay s t) ∧
      (∀ fault, s.resolve c = .failure fault →
        t.route c = { s.route c with standing := .routed { cur with preferred := false } } ∧
        t.occ = s.occ ∧ t.used = s.used ∧ StrandedStay s t ∧
        SweepSettled s t (match fault with
          | some (k, d) => [.chainFault c d k]
          | none => []))

/-- The slot that a PATH descriptor offers: FIXED n gives n, OFFSET base gives 1 + ((base - 1 + e) mod 30),
and POOL the lowest slot that is free or the circuit's own as CURRENT. What a resolution may find: a slot that
is free or the circuit's own, on a port with room, UP or SUSPECT, through a PATH descriptor of that port that
is not withdrawn and whose tier is within the circuit's; a preferred result lies on a port that is UP in a
CLEAR group. A visit: the ninth ends the pass with DEPTH, a withdrawn descriptor with WITHDRAWN, an effective
tier greater than the circuit's with TIER; a DIVERT adds its shift modulo 30 and moves on to its target; a
PATH gives its offered slot when that is usable, and else goes on to its alternative or ends the pass. A pass
starts from the head with the circuit's offset. The first pass's result stands, preferred when its PATH is the
first visited; else the second pass decides, with preferred no. A head that offers a usable slot on an UP port
of a CLEAR group is found. -/
def Obligations.ResolverOffersUsableSlots : Prop :=
  (∀ (s : State) (c : Circuit) (p : Port) (e : Offset),
    (∀ n : Slot, s.offeredSlot c p (.fixed n) e = some n) ∧
    (∀ base : Slot, (s.offeredSlot c p (.offset base) e).map (fun n => n.val + 1) =
      some (1 + ((base.val + 1) - 1 + e.val) % 30)) ∧
    (∀ n : Slot, s.offeredSlot c p .pool e = some n →
      (s.holder ⟨p, n⟩ = none ∨ s.holder ⟨p, n⟩ = some ⟨c, .current⟩) ∧
      ∀ m : Slot, m < n →
        s.holder ⟨p, m⟩ ≠ none ∧ s.holder ⟨p, m⟩ ≠ some ⟨c, .current⟩) ∧
    (s.offeredSlot c p .pool e = none →
      ∀ m : Slot, s.holder ⟨p, m⟩ ≠ none ∧ s.holder ⟨p, m⟩ ≠ some ⟨c, .current⟩)) ∧
  (∀ (s : State) (c : Circuit) (found : CurrentSet), s.resolve c = .result found →
    (s.holder found.path = none ∨ s.holder found.path = some ⟨c, .current⟩) ∧
    (s.usedCount found.path.port < (s.port found.path.port).ceiling ∨
      ∃ q, (s.route c).standing.currentPath = some q ∧ q.port = found.path.port) ∧
    s.inService found.path.port = true ∧
    (∃ rule alternative, (s.desc found.via).kind = .path found.path.port rule alternative) ∧
    (s.desc found.via).withdrawn = false ∧
    (s.desc found.via).tier ≤ (s.route c).fields.tier ∧
    (found.preferred = true →
      (s.port found.path.port).state = .up ∧
      (s.group (s.groupOf found.path.port)).state = .clear)) ∧
  (∀ (s : State) (pass : Pass) (c : Circuit) (q : PathSlot), s.usable pass c q = true ↔
    (match pass with
      | .first => (s.port q.port).state = .up ∧ (s.group (s.groupOf q.port)).state = .clear
      | .second => (s.port q.port).state = .up ∨ (s.port q.port).state = .suspect) ∧
    (s.holder q = none ∨ s.holder q = some ⟨c, .current⟩) ∧
    (s.usedCount q.port < (s.port q.port).ceiling ∨
      ∃ q', (s.route c).standing.currentPath = some q' ∧ q'.port = q.port)) ∧
  (∀ (s : State) (pass : Pass) (c : Circuit) (left : Nat) (w : Walk) (x : Descriptor) (tier : Tier),
    x = s.desc w.position →
    tier = (match w.effectiveTier with
      | none => x.tier
      | some e => max e x.tier) →
    s.walk pass c 0 w = .fault .depth w.position ∧
    (x.withdrawn = true → s.walk pass c (left + 1) w = .fault .withdrawn w.position) ∧
    (x.withdrawn = false → (s.route c).fields.tier < tier →
      s.walk pass c (left + 1) w = .fault .tier w.position) ∧
    (x.withdrawn = false → tier ≤ (s.route c).fields.tier →
      (∀ (target : Desc) (shift e : Offset), x.kind = .divert target shift →
        e.val = (w.offset.val + shift.val) % 30 →
        s.walk pass c (left + 1) w =
          s.walk pass c left
            { effectiveTier := some tier, offset := e, firstPath := w.firstPath
              position := target }) ∧
      (∀ (p : Port) (rule : SlotRule) (alternative : Option Desc) (first : Desc),
        x.kind = .path p rule alternative → first = w.firstPath.getD w.position →
        (∀ n, s.offeredSlot c p rule w.offset = some n → s.usable pass c ⟨p, n⟩ = true →
          s.walk pass c (left + 1) w = .result ⟨p, n⟩ w.position (decide (first = w.position))) ∧
        ((∀ n, s.offeredSlot c p rule w.offset = some n → s.usable pass c ⟨p, n⟩ = false) →
          (alternative = none → s.walk pass c (left + 1) w = .exhausted) ∧
          (∀ a, alternative = some a →
            s.walk pass c (left + 1) w =
              s.walk pass c left
                { effectiveTier := some tier, offset := w.offset, firstPath := some first
                  position := a }))))) ∧
  (∀ (s : State) (c : Circuit) (d : Desc) (start : Walk), (s.route c).fields.head = some d →
    start = { effectiveTier := none, offset := (s.route c).fields.offset, firstPath := none
              position := d } →
    (∀ q via first, s.walk .first c 8 start = .result q via first →
      s.resolve c = .result ⟨q, via, first⟩) ∧
    ((∀ q via first, s.walk .first c 8 start ≠ .result q via first) →
      (∀ q via first, s.walk .second c 8 start = .result q via first →
        s.resolve c = .result ⟨q, via, false⟩) ∧
      (s.walk .second c 8 start = .exhausted → s.resolve c = .failure none) ∧
      (∀ k x, s.walk .second c 8 start = .fault k x → s.resolve c = .failure (some (k, x)))) ∧
    (∀ p rule alternative n, (s.desc d).kind = .path p rule alternative →
      (s.desc d).withdrawn = false → (s.desc d).tier ≤ (s.route c).fields.tier →
      s.offeredSlot c p rule (s.route c).fields.offset = some n →
      (s.port p).state = .up → (s.group (s.groupOf p)).state = .clear →
      s.holder ⟨p, n⟩ = none → s.usedCount p < (s.port p).ceiling →
      s.resolve c = .result ⟨⟨p, n⟩, d, true⟩))

/-! ## Groups, drain and fail-back (chapter 6) -/

/-- DOWN_ENTRY: the entry becomes its group's last; one that qualifies makes a CLEAR group SUSPECT, with its
hold timer started, GROUP SUSPECT raised and the drain handed on when drain is enabled, and starts the hold of
a SUSPECT group afresh. -/
def Obligations.DownEntryTaken : Prop :=
  ∀ (s : State) (p : Port) (g : Group), g = s.groupOf p → p ∈ s.handed.downEntries →
    ((0 < s.param .groupWindow ∧
        ∃ q m, (s.group g).lastDown = some (q, m) ∧ q ≠ p ∧ s.now - m ≤ s.param .groupWindow) →
      ((s.group g).state = .clear →
        exec (.downEntry p) s =
          .next { s with
            groups := s.groups.set g
              { state := .suspect, lastDown := some (p, s.now)
                hold := some (s.param .groupHold) }
            handed :=
              { s.handed with
                downEntries := s.handed.downEntries.erase p
                occurrences := s.handed.occurrences ++ [.groupSuspect g]
                groupDrains :=
                  if s.param .drain ≠ 0 then s.handed.groupDrains ++ [g]
                  else s.handed.groupDrains } }) ∧
      ((s.group g).state = .suspect →
        exec (.downEntry p) s =
          .next { s with
            groups := s.groups.set g
              { state := .suspect, lastDown := some (p, s.now)
                hold := some (s.param .groupHold) }
            handed := { s.handed with downEntries := s.handed.downEntries.erase p } })) ∧
    (¬(0 < s.param .groupWindow ∧
        ∃ q m, (s.group g).lastDown = some (q, m) ∧ q ≠ p ∧ s.now - m ≤ s.param .groupWindow) →
      exec (.downEntry p) s =
        .next { s with
          groups := s.groups.set g { s.group g with lastDown := some (p, s.now) }
          handed := { s.handed with downEntries := s.handed.downEntries.erase p } })

/-- A SUSPECT group clears at the expiry of its hold, or once the hold has stopped at an UP entry of a member
or at a decay tick, exactly when no member is in DOWN, AWAIT PROBE or PROBING. At a decay tick the members are
judged as they stand when the group's record is reached: a member that is out before and after the tick holds
the group, the group clears when none is out before or after it, and a record reached first is judged on the
states before the tick (log 13). A group that is CLEAR, or whose hold has not stopped, is not changed by a
tick. -/
def Obligations.SuspectGroupClears : Prop :=
  (∀ (s : State) (g : Group), (s.group g).state = .suspect → (s.group g).hold = some 0 →
    exec (.holdTimerExpiry g) s =
      .next { s with
        groups := s.groups.set g
          { s.group g with
            hold := none
            state :=
              if ∃ p : Port, s.groupOf p = g ∧ ((s.port p).state = .down ∨
                (s.port p).state = .awaitProbe ∨ (s.port p).state = .probing)
              then .suspect else .clear } }) ∧
  (∀ (s : State) (p : Port) (g : Group), g = s.groupOf p → p ∈ s.handed.upEntries →
    (s.group g).state = .suspect →
    exec (.upEntry p) s =
      .next { s with
        groups := s.groups.set g
          { s.group g with
            state :=
              if (s.group g).hold ≠ none ∨ ∃ q : Port, s.groupOf q = g ∧
                ((s.port q).state = .down ∨ (s.port q).state = .awaitProbe ∨
                  (s.port q).state = .probing)
              then .suspect else .clear }
        handed := { s.handed with upEntries := s.handed.upEntries.erase p } }) ∧
  (∀ (s : State) (order : List DecayRecord) (g : Group), ProbeLaws s → 0 < s.time.decayDue →
    ∃ t, exec (.decayTick order) s = .next t ∧
      ((s.group g).state = .clear ∨ (s.group g).hold ≠ none → t.group g = s.group g) ∧
      ((s.group g).state = .suspect → (s.group g).hold = none →
        ((∃ p : Port, s.groupOf p = g ∧ (s.port p).state.recovering = true ∧
            (t.port p).state.recovering = true) → t.group g = s.group g) ∧
        ((∀ p : Port, s.groupOf p = g → (s.port p).state.recovering = false ∧
            (t.port p).state.recovering = false) →
          t.group g = { s.group g with state := .clear }) ∧
        (order = [.group g] →
          t.group g =
            { s.group g with
              state :=
                if ∃ p : Port, s.groupOf p = g ∧ ((s.port p).state = .down ∨
                  (s.port p).state = .awaitProbe ∨ (s.port p).state = .probing)
                then .suspect else .clear })))

/-- PORT_DRAIN, GROUP_DRAIN and FAIL_BACK_EXPIRY put up for review the ROUTED circuits on the port, on the
group's members in service, or with preferred no when fail-back is enabled; they join the sweep queue and
nothing else changes but the entry or the timer taken. -/
def Obligations.ReviewsJoinQueue : Prop :=
  ∀ (s : State) (i : Instr) (picks : CurrentSet → Bool) (u : State), SweepLaws s →
    ((∃ p, i = .portDrain p ∧ p ∈ s.handed.portDrains ∧
        (∀ cur, picks cur = decide (cur.path.port = p)) ∧
        u = { s with
              handed := { s.handed with portDrains := s.handed.portDrains.erase p } }) ∨
      (∃ g, i = .groupDrain g ∧ g ∈ s.handed.groupDrains ∧
        (∀ cur, picks cur = (s.groupOf cur.path.port == g && s.inService cur.path.port)) ∧
        u = { s with
              handed := { s.handed with groupDrains := s.handed.groupDrains.erase g } }) ∨
      (∃ p, i = .failBackExpiry p ∧ (s.port p).failBack = some 0 ∧
        (∀ cur, picks cur = (decide (s.param .failBackEnable ≠ 0) && !cur.preferred)) ∧
        u = { s with ports := s.ports.set p { s.port p with failBack := none } })) →
    ∃ t, exec i s = .next t ∧ t = { u with sweep := t.sweep } ∧
      ∀ c : Circuit,
        t.strandedHas c = s.strandedHas c ∧
        (t.queued c = true ↔
          s.queued c = true ∨ ∃ cur, (s.route c).standing = .routed cur ∧ picks cur = true)

/-! ## Bulk programming (chapter 9) -/

/-- The walk of a rectangle: its extents wrap, it is slot-major, it meets each circuit once, and the total is
the product of the two counts, 1 to 128. -/
def Obligations.WalkCoversRectangle : Prop :=
  ∀ o : WalkOrder,
    (List.range o.total).map (fun i => circuitAt (o.trunkOfStep i) (o.slotOfStep i)) =
      ((extent 16 o.slotFirst.val o.slotLast.val).flatMap fun sl =>
        (extent 8 o.trunkFirst.val o.trunkLast.val).map fun tr => Fin.ofNat 128 (16 * tr + sl)) ∧
    ((List.range o.total).map fun i => circuitAt (o.trunkOfStep i) (o.slotOfStep i)).Nodup ∧
    o.total =
      (if o.trunkFirst ≤ o.trunkLast then o.trunkLast.val + 1 - o.trunkFirst.val
        else o.trunkLast.val + 9 - o.trunkFirst.val) *
      (if o.slotFirst ≤ o.slotLast then o.slotLast.val + 1 - o.slotFirst.val
        else o.slotLast.val + 17 - o.slotFirst.val) ∧
    1 ≤ o.total ∧ o.total ≤ 128

/-- BULK_STEP: the next entry of the rectangle is written with the template, with all that a write of the
entry does (RouteWriteByState), when the tier test with the originator's tier passes, and left as it is
otherwise; the cursor and the counts follow, and one of the steps due is taken (log 23); the step that brings
the counts to the total ends the walk with BULK DONE. -/
def Obligations.BulkStepTreatsEntry : Prop :=
  ∀ (s : State) (o : WalkOrder) (tr : Trunk) (sl : StationSlot) (c : Circuit) (passed : Bool)
    (w : Nat) (k : Nat) (u : State),
    s.walker.state = .walking → s.walker.order = some o → 0 < s.walker.stepsDue →
    tr = o.trunkOfStep (s.walker.written + s.walker.skipped) →
    sl = o.slotOfStep (s.walker.written + s.walker.skipped) → c = circuitAt tr sl →
    passed = (decide (o.originatorTier ≤ (s.route c).fields.tier) &&
      decide (o.originatorTier ≤ o.template.tier)) →
    w = s.walker.written + (if passed then 1 else 0) →
    k = s.walker.skipped + (if passed then 0 else 1) →
    u = (if passed then
        s.writeEntry c o.template.service (o.template.fields (s.route c).fields.offset sl)
      else s) →
    ∃ t, exec .bulkStep s = .next t ∧
      t = { u with
            walker := t.walker
            handed :=
              { u.handed with
                occurrences :=
                  u.handed.occurrences ++
                    if w + k = s.walker.total then [.bulkDone true w k] else [] } } ∧
      t.walker =
        { s.walker with
          cursor := some (tr, sl), written := w, skipped := k
          state := if w + k = s.walker.total then .idle else .walking
          stepsDue := if w + k = s.walker.total then 0 else s.walker.stepsDue - 1 } ∧
      t.ports = s.ports ∧ t.descs = s.descs ∧ t.ctl = s.ctl ∧ t.hosts = s.hosts ∧
      (passed = true →
        (t.route c).fields =
          { head := o.template.head, tier := o.template.tier, cls := o.template.cls
            discipline := o.template.discipline
            offset :=
              match o.template.mode with
              | .keep => (s.route c).fields.offset
              | .value v => v
              | .stationSlot => ⟨sl.val, by omega⟩ }) ∧
      (passed = false → t.routes = s.routes ∧ t.occ = s.occ ∧ t.used = s.used ∧
        t.sweep = s.sweep)

/-- BULK_ROUTE and BULK_ABORT: RANGE for a body that is no encoding of the operands, with a value v above 29
whatever the mode, or without a head IN SERVICE; a walk starts when the walker is IDLE, recording order and
originator, and is BUSY otherwise; an abort by a host trusted as much as the originator ends the walk with
BULK DONE aborted, and is refused with STATE when no walk is in progress and with DENIED to a less trusted
host. The attention bit of the answer does not see the BULK DONE that the same request raises, which is the
model's reading (log 19). -/
def Obligations.BulkWalkStartsAndAborts : Prop :=
  (∀ (s : State) (p : Port) (lost : Bool) (args : List Octet),
    s.engine.held = some ⟨p, 0x30 :: args, lost⟩ →
    (∀ b : BulkOrder, args = b.octets →
      headAllowed b.template.service b.template.head = false ∨ ¬b.template.ValueFits) →
    exec (.bulkRoute .run) s = .next (s.answered p lost 0x30 .range [])) ∧
  (∀ (s : State) (p : Port) (lost : Bool) (b : BulkOrder),
    s.engine.held = some ⟨p, 0x30 :: b.octets, lost⟩ →
    headAllowed b.template.service b.template.head = true → b.template.ValueFits →
    (s.walker.state = .walking →
      exec (.bulkRoute .run) s = .next (s.answered p lost 0x30 .busy [])) ∧
    (s.walker.state = .idle →
      ∃ o : WalkOrder,
        o = { trunkFirst := b.trunkFirst, trunkLast := b.trunkLast, slotFirst := b.slotFirst
              slotLast := b.slotLast, template := b.template, originator := s.hostOf p
              originatorTier := s.tierOf (s.hostOf p) } ∧
        exec (.bulkRoute .run) s =
          .next (({ s with
            walker := { state := .walking, order := some o, total := o.total, cursor := none
                        written := 0, skipped := 0, stepsDue := 0 } } : State).answered
              p lost 0x30 .done (one o.total)))) ∧
  (∀ (s : State) (p : Port) (lost : Bool),
    s.engine.held = some ⟨p, [0x31], lost⟩ →
    (s.walker.state = .idle →
      exec (.bulkAbort .run) s = .next (s.answered p lost 0x31 .state [])) ∧
    (∀ o, s.walker.state = .walking → s.walker.order = some o →
      (o.originatorTier < s.tierOf (s.hostOf p) →
        exec (.bulkAbort .run) s = .next (s.answered p lost 0x31 .denied [])) ∧
      (s.tierOf (s.hostOf p) ≤ o.originatorTier →
        exec (.bulkAbort .run) s =
          .next (({ s with
            walker := { s.walker with state := .idle, stepsDue := 0 }
            handed :=
              { s.handed with
                occurrences := s.handed.occurrences ++
                  [.bulkDone false s.walker.written s.walker.skipped] } } : State).answered
              p lost 0x31 .done
              (one s.walker.written ++ one s.walker.skipped ++ s.walker.cursorOctets)))))

/-- REVIEW_RANGE: RANGE for a body of another length or a circuit above 127. Else, to a host of any tier: of
the circuits of the range, which wraps, those of a tier no less than the requester's that are ROUTED join the
queue and those that are STRANDED return to it as DISPLACED; the others are left and counted as skipped. No
slot is held or released and no occurrence is raised. -/
def Obligations.ReviewRangeQueues : Prop :=
  (∀ (s : State) (p : Port) (lost : Bool) (args : List Octet),
    s.engine.held = some ⟨p, 0x32 :: args, lost⟩ →
    (∀ first last : Circuit, args ≠ one first.val ++ one last.val) →
    exec (.reviewRange .run) s = .next (s.answered p lost 0x32 .range [])) ∧
  ∀ (s : State) (p : Port) (lost : Bool) (first last : Circuit) (tier : Tier)
    (picked : Circuit → Bool),
    SweepLaws s → s.engine.held = some ⟨p, [0x32] ++ one first.val ++ one last.val, lost⟩ →
    tier = s.tierOf (s.hostOf p) →
    (∀ c, picked c = true ↔
      (first ≤ last ∧ first ≤ c ∧ c ≤ last ∨ last < first ∧ (first ≤ c ∨ c ≤ last)) ∧
      tier ≤ (s.route c).fields.tier ∧
      ((s.route c).standing = .stranded ∨ ∃ cur, (s.route c).standing = .routed cur)) →
    ∃ u t : State, exec (.reviewRange .run) s = .next t ∧
      t = u.answered p lost 0x32 .done
        (one (allCircuits.filter picked).length ++
          one ((if first ≤ last then last.val + 1 - first.val else last.val + 129 - first.val) -
            (allCircuits.filter picked).length)) ∧
      u = { s with routes := u.routes, sweep := u.sweep } ∧
      ∀ c : Circuit,
        (picked c = true →
          u.queued c = true ∧ u.strandedHas c = false ∧
          ((s.route c).standing = .stranded →
            u.route c = { s.route c with standing := .displaced }) ∧
          ((s.route c).standing ≠ .stranded → u.route c = s.route c)) ∧
        (picked c = false →
          u.route c = s.route c ∧ u.queued c = s.queued c ∧ u.strandedHas c = s.strandedHas c)

/-! ## Probing and loopback (chapter 5) -/

/-- The probe pattern from a register of ones: its first octets are 0x00, 0x60, 0x3C, and the register returns
after 2047 octets and not before. A register that has been seeded from two octets of the pattern predicts the
octets that follow them, from whatever register that is not all zeros the two octets were made. The seeded
register holds the last 11 of the 16 bits of the two octets, and ones when all 11 are zero. The differing bits
of two octets are the places in which they differ. -/
def Obligations.ProbePatternAndSeeding : Prop :=
  ((Stages.octet 0x7FF#11).1 = 0x00 ∧
  (Stages.octet (Stages.octet 0x7FF#11).2).1 = 0x60 ∧
  (Stages.octet (Stages.octet (Stages.octet 0x7FF#11).2).2).1 = 0x3C ∧
  (fun r => (Stages.octet r).2)^[2047] 0x7FF#11 = 0x7FF#11 ∧
  ∀ n : Nat, 0 < n → n < 2047 → (fun r => (Stages.octet r).2)^[n] 0x7FF#11 ≠ 0x7FF#11) ∧
  (∀ r : Stages, r ≠ 0 →
    seedRegister (Stages.octet r).1 (Stages.octet (Stages.octet r).2).1 =
      (Stages.octet (Stages.octet r).2).2) ∧
  (∀ a b : Octet,
    ((∃ i : Fin 11, (a ++ b).getLsbD i.val = true) →
      ∀ i : Fin 11, (seedRegister a b).getLsbD i.val = (a ++ b).getLsbD i.val) ∧
    ((∀ i : Fin 11, (a ++ b).getLsbD i.val = false) → seedRegister a b = 0x7FF#11)) ∧
  ∀ a b : Octet,
    differingBits a b = ((List.finRange 8).filter fun i => a.getLsbD i.val != b.getLsbD i.val).length

/-- The end of a probe, by PROBE_COMPLETE once the last octet has been returned, or by the end of the frame
period with or without one (log 20; that FRAME_PERIOD begins with the checker's octet is in QuietFramePeriod
and HuntingPeriodIsFae): the last octet is compared, the verdict is pass when the errors are within the limit,
and PROBE RESULT is raised first. A passed RECOVERY probe takes its port UP, a capacity event, and a failed
one takes it DOWN with Q 0 and H raised; a passed DEMAND probe changes no port record of its port; a failed
one raises H, and on an UP or SUSPECT port the score is compared with the thresholds, and on a looped port
nothing else changes. No line event counter rises. The checker is then IDLE, or has taken the next entry. -/
def Obligations.ProbeVerdict : Prop :=
  ∀ (s : State) (e : ProbeEntry) (n : Nat) (pass : Bool),
    s.checker.state = .counting e → s.checker.started = true →
    s.checker.compared + 1 = s.checker.length → ProbeLaws s →
    n = min 65535 (s.checker.errors +
      match s.returnedOctet e.port with
      | some o => differingBits (Stages.octet s.checker.check).1 o
      | none => 8) →
    pass = decide (n ≤ s.checker.limit) →
    ((s.returnedOctet e.port).isSome = true →
      ∃ t, exec .probeComplete s = .next t ∧ VerdictGiven s t e n pass) ∧
    VerdictGiven s s.stepChecker e n pass

/-- PROBE_PORT: RANGE for a body of another length or a port above 7, DENIED to tiers 2 and 3, STATE for a
port in DOWN or DISABLED; else DONE: a port in UP, SUSPECT or LOOPBACK without a standing joins the tail of
the queue as DEMAND, or is taken at once by an IDLE checker, and any other standing is only reported. -/
def Obligations.ProbePortRequest : Prop :=
  ∀ (s : State) (p : Port) (lost : Bool) (args : List Octet),
    s.engine.held = some ⟨p, 0x22 :: args, lost⟩ →
    ((∀ q : Port, args ≠ one q.val) →
      exec (.probePort .run) s = .next (s.answered p lost 0x22 .range [])) ∧
    ∀ q : Port, args = one q.val →
      (1 < s.tierOf (s.hostOf p) →
        exec (.probePort .run) s = .next (s.answered p lost 0x22 .denied [])) ∧
      (s.tierOf (s.hostOf p) ≤ 1 → (s.port q).state = .down ∨ (s.port q).state = .disabled →
        exec (.probePort .run) s = .next (s.answered p lost 0x22 .state [])) ∧
      (s.tierOf (s.hostOf p) ≤ 1 → (s.port q).state ≠ .down → (s.port q).state ≠ .disabled →
        (s.checker.runsOn q = true →
          exec (.probePort .run) s =
            .next (s.answered p lost 0x22 .done (one q.val ++ one 0))) ∧
        (∀ before e after, s.checker.runsOn q = false → s.checker.queue = before ++ e :: after →
          e.port = q → (∀ x ∈ before, x.port ≠ q) →
          exec (.probePort .run) s =
            .next (s.answered p lost 0x22 .done (one q.val ++ one (before.length + 1)))) ∧
        (s.checker.runsOn q = false → (∀ x ∈ s.checker.queue, x.port ≠ q) →
          (s.port q).state.takesDemand = true →
          (s.checker.state ≠ .idle →
            exec (.probePort .run) s =
              .next (({ s with
                checker :=
                  { s.checker with queue := s.checker.queue ++ [⟨q, .demand⟩] } } : State).answered
                p lost 0x22 .done (one q.val ++ one (s.checker.queue.length + 1)))) ∧
          (s.checker.state = .idle → s.checker.queue = [] →
            exec (.probePort .run) s =
              .next (({ s with
                checker :=
                  { state := .seeding ⟨q, .demand⟩, generator := 0x7FF#11, check := 0x7FF#11
                    seeds := [], compared := 0, errors := 0, length := s.param .probeLen
                    limit := s.param .probeMaxErr, queue := [], started := false
                    returned := none } } : State).answered
                p lost 0x22 .done (one q.val ++ one 0)))))

/-- INJECT: RANGE outside its operands, DENIED to tiers 1 to 3, STATE for a port that is not looped; else the
line event is taken the given number of times in succession and the port report answered. One line event that
INJECT feeds to a looped port: the score and the count as outside LOOPBACK, LOS onset to 4095 with the hold
set, LOS end clearing it; then the test verdict, at most once: DOWN with Q 0, or SUSPECT, with its
loopback-marked occurrence. No receiver, route or other port changes. The attention bit of the answer does not
see the loopback-marked occurrences that the same request raises, which is the model's reading (log 19). -/
def Obligations.InjectFeedsLoopedPort : Prop :=
  (∀ (s : State) (p : Port) (lost : Bool) (a k n : Octet),
    s.engine.held = some ⟨p, [0x23, a, k, n], lost⟩ →
    (7 < a.toNat ∨ 4 < k.toNat ∨ n = 0 →
      exec (.inject .run) s = .next (s.answered p lost 0x23 .range [])) ∧
    ∀ (q : Port) (e : LineEvent), [a] = one q.val → lineEventOf k = some e → n ≠ 0 →
      (s.tierOf (s.hostOf p) ≠ 0 →
        exec (.inject .run) s = .next (s.answered p lost 0x23 .denied [])) ∧
      (s.tierOf (s.hostOf p) = 0 → (s.port q).state.looped = false →
        exec (.inject .run) s = .next (s.answered p lost 0x23 .state [])) ∧
      (s.tierOf (s.hostOf p) = 0 → (s.port q).state.looped = true →
        ∀ u : State, u = (fun x => x.loopEvent q e)^[n.toNat] s →
        exec (.inject .run) s = .next (u.answered p lost 0x23 .done (u.portReport q)))) ∧
  (∀ (s : State) (q : Port) (ready : Bool) (v : Verdict) (e : LineEvent) (t : State),
    (s.port q).state = .loopback ready v → t = s.loopEvent q e →
    t = { s with ports := t.ports, handed := t.handed } ∧
    (∀ p : Port, p ≠ q → t.port p = s.port p) ∧
    (e = .fae → (t.port q).h = scored (s.port q).h (s.param .faeWeight) ∧
      (t.port q).counts.fae = min 65535 ((s.port q).counts.fae + 1)) ∧
    (e = .ccf → (t.port q).h = scored (s.port q).h (s.param .ccfWeight) ∧
      (t.port q).counts.ccf = min 65535 ((s.port q).counts.ccf + 1)) ∧
    (e = .ferd → (t.port q).h = scored (s.port q).h (s.param .ferdWeight) ∧
      (t.port q).counts.ferd = min 65535 ((s.port q).counts.ferd + 1)) ∧
    (e = .losOnset → (t.port q).h = 4095 ∧ (t.port q).losHold = true ∧
      (t.port q).counts.los = min 65535 ((s.port q).counts.los + 1)) ∧
    (e = .losEnd → t.port q = { s.port q with losHold := false } ∧ t.handed = s.handed) ∧
    (e ≠ .losEnd → v ≠ .down →
      e = .losOnset ∨ s.param .downAt ≤ (t.port q).h →
      (t.port q).state = .loopback ready .down ∧ (t.port q).q = 0 ∧
      t.handed =
        { s.handed with occurrences := s.handed.occurrences ++ [.pathDown q true] }) ∧
    (e ≠ .losEnd → e ≠ .losOnset → v = .up → (t.port q).h < s.param .downAt →
      s.param .suspectAt ≤ (t.port q).h →
      (t.port q).state = .loopback ready .suspect ∧
      t.handed =
        { s.handed with occurrences := s.handed.occurrences ++ [.pathSuspect q true] }) ∧
    (e ≠ .losEnd → e ≠ .losOnset → (t.port q).h < s.param .downAt →
      (t.port q).h < s.param .suspectAt ∨ v = .suspect →
      v ≠ .down → (t.port q).state = .loopback ready v ∧ t.handed = s.handed) ∧
    (v = .down → (t.port q).state = .loopback ready .down ∧ t.handed = s.handed))

/-! ## Attention (chapter 10) -/

/-- OCCURRENCE_RECORDED: an occurrence is recorded in the pending state of all four host records, whatever
their urgencies and masks, and nothing else changes: a set gains its member, a latest-and-count source takes
the detail and counts, BULK DONE takes the detail, SWEEP IDLE is flagged. -/
def Obligations.OccurrenceReachesEveryHost : Prop :=
  ∀ (s : State) (o : Occurrence), o ∈ s.handed.occurrences →
    ∃ t, exec (.occurrenceRecorded o) s = .next t ∧
      t = { s with
            hosts := t.hosts
            handed := { s.handed with occurrences := s.handed.occurrences.erase o } } ∧
      ∀ h : HostId,
        t.hostRecord h =
          match o with
          | .pathDown p m =>
            { s.hostRecord h with
              pathDown := (s.hostRecord h).pathDown.set (memberIndex p m) true }
          | .pathSuspect p m =>
            { s.hostRecord h with
              pathSuspect := (s.hostRecord h).pathSuspect.set (memberIndex p m) true }
          | .pathUp p m =>
            { s.hostRecord h with pathUp := (s.hostRecord h).pathUp.set (memberIndex p m) true }
          | .groupSuspect g =>
            { s.hostRecord h with groupSuspect := (s.hostRecord h).groupSuspect.set g true }
          | .chainFault c d k =>
            { s.hostRecord h with
              chainFault := ⟨some (c, d, k), min 255 ((s.hostRecord h).chainFault.count + 1)⟩ }
          | .forcedCutover c =>
            { s.hostRecord h with
              forcedCutover := ⟨some c, min 255 ((s.hostRecord h).forcedCutover.count + 1)⟩ }
          | .probeResult p n ok =>
            { s.hostRecord h with
              probeResult := ⟨some (p, n, ok), min 255 ((s.hostRecord h).probeResult.count + 1)⟩ }
          | .bulkDone x w k => { s.hostRecord h with bulkDone := some (x, w, k) }
          | .sweepIdle => { s.hostRecord h with sweepIdle := true }

/-- TAKE_EVENT: the latch while it is set, changing nothing; else the presentable source of highest urgency,
and of lowest number among equals, whose urgency becomes the mask and whose pending state is taken, with no
other host record touched; else NONE. A body of another length is refused with RANGE. For each of the eleven
sources: its number, when it is pending or true, its detail octets, and what a take does to it: a set loses
its first member, a latest-and-count source its detail and count, BULK DONE and SWEEP IDLE their flags, a
condition nothing. The exchange-lost condition is that no port is UP or SUSPECT. -/
def Obligations.TakeEventAnswers : Prop :=
  (∀ (s : State) (h : HostId), SourceNumbers s h ∧ RaisedRule s h ∧ DetailRule s h) ∧
  (∀ r : HostRecord, TakenRule r) ∧
  (∀ s : State, s.exchangeLost = true ↔
    ∀ q : Port, (s.port q).state ≠ .up ∧ (s.port q).state ≠ .suspect) ∧
  ∀ (s : State) (p : Port) (lost : Bool) (args : List Octet) (h : HostId),
    h = s.hostOf p → s.engine.held = some ⟨p, 0x40 :: args, lost⟩ →
    (args ≠ [] → exec (.takeEvent .run) s = .next (s.answered p lost 0x40 .range [])) ∧
    (args = [] → (s.hostRecord h).latch = true →
      exec (.takeEvent .run) s =
        .next (s.answered p lost 0x40 .done
          (one 0 ++ one 0 ++ one (s.hostRecord h).mask.val ++ yesNo s.exchangeLost))) ∧
    (args = [] → (s.hostRecord h).latch = false →
      (∀ x : Source, s.raised h x = true → s.urgency h x ≤ (s.hostRecord h).mask) →
      exec (.takeEvent .run) s =
        .next (s.answered p lost 0x40 .done
          (one 0xFF ++ one 0 ++ one (s.hostRecord h).mask.val))) ∧
    (∀ x : Source, args = [] → (s.hostRecord h).latch = false →
      s.raised h x = true → (s.hostRecord h).mask < s.urgency h x →
      (∀ y : Source, s.raised h y = true → (s.hostRecord h).mask < s.urgency h y → y ≠ x →
        s.urgency h y < s.urgency h x ∨
          s.urgency h y = s.urgency h x ∧ x.number < y.number) →
      exec (.takeEvent .run) s =
        .next (({ s with
          hosts := s.hosts.set h
            (({ s.hostRecord h with mask := s.urgency h x } : HostRecord).taken x) } : State).answered
          p lost 0x40 .done
          (one x.number ++ one (s.urgency h x).val ++ one (s.urgency h x).val ++
            s.detailOctets h x)))

/-- SET_MASK, SET_URGENCY and CLEAR_ALARM change the record of the requesting host alone: the mask, one
urgency (each value above 7 stored as 7), or the latch; a source of 0 or above 11 and a body of the wrong
length are refused with RANGE. -/
def Obligations.HostRecordRequests : Prop :=
  ∀ (s : State) (p : Port) (lost : Bool) (args : List Octet) (h : HostId), h = s.hostOf p →
    (s.engine.held = some ⟨p, 0x41 :: args, lost⟩ →
      (args.length ≠ 1 → exec (.setMask .run) s = .next (s.answered p lost 0x41 .range [])) ∧
      (∀ (v : Octet) (m : Urgency), args = [v] → m.val = min 7 v.toNat →
        exec (.setMask .run) s =
          .next (({ s with
            hosts := s.hosts.set h { s.hostRecord h with mask := m } } : State).answered
            p lost 0x41 .done (one m.val)))) ∧
    (s.engine.held = some ⟨p, 0x42 :: args, lost⟩ →
      (args.length ≠ 2 → exec (.setUrgency .run) s = .next (s.answered p lost 0x42 .range [])) ∧
      (∀ n v : Octet, args = [n, v] → n.toNat = 0 ∨ 11 < n.toNat →
        exec (.setUrgency .run) s = .next (s.answered p lost 0x42 .range [])) ∧
      (∀ (n : Fin 11) (v : Octet) (u : Urgency), args = one (n.val + 1) ++ [v] →
        u.val = min 7 v.toNat →
        exec (.setUrgency .run) s =
          .next (({ s with
            hosts := s.hosts.set h
              { s.hostRecord h with urgency := (s.hostRecord h).urgency.set n u } } :
                State).answered
            p lost 0x42 .done (one (n.val + 1) ++ one u.val)))) ∧
    (s.engine.held = some ⟨p, 0x43 :: args, lost⟩ →
      (args ≠ [] → exec (.clearAlarm .run) s = .next (s.answered p lost 0x43 .range [])) ∧
      (args = [] →
        exec (.clearAlarm .run) s =
          .next (({ s with
            hosts := s.hosts.set h { s.hostRecord h with latch := false } } : State).answered
            p lost 0x43 .done
            (yesNo (allPorts.all fun q => !s.inService q)))))

/-! ## Reads -/

/-- READ_TRUNK answers a trunk's receiver state and whether it is in alarm, which it is while the receiver is
not ALIGNED, to a host of any tier; it changes nothing, and refuses any other body with RANGE. READ_GROUP
answers a group's state, the hold timer's remaining milliseconds (0 when it is stopped) and the member ports
by the straps, to a host of any tier; it changes nothing, and refuses any other body with RANGE. -/
def Obligations.ReadTrunkAndReadGroup : Prop :=
  (∀ (s : State) (p : Port) (lost : Bool) (args : List Octet),
    s.engine.held = some ⟨p, 0x25 :: args, lost⟩ →
    ((∀ k : Trunk, args ≠ one k.val) →
      exec (.readTrunk .run) s = .next (s.answered p lost 0x25 .range [])) ∧
    ∀ k : Trunk, args = one k.val →
      exec (.readTrunk .run) s =
        .next (s.answered p lost 0x25 .done
          (one k.val ++
            (match (s.trunk k).state with
              | .noSignal => one 0
              | .hunting => one 1
              | .aligned => one 2) ++
            yesNo (decide ((s.trunk k).state ≠ .aligned))))) ∧
  (∀ (s : State) (p : Port) (lost : Bool) (args : List Octet),
    s.engine.held = some ⟨p, 0x24 :: args, lost⟩ →
    ((∀ g : Group, args ≠ one g.val) →
      exec (.readGroup .run) s = .next (s.answered p lost 0x24 .range [])) ∧
    ∀ g : Group, args = one g.val →
      ∃ members : Octet, (∀ q : Port, members.getLsbD q.val = decide (s.straps.group[q] = g)) ∧
        exec (.readGroup .run) s =
          .next (s.answered p lost 0x24 .done
            (one g.val ++
              (match (s.group g).state with
                | .clear => one 0
                | .suspect => one 1) ++
              (match (s.group g).hold with
                | none => two 0
                | some n => two n) ++
              [members])))

/-- READ_PARAMETERS answers the first identifier and the stored values from it on, three octets each, up to 12
of them or up to identifier 21, to a host of any tier; it changes nothing, and refuses any other body with
RANGE. -/
def Obligations.ReadParametersReports : Prop :=
  ∀ (s : State) (p : Port) (lost : Bool) (args : List Octet),
    s.engine.held = some ⟨p, 0x50 :: args, lost⟩ →
    ((∀ i : Fin 22, args ≠ one i.val) →
      exec (.readParameters .run) s = .next (s.answered p lost 0x50 .range [])) ∧
    ∀ i : Fin 22, args = one i.val →
      ∃ values : List Octet,
        exec (.readParameters .run) s =
          .next (s.answered p lost 0x50 .done (one i.val ++ values)) ∧
        values.length = 3 * min 12 (22 - i.val) ∧
        ∀ (k : Nat) (j : Fin 22), j.val = i.val + k → k < 12 →
          (values.drop (3 * k)).take 3 = three s.params[j]

/-- READ_ROUTE, READ_DESCRIPTOR, READ_PORT and READ_SWEEP answer the reports of chapter 11 to a host of any
tier and change nothing; a number out of range is refused with RANGE. -/
def Obligations.ReadsReportAndChangeNothing : Prop :=
  ∀ (s : State) (p : Port) (lost : Bool),
    (∀ c : Circuit, s.engine.held = some ⟨p, [0x10] ++ one c.val, lost⟩ →
      exec (.readRoute .run) s = .next (s.answered p lost 0x10 .done (s.routeReport c))) ∧
    (∀ o : Octet, 127 < o.toNat → s.engine.held = some ⟨p, [0x10, o], lost⟩ →
      exec (.readRoute .run) s = .next (s.answered p lost 0x10 .range [])) ∧
    (∀ d : Desc, s.engine.held = some ⟨p, [0x14] ++ two d.val, lost⟩ →
      exec (.readDescriptor .run) s = .next (s.answered p lost 0x14 .done (s.descReport d))) ∧
    (∀ a b : Octet, a ≠ 0 → s.engine.held = some ⟨p, [0x14, a, b], lost⟩ →
      exec (.readDescriptor .run) s = .next (s.answered p lost 0x14 .range [])) ∧
    (∀ q : Port, s.engine.held = some ⟨p, [0x20] ++ one q.val, lost⟩ →
      exec (.readPort .run) s = .next (s.answered p lost 0x20 .done (s.portReport q))) ∧
    (∀ o : Octet, 7 < o.toNat → s.engine.held = some ⟨p, [0x20, o], lost⟩ →
      exec (.readPort .run) s = .next (s.answered p lost 0x20 .range [])) ∧
    (s.engine.held = some ⟨p, [0x33], lost⟩ →
      exec (.readSweep .run) s = .next (s.answered p lost 0x33 .done s.sweepReport))

/-! ## Writes of routes and descriptors (chapters 1 and 2) -/

/-- The bodies that WRITE ROUTE accepts are exactly the encodings of its operands, with a head when the
service is IN SERVICE; every operand at every value reads back. The bodies that WRITE DESCRIPTOR accepts are
exactly the encodings of its operands, 11 octets for a PATH and 9 for a DIVERT, with any octet for the n or
base of a POOL; every operand at every value reads back. -/
def Obligations.RequestBodiesReadBack : Prop :=
  (∀ (k : Octet) (args : List Octet) (w : RouteWrite),
    routeWriteOf (k :: args) = some w ↔
      args = w.octets ∧ (w.service = .inService → w.fields.head ≠ none)) ∧
  (∀ (k : Octet) (args : List Octet) (w : DescWrite),
    descWriteOf (k :: args) = some w ↔ ∃ any : Octet, args = w.octets any)

/-- WRITE_ROUTE: RANGE for a body that is no encoding; DENIED when the requester's tier is greater than the
entry's present tier or the new tier is less than the requester's; else the write is applied and the entry as
it then stands is answered. The attention bit of the answer does not see the SWEEP IDLE that the same request
raises, which is the model's reading (log 19). -/
def Obligations.WriteRouteRequest : Prop :=
  ∀ (s : State) (p : Port) (lost : Bool) (args : List Octet),
    s.engine.held = some ⟨p, 0x11 :: args, lost⟩ →
    ((∀ w : RouteWrite, args = w.octets → w.service = .inService ∧ w.fields.head = none) →
      exec (.writeRoute .run) s = .next (s.answered p lost 0x11 .range [])) ∧
    ∀ w : RouteWrite, args = w.octets → (w.service = .inService → w.fields.head ≠ none) →
      ((s.route w.circuit).fields.tier < s.tierOf (s.hostOf p) ∨
          w.fields.tier < s.tierOf (s.hostOf p) →
        exec (.writeRoute .run) s = .next (s.answered p lost 0x11 .denied [])) ∧
      (s.tierOf (s.hostOf p) ≤ (s.route w.circuit).fields.tier →
        s.tierOf (s.hostOf p) ≤ w.fields.tier →
        ∀ u : State, u = s.writeEntry w.circuit w.service w.fields →
        exec (.writeRoute .run) s =
          .next (u.answered p lost 0x11 .done (u.routeReport w.circuit)))

/-- The tier test of a write of a route entry is passed when the requester's tier is no greater than the
entry's present tier and the new tier is no less than the requester's: a WRITE ROUTE that fails it is DENIED,
and one that passes it writes the fields; a step of a bulk walk applies the same test with the originator's
tier, and leaves the entry as it is when it fails. -/
def Obligations.TierTestOfRouteWrites : Prop :=
  (∀ (s : State) (p : Port) (lost : Bool) (w : RouteWrite),
    s.engine.held = some ⟨p, 0x11 :: w.octets, lost⟩ →
    (w.service = .inService → w.fields.head ≠ none) →
    ((s.tierOf (s.hostOf p) ≤ (s.route w.circuit).fields.tier ∧
        s.tierOf (s.hostOf p) ≤ w.fields.tier) →
      ∃ t, exec (.writeRoute .run) s = .next t ∧ (t.route w.circuit).fields = w.fields) ∧
    (¬(s.tierOf (s.hostOf p) ≤ (s.route w.circuit).fields.tier ∧
        s.tierOf (s.hostOf p) ≤ w.fields.tier) →
      exec (.writeRoute .run) s = .next (s.answered p lost 0x11 .denied []))) ∧
  (∀ (s : State) (o : WalkOrder) (c : Circuit),
    s.walker.state = .walking → s.walker.order = some o → 0 < s.walker.stepsDue →
    c = circuitAt (o.trunkOfStep (s.walker.written + s.walker.skipped))
      (o.slotOfStep (s.walker.written + s.walker.skipped)) →
    ((o.originatorTier ≤ (s.route c).fields.tier ∧ o.originatorTier ≤ o.template.tier) →
      ∃ t, exec .bulkStep s = .next t ∧ (t.route c).fields.tier = o.template.tier ∧
        (t.route c).fields.head = o.template.head) ∧
    (¬(o.originatorTier ≤ (s.route c).fields.tier ∧ o.originatorTier ≤ o.template.tier) →
      ∃ t, exec .bulkStep s = .next t ∧ t.routes = s.routes))

/-- A write IN SERVICE of one entry, by its state: IDLE, BARRED and STRANDED become DISPLACED, placed cleared
from IDLE and BARRED; DISPLACED keeps its place; ROUTED joins for review; STAGED has its move cancelled, its
staged slot released as a capacity event when that port is in service, and joins for review. The fields are
written and moves is kept. A write BARRED or IDLE of one entry, from any state: every slot it holds is
released, it leaves the queue and the stranded set, the fields are written, and IDLE clears moves; a released
slot on a port in service makes it one capacity event, which does not reach the circuit written; SWEEP IDLE
is raised exactly when the write leaves the queue of a RUNNING engine empty. -/
def Obligations.RouteWriteByState : Prop :=
  (∀ (s : State) (c : Circuit) (f : RouteFields) (t : State), SweepLaws s →
    t = s.writeEntry c .inService f →
    t = { s with routes := t.routes, occ := t.occ, used := t.used, sweep := t.sweep } ∧
    t.queued c = true ∧ t.sweep.state = .running ∧ t.strandedHas c = false ∧
    ((s.route c).standing = .idle ∨ (s.route c).standing = .barred →
      t.route c = { s.route c with fields := f, standing := .displaced, placed := false }) ∧
    ((s.route c).standing = .stranded ∨ (s.route c).standing = .displaced →
      t.route c = { s.route c with fields := f, standing := .displaced }) ∧
    (∀ cur, (s.route c).standing = .routed cur → t.route c = { s.route c with fields := f }) ∧
    (∀ cur m, (s.route c).standing = .staged cur m →
      t.route c = { s.route c with fields := f, standing := .routed cur } ∧
      t.holder m.path = none ∧ (∀ q, q ≠ m.path → t.holder q = s.holder q) ∧
      (∀ p : Port, t.usedCount p = s.usedCount p - if p = m.path.port then 1 else 0) ∧
      (s.inService m.path.port = true → CapacityEvent s t)) ∧
    ((∀ cur m, (s.route c).standing ≠ .staged cur m) →
      t.occ = s.occ ∧ t.used = s.used ∧
      ∀ d : Circuit, d ≠ c → t.route d = s.route d ∧ t.queued d = s.queued d ∧
        t.strandedHas d = s.strandedHas d)) ∧
  (∀ (s : State) (c : Circuit) (v : Service) (f : RouteFields) (t : State), SweepLaws s →
    v ≠ .inService → t = s.writeEntry c v f →
    t = { s with routes := t.routes, occ := t.occ, used := t.used, sweep := t.sweep
                 handed := t.handed } ∧
    t.route c =
      { s.route c with
        fields := f
        standing := if v = .idle then .idle else .barred
        moves := if v = .idle then 0 else (s.route c).moves } ∧
    t.queued c = false ∧ t.strandedHas c = false ∧ SweepSettled s t [] ∧
    (∀ q, q ∈ (s.route c).standing.slots → t.holder q = none) ∧
    (∀ q, q ∉ (s.route c).standing.slots → t.holder q = s.holder q) ∧
    ((∃ q ∈ (s.route c).standing.slots, s.inService q.port = true) →
      ∀ d : Circuit, d ≠ c → s.strandedHas d = true →
        t.route d = { s.route d with standing := .displaced } ∧ t.queued d = true ∧
        t.strandedHas d = false) ∧
    ((∀ q ∈ (s.route c).standing.slots, s.inService q.port = false) →
      ∀ d : Circuit, d ≠ c → t.route d = s.route d ∧ t.queued d = s.queued d ∧
        t.strandedHas d = s.strandedHas d))

/-- WRITE_DESCRIPTOR: RANGE for a body that is no encoding, DENIED by the tier test; else the descriptor is
replaced whole, and the write is a capacity event: every STRANDED circuit becomes DISPLACED and joins the
queue. No other circuit changes, and the descriptor is answered as it stands after the write. -/
def Obligations.WriteDescriptorRequest : Prop :=
  ∀ (s : State) (p : Port) (lost : Bool) (args : List Octet), SweepLaws s →
    s.engine.held = some ⟨p, 0x15 :: args, lost⟩ →
    ((∀ (w : DescWrite) (any : Octet), args ≠ w.octets any) →
      exec (.writeDescriptor .run) s = .next (s.answered p lost 0x15 .range [])) ∧
    ∀ (w : DescWrite) (any : Octet), args = w.octets any →
      ((s.desc w.desc).tier < s.tierOf (s.hostOf p) ∨ w.record.tier < s.tierOf (s.hostOf p) →
        exec (.writeDescriptor .run) s = .next (s.answered p lost 0x15 .denied [])) ∧
      (s.tierOf (s.hostOf p) ≤ (s.desc w.desc).tier → s.tierOf (s.hostOf p) ≤ w.record.tier →
        ∃ u : State,
          exec (.writeDescriptor .run) s =
            .next (u.answered p lost 0x15 .done (u.descReport w.desc)) ∧
          u = { s with descs := s.descs.set w.desc w.record, routes := u.routes, sweep := u.sweep } ∧
          CapacityEvent s u ∧
          ∀ c : Circuit, s.strandedHas c = false →
            u.route c = s.route c ∧ u.queued c = s.queued c)

/-! ## SET PORT (section 4.7) -/

/-- Every SET PORT, by its action: RANGE for a body that the action does not have; DENIED to a host of tier 2
or 3 and to one of tier 1 for a port of another host; STATE for ENABLE outside DISABLED, DISABLE and LOOPBACK
ON in DISABLED, and LOOPBACK OFF outside LOOPBACK. Each refusal changes nothing else. SET PORT from a host
that may set the port, in a state that does not allow its action: STATE. -/
def Obligations.SetPortRefused : Prop :=
  (∀ (s : State) (p : Port) (lost : Bool) (args : List Octet) (straps : Straps),
    s.engine.held = some ⟨p, 0x21 :: args, lost⟩ →
    ((∀ q : Port, args ≠ one q.val ++ [0] ∧ args ≠ one q.val ++ [1] ∧
        args ≠ one q.val ++ [2, 0] ∧ args ≠ one q.val ++ [2, 1] ∧ args ≠ one q.val ++ [3] ∧
        (∀ n : Octet, args ≠ one q.val ++ [4, n]) ∧ args ≠ one q.val ++ [5]) →
      exec (rowFor (0x21 :: args) .run straps) s = .next (s.answered p lost 0x21 .range [])) ∧
    ∀ q : Port,
      (1 < s.tierOf (s.hostOf p) ∨ (s.tierOf (s.hostOf p) = 1 ∧ s.hostOf q ≠ s.hostOf p)) →
      (args = one q.val ++ [0] ∨ args = one q.val ++ [1] ∨ args = one q.val ++ [2, 0] ∨
        args = one q.val ++ [2, 1] ∨ args = one q.val ++ [3] ∨
        (∃ n, args = one q.val ++ [4, n]) ∨ args = one q.val ++ [5] →
        exec (rowFor (0x21 :: args) .run straps) s = .next (s.answered p lost 0x21 .denied []))) ∧
  (∀ (s : State) (p q : Port) (lost : Bool) (args : List Octet),
    s.engine.held = some ⟨p, 0x21 :: args, lost⟩ →
    (s.tierOf (s.hostOf p) = 0 ∨ (s.tierOf (s.hostOf p) = 1 ∧ s.hostOf q = s.hostOf p)) →
    (args = one q.val ++ [0] → (s.port q).state ≠ .disabled →
      exec (.setPortEnable .run) s = .next (s.answered p lost 0x21 .state [])) ∧
    (args = one q.val ++ [1] → (s.port q).state = .disabled →
      exec (.setPortDisable .run) s = .next (s.answered p lost 0x21 .state [])) ∧
    (args = one q.val ++ [2, 0] ∨ args = one q.val ++ [2, 1] → (s.port q).state = .disabled →
      exec (.setPortLoopbackOn .run) s = .next (s.answered p lost 0x21 .state [])) ∧
    (args = one q.val ++ [3] → (s.port q).state.looped = false →
      exec (.setPortLoopbackOff .run) s = .next (s.answered p lost 0x21 .state [])))

/-- SET_PORT_ENABLE, SET_PORT_CEILING and SET_PORT_CLEAR_COUNTS of a permitted host: DOWN with Q 0 from
DISABLED and H kept; the ceiling stored, clamped to 1 to 30, a raised one being a capacity event; all six
counts 0. Each is answered with the port report as it then stands. -/
def Obligations.SetPortSimpleActions : Prop :=
  ∀ (s : State) (p q : Port) (lost : Bool) (args : List Octet), SweepLaws s →
    s.engine.held = some ⟨p, 0x21 :: args, lost⟩ →
    (s.tierOf (s.hostOf p) = 0 ∨ (s.tierOf (s.hostOf p) = 1 ∧ s.hostOf q = s.hostOf p)) →
    (args = one q.val ++ [0] → (s.port q).state = .disabled →
      ∀ u : State,
        u = { s with ports := s.ports.set q { s.port q with state := .down, q := 0 } } →
        exec (.setPortEnable .run) s = .next (u.answered p lost 0x21 .done (u.portReport q))) ∧
    (∀ n : Octet, args = one q.val ++ [4, n] →
      ∃ u : State,
        exec (.setPortCeiling .run) s = .next (u.answered p lost 0x21 .done (u.portReport q)) ∧
        u = { s with
              ports := s.ports.set q { s.port q with ceiling := max 1 (min 30 n.toNat) }
              routes := u.routes, sweep := u.sweep } ∧
        ((s.port q).ceiling < max 1 (min 30 n.toNat) → CapacityEvent s u) ∧
        (max 1 (min 30 n.toNat) ≤ (s.port q).ceiling → u.routes = s.routes ∧ u.sweep = s.sweep)) ∧
    (args = one q.val ++ [5] →
      ∀ u : State,
        u = { s with
              ports := s.ports.set q
                { s.port q with
                  counts := { fae := 0, ccf := 0, ferd := 0, los := 0, down := 0
                              overrun := 0 } } } →
        exec (.setPortClearCounts .run) s =
          .next (u.answered p lost 0x21 .done (u.portReport q)))

/-- SET_PORT_DISABLE of a permitted host: the port enters DISABLED with H and Q kept. From UP or SUSPECT its
circuits are displaced and PATH DOWN is raised, with no DOWN entry and no count; from LOOPBACK the receiver
returns to the line and the LOS hold is cleared. SET_PORT_LOOPBACK_ON and SET_PORT_LOOPBACK_OFF of a permitted
host. On: the test begins with H 0, Q 0, the LOS hold clear and the verdict UP; the receiver is ALIGNED on the
loop with far-end ready as set; the port stops serving. Off: DOWN with Q 0, H kept, the LOS hold clear, the
receiver back on its line, and no DOWN entry. Records that have ended on the port are taken before its serving
ends (log 34). The attention bit of the answer does not see the PATH DOWN that the same request raises, which
is the model's reading (log 19). -/
def Obligations.SetPortDisableAndLoopback : Prop :=
  (∀ (s : State) (p q : Port) (lost : Bool), ProbeLaws s →
    s.engine.held = some ⟨p, 0x21 :: (one q.val ++ [1]), lost⟩ →
    (s.tierOf (s.hostOf p) = 0 ∨ (s.tierOf (s.hostOf p) = 1 ∧ s.hostOf q = s.hostOf p)) →
    (s.port q).state ≠ .disabled →
    ∃ u : State,
      exec (.setPortDisable .run) s = .next (u.answered p lost 0x21 .done (u.portReport q)) ∧
      (u.port q).state = .disabled ∧ (u.port q).h = (s.port q).h ∧ (u.port q).q = (s.port q).q ∧
      (u.port q).counts = (s.port q).counts ∧
      u.handed.downEntries = s.handed.downEntries ∧
      (∀ x ∈ probeEntries u.checker, x.port ≠ q) ∧
      (s.inService q = true →
        Occurrence.pathDown q false ∈ u.handed.occurrences ∧ u.usedCount q = 0 ∧
        (∀ n : Slot, u.holder ⟨q, n⟩ = none) ∧ (u.port q).failBack = none ∧
        ∀ (c : Circuit) (cur : CurrentSet), (s.route c).standing = .routed cur →
          cur.path.port = q →
          u.route c = { s.route c with standing := .displaced } ∧ u.queued c = true) ∧
      (s.inService q = false → u.routes = s.routes ∧ u.occ = s.occ ∧ u.handed = s.handed) ∧
      ((s.port q).state.looped = true →
        (u.port q).losHold = false ∧ (u.pathRx q).farEndReady = false ∧
        (u.pathRx q).formRun = 0 ∧ (u.pathRx q).framer.badRun = 0 ∧
        startsBy (s.pathRx q).framer.measure (u.pathRx q).framer.state) ∧
      ((s.port q).state.looped = false → u.rx = s.rx)) ∧
  (∀ (s : State) (p q : Port) (lost : Bool) (args : List Octet), ProbeLaws s →
    s.engine.held = some ⟨p, 0x21 :: args, lost⟩ →
    (s.tierOf (s.hostOf p) = 0 ∨ (s.tierOf (s.hostOf p) = 1 ∧ s.hostOf q = s.hostOf p)) →
    (∀ ready : Bool, args = one q.val ++ [2, if ready then 0 else 1] →
      (s.port q).state ≠ .disabled →
      ∀ v : State, v = s.takeAllEnded q →
      ∃ u : State,
        exec (.setPortLoopbackOn .run) s =
          .next (u.answered p (lost || decide (p = q)) 0x21 .done (u.portReport q)) ∧
        (u.port q).state = .loopback ready .up ∧ (u.port q).h = 0 ∧ (u.port q).q = 0 ∧
        (u.port q).losHold = false ∧ (u.port q).counts = (v.port q).counts ∧
        (u.pathRx q).framer.state = .aligned ∧ (u.pathRx q).farEndReady = ready ∧
        (u.pathRx q).formRun = 0 ∧ u.serving q = false ∧
        (u.control q).requests = [] ∧ (u.control q).responses = [] ∧ (u.control q).rx = .hunt ∧
        (∀ x ∈ probeEntries u.checker, x.port ≠ q) ∧
        u.handed.downEntries = v.handed.downEntries ∧
        (v.inService q = true → Occurrence.pathDown q false ∈ u.handed.occurrences ∧
          ∀ n : Slot, u.holder ⟨q, n⟩ = none) ∧
        (v.inService q = false → u.routes = v.routes ∧ u.handed = v.handed)) ∧
    (args = one q.val ++ [3] → (s.port q).state.looped = true →
      ∃ u : State,
        exec (.setPortLoopbackOff .run) s =
          .next (u.answered p lost 0x21 .done (u.portReport q)) ∧
        u.port q = { s.port q with state := .down, q := 0, losHold := false } ∧
        (u.pathRx q).farEndReady = false ∧ (u.pathRx q).formRun = 0 ∧
        startsBy (s.pathRx q).framer.measure (u.pathRx q).framer.state ∧
        (∀ x ∈ probeEntries u.checker, x.port ≠ q) ∧
        u.routes = s.routes ∧ u.handed = s.handed))

/-! ## Parameters and the other refusals (chapters 11 and 12) -/

/-- WRITE_PARAMETER: RANGE for an identifier above 21, DENIED to tiers 1 to 3; else the value is stored:
clamped to the parameter's range, the decay interval as the nearest allowed value with ties upward, and a
threshold through the three steps; the answer carries the stored value. No other parameter but the thresholds
of the three steps changes, and nothing else of the card. -/
def Obligations.WriteParameterStores : Prop :=
  ∀ (s : State) (p : Port) (lost : Bool) (i a b c : Octet) (v : Nat),
    s.engine.held = some ⟨p, [0x51, i, a, b, c], lost⟩ →
    v = 65536 * a.toNat + 256 * b.toNat + c.toNat →
    (21 < i.toNat → exec (.writeParameter .run) s = .next (s.answered p lost 0x51 .range [])) ∧
    (∀ x : Param, i.toNat = x.id.val → s.tierOf (s.hostOf p) ≠ 0 →
      exec (.writeParameter .run) s = .next (s.answered p lost 0x51 .denied [])) ∧
    (∀ x : Param, i.toNat = x.id.val → s.tierOf (s.hostOf p) = 0 →
      ∃ u : State,
        exec (.writeParameter .run) s =
          .next (u.answered p lost 0x51 .done (one x.id.val ++ three (u.param x))) ∧
        u = { s with params := u.params } ∧
        (x ≠ .suspectAt → x ≠ .downAt → x ≠ .recoverBelow →
          (∀ y, y ≠ x → u.param y = s.param y) ∧
          (x ≠ .decayInterval → u.param x = max (paramLow x) (min (paramHigh x) v)) ∧
          (x = .decayInterval →
            u.param x = if v ≤ 11 then 8 else if v ≤ 23 then 16 else if v ≤ 47 then 32 else 64)) ∧
        (x = .suspectAt ∨ x = .downAt ∨ x = .recoverBelow →
          (∀ y, y ≠ .suspectAt → y ≠ .downAt → y ≠ .recoverBelow → u.param y = s.param y) ∧
          ∀ su dn rb : Nat,
            su = (if x = .suspectAt then min 4095 v else s.param .suspectAt) →
            dn = (if x = .downAt then min 4095 v else s.param .downAt) →
            rb = (if x = .recoverBelow then min 4095 v else s.param .recoverBelow) →
            u.param .downAt = dn ∧ u.param .suspectAt = min su dn ∧
            u.param .recoverBelow = if min su dn ≤ rb then min su dn - 1 else rb))

/-- UNKNOWN_KIND and every body of a wrong length: a kind code outside the table is refused with UNKNOWN, and
a body whose length is not its kind's with RANGE; both echo the code and change nothing else. -/
def Obligations.UnknownKindsAndWrongLengths : Prop :=
  ∀ (s : State) (p : Port) (lost : Bool) (k : Octet) (args : List Octet) (straps : Straps),
    s.engine.held = some ⟨p, k :: args, lost⟩ →
    (k ∉ ([0x10, 0x11, 0x14, 0x15, 0x20, 0x21, 0x22, 0x23, 0x24, 0x25, 0x30, 0x31, 0x32, 0x33, 0x40,
          0x41, 0x42, 0x43, 0x50, 0x51, 0x5F] : List Octet) →
      exec (.unknownKind .run) s = .next (s.answered p lost k .unknown [])) ∧
    (lengthAllowed k.toNat (args.length + 1) = false →
      exec (rowFor (k :: args) .run straps) s = .next (s.answered p lost k .range []))

/-! ## Laws that every step keeps -/

/-- A reset leaves every law below true, whatever the straps, the lines and the commands that wait: the laws
of the occupancy map, the sweep, the probes, the control slots, the station trunks, the parameters, the port
records, the groups, the walk record and the counts. -/
def Obligations.ResetMeetsLaws : Prop :=
  ∀ (straps : Straps) (lines : LineMeasures) (waiting : List Instr) (s : State),
    s = State.fresh straps lines waiting →
    SlotLaws s ∧ SweepLaws s ∧ ProbeLaws s ∧ ControlLaws s ∧ StationLaw s ∧ ParamLaws s ∧
    PortLaws s ∧ GroupLaws s ∧ WalkLaws s ∧ CountLaws s

/-- Every step keeps the occupancy map and the route table in agreement: each slot is held by the circuit
whose current or staged path it is, in that role; the used counts are the numbers of slots held; and every
held slot lies on a port in UP or SUSPECT. By the laws of the map, the used counts of all ports sum to the
number of ROUTED circuits plus twice the number of STAGED circuits, and none exceeds 30. -/
def Obligations.StepKeepsSlotLaws : Prop :=
  (∀ s s' : State, SweepLaws s → ProbeLaws s → SlotLaws s → step s = .next s' → SlotLaws s') ∧
  (∀ s : State, SlotLaws s →
    (allPorts.map s.usedCount).sum =
      (allCircuits.filter fun c => ((s.route c).standing.currentPath).isSome).length +
      (allCircuits.filter fun c => ((s.route c).standing.stagedPath).isSome).length ∧
    ∀ p : Port, s.usedCount p ≤ 30)

/-- Every step keeps the laws of the sweep: the queue holds every DISPLACED circuit and otherwise only ROUTED
ones, the stranded set holds exactly the STRANDED circuits, and the engine is RUNNING exactly while the queue
holds a circuit. -/
def Obligations.StepKeepsSweepLaws : Prop :=
  ∀ s s' : State, SweepLaws s → step s = .next s' → SweepLaws s'

/-- Every step keeps the laws of the probes: the queue and the checker together hold each port at most once,
AWAIT PROBE is exactly being queued as RECOVERY and PROBING exactly being served as RECOVERY, a DEMAND entry's
port is in UP, SUSPECT or LOOPBACK, and an IDLE checker leaves no entry waiting. -/
def Obligations.StepKeepsProbeLaws : Prop :=
  ∀ s s' : State, ProbeLaws s → step s = .next s' → ProbeLaws s'

/-- Every step keeps the laws of the control slots: no queue holds more than 2; a port that does not serve has
empty queues and its receiver in HUNT; a request held that keeps its response came from a serving port with
room; and while a reset is in hand the engine holds no request and the response waited for ends its queue. -/
def Obligations.StepKeepsControlLaws : Prop :=
  ∀ s s' : State, ControlLaws s → step s = .next s' → ControlLaws s'

/-- Every step keeps station-lost equal to the trunk's receiver being out of ALIGNED. -/
def Obligations.StepKeepsStationLaw : Prop :=
  ∀ s s' : State, StationLaw s → step s = .next s' → StationLaw s'

/-- Every step keeps each parameter in its range, the decay interval one of 8, 16, 32 and 64, and the
thresholds in order. Every step keeps the fields of the port records within their ranges, the fail-back timer
running only in UP, a hold timer only in a SUSPECT group, the counts of the walk record within its total, and
the staged timers, the moves counts, the checker's counts and the tallies of the host records within their
ranges. The receivers' runs, positions and candidates stay in theirs, and no form run stands outside ALIGNED,
which is the model's choice where R53 and R54 differ (log 14). -/
def Obligations.StepKeepsRangesAndThresholds : Prop :=
  (∀ s s' : State, ParamLaws s → step s = .next s' → ParamLaws s') ∧
  (∀ s s' : State, ParamLaws s → ProbeLaws s → PortLaws s → GroupLaws s → WalkLaws s →
    CountLaws s → step s = .next s' → PortLaws s' ∧ GroupLaws s' ∧ WalkLaws s' ∧ CountLaws s')
end

