-- ==== Sys2Proof/Laws/State.lean ====
section
/-! SUPPORT. One lemma per field per update of the card's state, each true by rfl. -/

namespace Sys2Proof.Machine.State

variable (s : State)

/-! ## setRoute -/

@[simp] theorem setRoute_routes (c : Circuit) (r : Route) :
    (s.setRoute c r).routes = s.routes.set c r := rfl
@[simp] theorem setRoute_occ (c : Circuit) (r : Route) : (s.setRoute c r).occ = s.occ := rfl
@[simp] theorem setRoute_used (c : Circuit) (r : Route) : (s.setRoute c r).used = s.used := rfl
@[simp] theorem setRoute_descs (c : Circuit) (r : Route) : (s.setRoute c r).descs = s.descs := rfl
@[simp] theorem setRoute_trunks (c : Circuit) (r : Route) : (s.setRoute c r).trunks = s.trunks := rfl
@[simp] theorem setRoute_rx (c : Circuit) (r : Route) : (s.setRoute c r).rx = s.rx := rfl
@[simp] theorem setRoute_ctl (c : Circuit) (r : Route) : (s.setRoute c r).ctl = s.ctl := rfl
@[simp] theorem setRoute_ports (c : Circuit) (r : Route) : (s.setRoute c r).ports = s.ports := rfl
@[simp] theorem setRoute_checker (c : Circuit) (r : Route) : (s.setRoute c r).checker = s.checker := rfl
@[simp] theorem setRoute_groups (c : Circuit) (r : Route) : (s.setRoute c r).groups = s.groups := rfl
@[simp] theorem setRoute_sweep (c : Circuit) (r : Route) : (s.setRoute c r).sweep = s.sweep := rfl
@[simp] theorem setRoute_walker (c : Circuit) (r : Route) : (s.setRoute c r).walker = s.walker := rfl
@[simp] theorem setRoute_hosts (c : Circuit) (r : Route) : (s.setRoute c r).hosts = s.hosts := rfl
@[simp] theorem setRoute_engine (c : Circuit) (r : Route) : (s.setRoute c r).engine = s.engine := rfl
@[simp] theorem setRoute_params (c : Circuit) (r : Route) : (s.setRoute c r).params = s.params := rfl
@[simp] theorem setRoute_straps (c : Circuit) (r : Route) : (s.setRoute c r).straps = s.straps := rfl
@[simp] theorem setRoute_time (c : Circuit) (r : Route) : (s.setRoute c r).time = s.time := rfl
@[simp] theorem setRoute_exch (c : Circuit) (r : Route) : (s.setRoute c r).exch = s.exch := rfl
@[simp] theorem setRoute_handed (c : Circuit) (r : Route) : (s.setRoute c r).handed = s.handed := rfl
@[simp] theorem setRoute_pending (c : Circuit) (r : Route) : (s.setRoute c r).pending = s.pending := rfl

/-! ## holdSlot -/

@[simp] theorem holdSlot_routes (q : PathSlot) (h : Holder) : (s.holdSlot q h).routes = s.routes := rfl
@[simp] theorem holdSlot_occ (q : PathSlot) (h : Holder) :
    (s.holdSlot q h).occ = s.occ.set q.index (some h) := rfl
@[simp] theorem holdSlot_used (q : PathSlot) (h : Holder) :
    (s.holdSlot q h).used = s.used.set q.port (s.used[q.port] + 1) := rfl
@[simp] theorem holdSlot_descs (q : PathSlot) (h : Holder) : (s.holdSlot q h).descs = s.descs := rfl
@[simp] theorem holdSlot_trunks (q : PathSlot) (h : Holder) : (s.holdSlot q h).trunks = s.trunks := rfl
@[simp] theorem holdSlot_rx (q : PathSlot) (h : Holder) : (s.holdSlot q h).rx = s.rx := rfl
@[simp] theorem holdSlot_ctl (q : PathSlot) (h : Holder) : (s.holdSlot q h).ctl = s.ctl := rfl
@[simp] theorem holdSlot_ports (q : PathSlot) (h : Holder) : (s.holdSlot q h).ports = s.ports := rfl
@[simp] theorem holdSlot_checker (q : PathSlot) (h : Holder) :
    (s.holdSlot q h).checker = s.checker := rfl
@[simp] theorem holdSlot_groups (q : PathSlot) (h : Holder) : (s.holdSlot q h).groups = s.groups := rfl
@[simp] theorem holdSlot_sweep (q : PathSlot) (h : Holder) : (s.holdSlot q h).sweep = s.sweep := rfl
@[simp] theorem holdSlot_walker (q : PathSlot) (h : Holder) : (s.holdSlot q h).walker = s.walker := rfl
@[simp] theorem holdSlot_hosts (q : PathSlot) (h : Holder) : (s.holdSlot q h).hosts = s.hosts := rfl
@[simp] theorem holdSlot_engine (q : PathSlot) (h : Holder) : (s.holdSlot q h).engine = s.engine := rfl
@[simp] theorem holdSlot_params (q : PathSlot) (h : Holder) : (s.holdSlot q h).params = s.params := rfl
@[simp] theorem holdSlot_straps (q : PathSlot) (h : Holder) : (s.holdSlot q h).straps = s.straps := rfl
@[simp] theorem holdSlot_time (q : PathSlot) (h : Holder) : (s.holdSlot q h).time = s.time := rfl
@[simp] theorem holdSlot_exch (q : PathSlot) (h : Holder) : (s.holdSlot q h).exch = s.exch := rfl
@[simp] theorem holdSlot_handed (q : PathSlot) (h : Holder) : (s.holdSlot q h).handed = s.handed := rfl
@[simp] theorem holdSlot_pending (q : PathSlot) (h : Holder) :
    (s.holdSlot q h).pending = s.pending := rfl

/-! ## releaseSlot -/

@[simp] theorem releaseSlot_routes (q : PathSlot) : (s.releaseSlot q).routes = s.routes := rfl
@[simp] theorem releaseSlot_occ (q : PathSlot) : (s.releaseSlot q).occ = s.occ.set q.index none := rfl
@[simp] theorem releaseSlot_used (q : PathSlot) :
    (s.releaseSlot q).used = s.used.set q.port (s.used[q.port] - 1) := rfl
@[simp] theorem releaseSlot_descs (q : PathSlot) : (s.releaseSlot q).descs = s.descs := rfl
@[simp] theorem releaseSlot_trunks (q : PathSlot) : (s.releaseSlot q).trunks = s.trunks := rfl
@[simp] theorem releaseSlot_rx (q : PathSlot) : (s.releaseSlot q).rx = s.rx := rfl
@[simp] theorem releaseSlot_ctl (q : PathSlot) : (s.releaseSlot q).ctl = s.ctl := rfl
@[simp] theorem releaseSlot_ports (q : PathSlot) : (s.releaseSlot q).ports = s.ports := rfl
@[simp] theorem releaseSlot_checker (q : PathSlot) : (s.releaseSlot q).checker = s.checker := rfl
@[simp] theorem releaseSlot_groups (q : PathSlot) : (s.releaseSlot q).groups = s.groups := rfl
@[simp] theorem releaseSlot_sweep (q : PathSlot) : (s.releaseSlot q).sweep = s.sweep := rfl
@[simp] theorem releaseSlot_walker (q : PathSlot) : (s.releaseSlot q).walker = s.walker := rfl
@[simp] theorem releaseSlot_hosts (q : PathSlot) : (s.releaseSlot q).hosts = s.hosts := rfl
@[simp] theorem releaseSlot_engine (q : PathSlot) : (s.releaseSlot q).engine = s.engine := rfl
@[simp] theorem releaseSlot_params (q : PathSlot) : (s.releaseSlot q).params = s.params := rfl
@[simp] theorem releaseSlot_straps (q : PathSlot) : (s.releaseSlot q).straps = s.straps := rfl
@[simp] theorem releaseSlot_time (q : PathSlot) : (s.releaseSlot q).time = s.time := rfl
@[simp] theorem releaseSlot_exch (q : PathSlot) : (s.releaseSlot q).exch = s.exch := rfl
@[simp] theorem releaseSlot_handed (q : PathSlot) : (s.releaseSlot q).handed = s.handed := rfl
@[simp] theorem releaseSlot_pending (q : PathSlot) : (s.releaseSlot q).pending = s.pending := rfl

/-! ## makeCurrent -/

@[simp] theorem makeCurrent_routes (q : PathSlot) (c : Circuit) :
    (s.makeCurrent q c).routes = s.routes := rfl
@[simp] theorem makeCurrent_occ (q : PathSlot) (c : Circuit) :
    (s.makeCurrent q c).occ = s.occ.set q.index (some { circuit := c, role := .current }) := rfl
@[simp] theorem makeCurrent_used (q : PathSlot) (c : Circuit) : (s.makeCurrent q c).used = s.used := rfl
@[simp] theorem makeCurrent_descs (q : PathSlot) (c : Circuit) :
    (s.makeCurrent q c).descs = s.descs := rfl
@[simp] theorem makeCurrent_trunks (q : PathSlot) (c : Circuit) :
    (s.makeCurrent q c).trunks = s.trunks := rfl
@[simp] theorem makeCurrent_rx (q : PathSlot) (c : Circuit) : (s.makeCurrent q c).rx = s.rx := rfl
@[simp] theorem makeCurrent_ctl (q : PathSlot) (c : Circuit) : (s.makeCurrent q c).ctl = s.ctl := rfl
@[simp] theorem makeCurrent_ports (q : PathSlot) (c : Circuit) :
    (s.makeCurrent q c).ports = s.ports := rfl
@[simp] theorem makeCurrent_checker (q : PathSlot) (c : Circuit) :
    (s.makeCurrent q c).checker = s.checker := rfl
@[simp] theorem makeCurrent_groups (q : PathSlot) (c : Circuit) :
    (s.makeCurrent q c).groups = s.groups := rfl
@[simp] theorem makeCurrent_sweep (q : PathSlot) (c : Circuit) :
    (s.makeCurrent q c).sweep = s.sweep := rfl
@[simp] theorem makeCurrent_walker (q : PathSlot) (c : Circuit) :
    (s.makeCurrent q c).walker = s.walker := rfl
@[simp] theorem makeCurrent_hosts (q : PathSlot) (c : Circuit) :
    (s.makeCurrent q c).hosts = s.hosts := rfl
@[simp] theorem makeCurrent_engine (q : PathSlot) (c : Circuit) :
    (s.makeCurrent q c).engine = s.engine := rfl
@[simp] theorem makeCurrent_params (q : PathSlot) (c : Circuit) :
    (s.makeCurrent q c).params = s.params := rfl
@[simp] theorem makeCurrent_straps (q : PathSlot) (c : Circuit) :
    (s.makeCurrent q c).straps = s.straps := rfl
@[simp] theorem makeCurrent_time (q : PathSlot) (c : Circuit) : (s.makeCurrent q c).time = s.time := rfl
@[simp] theorem makeCurrent_exch (q : PathSlot) (c : Circuit) : (s.makeCurrent q c).exch = s.exch := rfl
@[simp] theorem makeCurrent_handed (q : PathSlot) (c : Circuit) :
    (s.makeCurrent q c).handed = s.handed := rfl
@[simp] theorem makeCurrent_pending (q : PathSlot) (c : Circuit) :
    (s.makeCurrent q c).pending = s.pending := rfl

/-! ## setDesc -/

@[simp] theorem setDesc_routes (d : Desc) (x : Descriptor) : (s.setDesc d x).routes = s.routes := rfl
@[simp] theorem setDesc_occ (d : Desc) (x : Descriptor) : (s.setDesc d x).occ = s.occ := rfl
@[simp] theorem setDesc_used (d : Desc) (x : Descriptor) : (s.setDesc d x).used = s.used := rfl
@[simp] theorem setDesc_descs (d : Desc) (x : Descriptor) :
    (s.setDesc d x).descs = s.descs.set d x := rfl
@[simp] theorem setDesc_trunks (d : Desc) (x : Descriptor) : (s.setDesc d x).trunks = s.trunks := rfl
@[simp] theorem setDesc_rx (d : Desc) (x : Descriptor) : (s.setDesc d x).rx = s.rx := rfl
@[simp] theorem setDesc_ctl (d : Desc) (x : Descriptor) : (s.setDesc d x).ctl = s.ctl := rfl
@[simp] theorem setDesc_ports (d : Desc) (x : Descriptor) : (s.setDesc d x).ports = s.ports := rfl
@[simp] theorem setDesc_checker (d : Desc) (x : Descriptor) : (s.setDesc d x).checker = s.checker := rfl
@[simp] theorem setDesc_groups (d : Desc) (x : Descriptor) : (s.setDesc d x).groups = s.groups := rfl
@[simp] theorem setDesc_sweep (d : Desc) (x : Descriptor) : (s.setDesc d x).sweep = s.sweep := rfl
@[simp] theorem setDesc_walker (d : Desc) (x : Descriptor) : (s.setDesc d x).walker = s.walker := rfl
@[simp] theorem setDesc_hosts (d : Desc) (x : Descriptor) : (s.setDesc d x).hosts = s.hosts := rfl
@[simp] theorem setDesc_engine (d : Desc) (x : Descriptor) : (s.setDesc d x).engine = s.engine := rfl
@[simp] theorem setDesc_params (d : Desc) (x : Descriptor) : (s.setDesc d x).params = s.params := rfl
@[simp] theorem setDesc_straps (d : Desc) (x : Descriptor) : (s.setDesc d x).straps = s.straps := rfl
@[simp] theorem setDesc_time (d : Desc) (x : Descriptor) : (s.setDesc d x).time = s.time := rfl
@[simp] theorem setDesc_exch (d : Desc) (x : Descriptor) : (s.setDesc d x).exch = s.exch := rfl
@[simp] theorem setDesc_handed (d : Desc) (x : Descriptor) : (s.setDesc d x).handed = s.handed := rfl
@[simp] theorem setDesc_pending (d : Desc) (x : Descriptor) : (s.setDesc d x).pending = s.pending := rfl

/-! ## setTrunk -/

@[simp] theorem setTrunk_routes (t : Trunk) (f : Framer) : (s.setTrunk t f).routes = s.routes := rfl
@[simp] theorem setTrunk_occ (t : Trunk) (f : Framer) : (s.setTrunk t f).occ = s.occ := rfl
@[simp] theorem setTrunk_used (t : Trunk) (f : Framer) : (s.setTrunk t f).used = s.used := rfl
@[simp] theorem setTrunk_descs (t : Trunk) (f : Framer) : (s.setTrunk t f).descs = s.descs := rfl
@[simp] theorem setTrunk_trunks (t : Trunk) (f : Framer) :
    (s.setTrunk t f).trunks = s.trunks.set t f := rfl
@[simp] theorem setTrunk_rx (t : Trunk) (f : Framer) : (s.setTrunk t f).rx = s.rx := rfl
@[simp] theorem setTrunk_ctl (t : Trunk) (f : Framer) : (s.setTrunk t f).ctl = s.ctl := rfl
@[simp] theorem setTrunk_ports (t : Trunk) (f : Framer) : (s.setTrunk t f).ports = s.ports := rfl
@[simp] theorem setTrunk_checker (t : Trunk) (f : Framer) : (s.setTrunk t f).checker = s.checker := rfl
@[simp] theorem setTrunk_groups (t : Trunk) (f : Framer) : (s.setTrunk t f).groups = s.groups := rfl
@[simp] theorem setTrunk_sweep (t : Trunk) (f : Framer) : (s.setTrunk t f).sweep = s.sweep := rfl
@[simp] theorem setTrunk_walker (t : Trunk) (f : Framer) : (s.setTrunk t f).walker = s.walker := rfl
@[simp] theorem setTrunk_hosts (t : Trunk) (f : Framer) : (s.setTrunk t f).hosts = s.hosts := rfl
@[simp] theorem setTrunk_engine (t : Trunk) (f : Framer) : (s.setTrunk t f).engine = s.engine := rfl
@[simp] theorem setTrunk_params (t : Trunk) (f : Framer) : (s.setTrunk t f).params = s.params := rfl
@[simp] theorem setTrunk_straps (t : Trunk) (f : Framer) : (s.setTrunk t f).straps = s.straps := rfl
@[simp] theorem setTrunk_time (t : Trunk) (f : Framer) : (s.setTrunk t f).time = s.time := rfl
@[simp] theorem setTrunk_exch (t : Trunk) (f : Framer) : (s.setTrunk t f).exch = s.exch := rfl
@[simp] theorem setTrunk_handed (t : Trunk) (f : Framer) : (s.setTrunk t f).handed = s.handed := rfl
@[simp] theorem setTrunk_pending (t : Trunk) (f : Framer) : (s.setTrunk t f).pending = s.pending := rfl

/-! ## setPathRx -/

@[simp] theorem setPathRx_routes (p : Port) (r : PathRx) : (s.setPathRx p r).routes = s.routes := rfl
@[simp] theorem setPathRx_occ (p : Port) (r : PathRx) : (s.setPathRx p r).occ = s.occ := rfl
@[simp] theorem setPathRx_used (p : Port) (r : PathRx) : (s.setPathRx p r).used = s.used := rfl
@[simp] theorem setPathRx_descs (p : Port) (r : PathRx) : (s.setPathRx p r).descs = s.descs := rfl
@[simp] theorem setPathRx_trunks (p : Port) (r : PathRx) : (s.setPathRx p r).trunks = s.trunks := rfl
@[simp] theorem setPathRx_rx (p : Port) (r : PathRx) : (s.setPathRx p r).rx = s.rx.set p r := rfl
@[simp] theorem setPathRx_ctl (p : Port) (r : PathRx) : (s.setPathRx p r).ctl = s.ctl := rfl
@[simp] theorem setPathRx_ports (p : Port) (r : PathRx) : (s.setPathRx p r).ports = s.ports := rfl
@[simp] theorem setPathRx_checker (p : Port) (r : PathRx) : (s.setPathRx p r).checker = s.checker := rfl
@[simp] theorem setPathRx_groups (p : Port) (r : PathRx) : (s.setPathRx p r).groups = s.groups := rfl
@[simp] theorem setPathRx_sweep (p : Port) (r : PathRx) : (s.setPathRx p r).sweep = s.sweep := rfl
@[simp] theorem setPathRx_walker (p : Port) (r : PathRx) : (s.setPathRx p r).walker = s.walker := rfl
@[simp] theorem setPathRx_hosts (p : Port) (r : PathRx) : (s.setPathRx p r).hosts = s.hosts := rfl
@[simp] theorem setPathRx_engine (p : Port) (r : PathRx) : (s.setPathRx p r).engine = s.engine := rfl
@[simp] theorem setPathRx_params (p : Port) (r : PathRx) : (s.setPathRx p r).params = s.params := rfl
@[simp] theorem setPathRx_straps (p : Port) (r : PathRx) : (s.setPathRx p r).straps = s.straps := rfl
@[simp] theorem setPathRx_time (p : Port) (r : PathRx) : (s.setPathRx p r).time = s.time := rfl
@[simp] theorem setPathRx_exch (p : Port) (r : PathRx) : (s.setPathRx p r).exch = s.exch := rfl
@[simp] theorem setPathRx_handed (p : Port) (r : PathRx) : (s.setPathRx p r).handed = s.handed := rfl
@[simp] theorem setPathRx_pending (p : Port) (r : PathRx) : (s.setPathRx p r).pending = s.pending := rfl

/-! ## setControl -/

@[simp] theorem setControl_routes (p : Port) (c : Control) : (s.setControl p c).routes = s.routes := rfl
@[simp] theorem setControl_occ (p : Port) (c : Control) : (s.setControl p c).occ = s.occ := rfl
@[simp] theorem setControl_used (p : Port) (c : Control) : (s.setControl p c).used = s.used := rfl
@[simp] theorem setControl_descs (p : Port) (c : Control) : (s.setControl p c).descs = s.descs := rfl
@[simp] theorem setControl_trunks (p : Port) (c : Control) : (s.setControl p c).trunks = s.trunks := rfl
@[simp] theorem setControl_rx (p : Port) (c : Control) : (s.setControl p c).rx = s.rx := rfl
@[simp] theorem setControl_ctl (p : Port) (c : Control) : (s.setControl p c).ctl = s.ctl.set p c := rfl
@[simp] theorem setControl_ports (p : Port) (c : Control) : (s.setControl p c).ports = s.ports := rfl
@[simp] theorem setControl_checker (p : Port) (c : Control) :
    (s.setControl p c).checker = s.checker := rfl
@[simp] theorem setControl_groups (p : Port) (c : Control) : (s.setControl p c).groups = s.groups := rfl
@[simp] theorem setControl_sweep (p : Port) (c : Control) : (s.setControl p c).sweep = s.sweep := rfl
@[simp] theorem setControl_walker (p : Port) (c : Control) : (s.setControl p c).walker = s.walker := rfl
@[simp] theorem setControl_hosts (p : Port) (c : Control) : (s.setControl p c).hosts = s.hosts := rfl
@[simp] theorem setControl_engine (p : Port) (c : Control) : (s.setControl p c).engine = s.engine := rfl
@[simp] theorem setControl_params (p : Port) (c : Control) : (s.setControl p c).params = s.params := rfl
@[simp] theorem setControl_straps (p : Port) (c : Control) : (s.setControl p c).straps = s.straps := rfl
@[simp] theorem setControl_time (p : Port) (c : Control) : (s.setControl p c).time = s.time := rfl
@[simp] theorem setControl_exch (p : Port) (c : Control) : (s.setControl p c).exch = s.exch := rfl
@[simp] theorem setControl_handed (p : Port) (c : Control) : (s.setControl p c).handed = s.handed := rfl
@[simp] theorem setControl_pending (p : Port) (c : Control) :
    (s.setControl p c).pending = s.pending := rfl

/-! ## setPort -/

@[simp] theorem setPort_routes (p : Port) (r : PortRecord) : (s.setPort p r).routes = s.routes := rfl
@[simp] theorem setPort_occ (p : Port) (r : PortRecord) : (s.setPort p r).occ = s.occ := rfl
@[simp] theorem setPort_used (p : Port) (r : PortRecord) : (s.setPort p r).used = s.used := rfl
@[simp] theorem setPort_descs (p : Port) (r : PortRecord) : (s.setPort p r).descs = s.descs := rfl
@[simp] theorem setPort_trunks (p : Port) (r : PortRecord) : (s.setPort p r).trunks = s.trunks := rfl
@[simp] theorem setPort_rx (p : Port) (r : PortRecord) : (s.setPort p r).rx = s.rx := rfl
@[simp] theorem setPort_ctl (p : Port) (r : PortRecord) : (s.setPort p r).ctl = s.ctl := rfl
@[simp] theorem setPort_ports (p : Port) (r : PortRecord) :
    (s.setPort p r).ports = s.ports.set p r := rfl
@[simp] theorem setPort_checker (p : Port) (r : PortRecord) : (s.setPort p r).checker = s.checker := rfl
@[simp] theorem setPort_groups (p : Port) (r : PortRecord) : (s.setPort p r).groups = s.groups := rfl
@[simp] theorem setPort_sweep (p : Port) (r : PortRecord) : (s.setPort p r).sweep = s.sweep := rfl
@[simp] theorem setPort_walker (p : Port) (r : PortRecord) : (s.setPort p r).walker = s.walker := rfl
@[simp] theorem setPort_hosts (p : Port) (r : PortRecord) : (s.setPort p r).hosts = s.hosts := rfl
@[simp] theorem setPort_engine (p : Port) (r : PortRecord) : (s.setPort p r).engine = s.engine := rfl
@[simp] theorem setPort_params (p : Port) (r : PortRecord) : (s.setPort p r).params = s.params := rfl
@[simp] theorem setPort_straps (p : Port) (r : PortRecord) : (s.setPort p r).straps = s.straps := rfl
@[simp] theorem setPort_time (p : Port) (r : PortRecord) : (s.setPort p r).time = s.time := rfl
@[simp] theorem setPort_exch (p : Port) (r : PortRecord) : (s.setPort p r).exch = s.exch := rfl
@[simp] theorem setPort_handed (p : Port) (r : PortRecord) : (s.setPort p r).handed = s.handed := rfl
@[simp] theorem setPort_pending (p : Port) (r : PortRecord) : (s.setPort p r).pending = s.pending := rfl

/-! ## setChecker -/

@[simp] theorem setChecker_routes (k : Checker) : (s.setChecker k).routes = s.routes := rfl
@[simp] theorem setChecker_occ (k : Checker) : (s.setChecker k).occ = s.occ := rfl
@[simp] theorem setChecker_used (k : Checker) : (s.setChecker k).used = s.used := rfl
@[simp] theorem setChecker_descs (k : Checker) : (s.setChecker k).descs = s.descs := rfl
@[simp] theorem setChecker_trunks (k : Checker) : (s.setChecker k).trunks = s.trunks := rfl
@[simp] theorem setChecker_rx (k : Checker) : (s.setChecker k).rx = s.rx := rfl
@[simp] theorem setChecker_ctl (k : Checker) : (s.setChecker k).ctl = s.ctl := rfl
@[simp] theorem setChecker_ports (k : Checker) : (s.setChecker k).ports = s.ports := rfl
@[simp] theorem setChecker_checker (k : Checker) : (s.setChecker k).checker = k := rfl
@[simp] theorem setChecker_groups (k : Checker) : (s.setChecker k).groups = s.groups := rfl
@[simp] theorem setChecker_sweep (k : Checker) : (s.setChecker k).sweep = s.sweep := rfl
@[simp] theorem setChecker_walker (k : Checker) : (s.setChecker k).walker = s.walker := rfl
@[simp] theorem setChecker_hosts (k : Checker) : (s.setChecker k).hosts = s.hosts := rfl
@[simp] theorem setChecker_engine (k : Checker) : (s.setChecker k).engine = s.engine := rfl
@[simp] theorem setChecker_params (k : Checker) : (s.setChecker k).params = s.params := rfl
@[simp] theorem setChecker_straps (k : Checker) : (s.setChecker k).straps = s.straps := rfl
@[simp] theorem setChecker_time (k : Checker) : (s.setChecker k).time = s.time := rfl
@[simp] theorem setChecker_exch (k : Checker) : (s.setChecker k).exch = s.exch := rfl
@[simp] theorem setChecker_handed (k : Checker) : (s.setChecker k).handed = s.handed := rfl
@[simp] theorem setChecker_pending (k : Checker) : (s.setChecker k).pending = s.pending := rfl

/-! ## setGroup -/

@[simp] theorem setGroup_routes (g : Group) (r : GroupRecord) : (s.setGroup g r).routes = s.routes := rfl
@[simp] theorem setGroup_occ (g : Group) (r : GroupRecord) : (s.setGroup g r).occ = s.occ := rfl
@[simp] theorem setGroup_used (g : Group) (r : GroupRecord) : (s.setGroup g r).used = s.used := rfl
@[simp] theorem setGroup_descs (g : Group) (r : GroupRecord) : (s.setGroup g r).descs = s.descs := rfl
@[simp] theorem setGroup_trunks (g : Group) (r : GroupRecord) : (s.setGroup g r).trunks = s.trunks := rfl
@[simp] theorem setGroup_rx (g : Group) (r : GroupRecord) : (s.setGroup g r).rx = s.rx := rfl
@[simp] theorem setGroup_ctl (g : Group) (r : GroupRecord) : (s.setGroup g r).ctl = s.ctl := rfl
@[simp] theorem setGroup_ports (g : Group) (r : GroupRecord) : (s.setGroup g r).ports = s.ports := rfl
@[simp] theorem setGroup_checker (g : Group) (r : GroupRecord) :
    (s.setGroup g r).checker = s.checker := rfl
@[simp] theorem setGroup_groups (g : Group) (r : GroupRecord) :
    (s.setGroup g r).groups = s.groups.set g r := rfl
@[simp] theorem setGroup_sweep (g : Group) (r : GroupRecord) : (s.setGroup g r).sweep = s.sweep := rfl
@[simp] theorem setGroup_walker (g : Group) (r : GroupRecord) : (s.setGroup g r).walker = s.walker := rfl
@[simp] theorem setGroup_hosts (g : Group) (r : GroupRecord) : (s.setGroup g r).hosts = s.hosts := rfl
@[simp] theorem setGroup_engine (g : Group) (r : GroupRecord) : (s.setGroup g r).engine = s.engine := rfl
@[simp] theorem setGroup_params (g : Group) (r : GroupRecord) : (s.setGroup g r).params = s.params := rfl
@[simp] theorem setGroup_straps (g : Group) (r : GroupRecord) : (s.setGroup g r).straps = s.straps := rfl
@[simp] theorem setGroup_time (g : Group) (r : GroupRecord) : (s.setGroup g r).time = s.time := rfl
@[simp] theorem setGroup_exch (g : Group) (r : GroupRecord) : (s.setGroup g r).exch = s.exch := rfl
@[simp] theorem setGroup_handed (g : Group) (r : GroupRecord) : (s.setGroup g r).handed = s.handed := rfl
@[simp] theorem setGroup_pending (g : Group) (r : GroupRecord) :
    (s.setGroup g r).pending = s.pending := rfl

/-! ## setSweep -/

@[simp] theorem setSweep_routes (w : Sweep) : (s.setSweep w).routes = s.routes := rfl
@[simp] theorem setSweep_occ (w : Sweep) : (s.setSweep w).occ = s.occ := rfl
@[simp] theorem setSweep_used (w : Sweep) : (s.setSweep w).used = s.used := rfl
@[simp] theorem setSweep_descs (w : Sweep) : (s.setSweep w).descs = s.descs := rfl
@[simp] theorem setSweep_trunks (w : Sweep) : (s.setSweep w).trunks = s.trunks := rfl
@[simp] theorem setSweep_rx (w : Sweep) : (s.setSweep w).rx = s.rx := rfl
@[simp] theorem setSweep_ctl (w : Sweep) : (s.setSweep w).ctl = s.ctl := rfl
@[simp] theorem setSweep_ports (w : Sweep) : (s.setSweep w).ports = s.ports := rfl
@[simp] theorem setSweep_checker (w : Sweep) : (s.setSweep w).checker = s.checker := rfl
@[simp] theorem setSweep_groups (w : Sweep) : (s.setSweep w).groups = s.groups := rfl
@[simp] theorem setSweep_sweep (w : Sweep) : (s.setSweep w).sweep = w := rfl
@[simp] theorem setSweep_walker (w : Sweep) : (s.setSweep w).walker = s.walker := rfl
@[simp] theorem setSweep_hosts (w : Sweep) : (s.setSweep w).hosts = s.hosts := rfl
@[simp] theorem setSweep_engine (w : Sweep) : (s.setSweep w).engine = s.engine := rfl
@[simp] theorem setSweep_params (w : Sweep) : (s.setSweep w).params = s.params := rfl
@[simp] theorem setSweep_straps (w : Sweep) : (s.setSweep w).straps = s.straps := rfl
@[simp] theorem setSweep_time (w : Sweep) : (s.setSweep w).time = s.time := rfl
@[simp] theorem setSweep_exch (w : Sweep) : (s.setSweep w).exch = s.exch := rfl
@[simp] theorem setSweep_handed (w : Sweep) : (s.setSweep w).handed = s.handed := rfl
@[simp] theorem setSweep_pending (w : Sweep) : (s.setSweep w).pending = s.pending := rfl

/-! ## setWalker -/

@[simp] theorem setWalker_routes (w : Walker) : (s.setWalker w).routes = s.routes := rfl
@[simp] theorem setWalker_occ (w : Walker) : (s.setWalker w).occ = s.occ := rfl
@[simp] theorem setWalker_used (w : Walker) : (s.setWalker w).used = s.used := rfl
@[simp] theorem setWalker_descs (w : Walker) : (s.setWalker w).descs = s.descs := rfl
@[simp] theorem setWalker_trunks (w : Walker) : (s.setWalker w).trunks = s.trunks := rfl
@[simp] theorem setWalker_rx (w : Walker) : (s.setWalker w).rx = s.rx := rfl
@[simp] theorem setWalker_ctl (w : Walker) : (s.setWalker w).ctl = s.ctl := rfl
@[simp] theorem setWalker_ports (w : Walker) : (s.setWalker w).ports = s.ports := rfl
@[simp] theorem setWalker_checker (w : Walker) : (s.setWalker w).checker = s.checker := rfl
@[simp] theorem setWalker_groups (w : Walker) : (s.setWalker w).groups = s.groups := rfl
@[simp] theorem setWalker_sweep (w : Walker) : (s.setWalker w).sweep = s.sweep := rfl
@[simp] theorem setWalker_walker (w : Walker) : (s.setWalker w).walker = w := rfl
@[simp] theorem setWalker_hosts (w : Walker) : (s.setWalker w).hosts = s.hosts := rfl
@[simp] theorem setWalker_engine (w : Walker) : (s.setWalker w).engine = s.engine := rfl
@[simp] theorem setWalker_params (w : Walker) : (s.setWalker w).params = s.params := rfl
@[simp] theorem setWalker_straps (w : Walker) : (s.setWalker w).straps = s.straps := rfl
@[simp] theorem setWalker_time (w : Walker) : (s.setWalker w).time = s.time := rfl
@[simp] theorem setWalker_exch (w : Walker) : (s.setWalker w).exch = s.exch := rfl
@[simp] theorem setWalker_handed (w : Walker) : (s.setWalker w).handed = s.handed := rfl
@[simp] theorem setWalker_pending (w : Walker) : (s.setWalker w).pending = s.pending := rfl

/-! ## setHostRecord -/

@[simp] theorem setHostRecord_routes (h : HostId) (r : HostRecord) :
    (s.setHostRecord h r).routes = s.routes := rfl
@[simp] theorem setHostRecord_occ (h : HostId) (r : HostRecord) :
    (s.setHostRecord h r).occ = s.occ := rfl
@[simp] theorem setHostRecord_used (h : HostId) (r : HostRecord) :
    (s.setHostRecord h r).used = s.used := rfl
@[simp] theorem setHostRecord_descs (h : HostId) (r : HostRecord) :
    (s.setHostRecord h r).descs = s.descs := rfl
@[simp] theorem setHostRecord_trunks (h : HostId) (r : HostRecord) :
    (s.setHostRecord h r).trunks = s.trunks := rfl
@[simp] theorem setHostRecord_rx (h : HostId) (r : HostRecord) : (s.setHostRecord h r).rx = s.rx := rfl
@[simp] theorem setHostRecord_ctl (h : HostId) (r : HostRecord) :
    (s.setHostRecord h r).ctl = s.ctl := rfl
@[simp] theorem setHostRecord_ports (h : HostId) (r : HostRecord) :
    (s.setHostRecord h r).ports = s.ports := rfl
@[simp] theorem setHostRecord_checker (h : HostId) (r : HostRecord) :
    (s.setHostRecord h r).checker = s.checker := rfl
@[simp] theorem setHostRecord_groups (h : HostId) (r : HostRecord) :
    (s.setHostRecord h r).groups = s.groups := rfl
@[simp] theorem setHostRecord_sweep (h : HostId) (r : HostRecord) :
    (s.setHostRecord h r).sweep = s.sweep := rfl
@[simp] theorem setHostRecord_walker (h : HostId) (r : HostRecord) :
    (s.setHostRecord h r).walker = s.walker := rfl
@[simp] theorem setHostRecord_hosts (h : HostId) (r : HostRecord) :
    (s.setHostRecord h r).hosts = s.hosts.set h r := rfl
@[simp] theorem setHostRecord_engine (h : HostId) (r : HostRecord) :
    (s.setHostRecord h r).engine = s.engine := rfl
@[simp] theorem setHostRecord_params (h : HostId) (r : HostRecord) :
    (s.setHostRecord h r).params = s.params := rfl
@[simp] theorem setHostRecord_straps (h : HostId) (r : HostRecord) :
    (s.setHostRecord h r).straps = s.straps := rfl
@[simp] theorem setHostRecord_time (h : HostId) (r : HostRecord) :
    (s.setHostRecord h r).time = s.time := rfl
@[simp] theorem setHostRecord_exch (h : HostId) (r : HostRecord) :
    (s.setHostRecord h r).exch = s.exch := rfl
@[simp] theorem setHostRecord_handed (h : HostId) (r : HostRecord) :
    (s.setHostRecord h r).handed = s.handed := rfl
@[simp] theorem setHostRecord_pending (h : HostId) (r : HostRecord) :
    (s.setHostRecord h r).pending = s.pending := rfl

/-! ## setEngine -/

@[simp] theorem setEngine_routes (e : Engine) : (s.setEngine e).routes = s.routes := rfl
@[simp] theorem setEngine_occ (e : Engine) : (s.setEngine e).occ = s.occ := rfl
@[simp] theorem setEngine_used (e : Engine) : (s.setEngine e).used = s.used := rfl
@[simp] theorem setEngine_descs (e : Engine) : (s.setEngine e).descs = s.descs := rfl
@[simp] theorem setEngine_trunks (e : Engine) : (s.setEngine e).trunks = s.trunks := rfl
@[simp] theorem setEngine_rx (e : Engine) : (s.setEngine e).rx = s.rx := rfl
@[simp] theorem setEngine_ctl (e : Engine) : (s.setEngine e).ctl = s.ctl := rfl
@[simp] theorem setEngine_ports (e : Engine) : (s.setEngine e).ports = s.ports := rfl
@[simp] theorem setEngine_checker (e : Engine) : (s.setEngine e).checker = s.checker := rfl
@[simp] theorem setEngine_groups (e : Engine) : (s.setEngine e).groups = s.groups := rfl
@[simp] theorem setEngine_sweep (e : Engine) : (s.setEngine e).sweep = s.sweep := rfl
@[simp] theorem setEngine_walker (e : Engine) : (s.setEngine e).walker = s.walker := rfl
@[simp] theorem setEngine_hosts (e : Engine) : (s.setEngine e).hosts = s.hosts := rfl
@[simp] theorem setEngine_engine (e : Engine) : (s.setEngine e).engine = e := rfl
@[simp] theorem setEngine_params (e : Engine) : (s.setEngine e).params = s.params := rfl
@[simp] theorem setEngine_straps (e : Engine) : (s.setEngine e).straps = s.straps := rfl
@[simp] theorem setEngine_time (e : Engine) : (s.setEngine e).time = s.time := rfl
@[simp] theorem setEngine_exch (e : Engine) : (s.setEngine e).exch = s.exch := rfl
@[simp] theorem setEngine_handed (e : Engine) : (s.setEngine e).handed = s.handed := rfl
@[simp] theorem setEngine_pending (e : Engine) : (s.setEngine e).pending = s.pending := rfl

/-! ## setTime -/

@[simp] theorem setTime_routes (t : Timebase) : (s.setTime t).routes = s.routes := rfl
@[simp] theorem setTime_occ (t : Timebase) : (s.setTime t).occ = s.occ := rfl
@[simp] theorem setTime_used (t : Timebase) : (s.setTime t).used = s.used := rfl
@[simp] theorem setTime_descs (t : Timebase) : (s.setTime t).descs = s.descs := rfl
@[simp] theorem setTime_trunks (t : Timebase) : (s.setTime t).trunks = s.trunks := rfl
@[simp] theorem setTime_rx (t : Timebase) : (s.setTime t).rx = s.rx := rfl
@[simp] theorem setTime_ctl (t : Timebase) : (s.setTime t).ctl = s.ctl := rfl
@[simp] theorem setTime_ports (t : Timebase) : (s.setTime t).ports = s.ports := rfl
@[simp] theorem setTime_checker (t : Timebase) : (s.setTime t).checker = s.checker := rfl
@[simp] theorem setTime_groups (t : Timebase) : (s.setTime t).groups = s.groups := rfl
@[simp] theorem setTime_sweep (t : Timebase) : (s.setTime t).sweep = s.sweep := rfl
@[simp] theorem setTime_walker (t : Timebase) : (s.setTime t).walker = s.walker := rfl
@[simp] theorem setTime_hosts (t : Timebase) : (s.setTime t).hosts = s.hosts := rfl
@[simp] theorem setTime_engine (t : Timebase) : (s.setTime t).engine = s.engine := rfl
@[simp] theorem setTime_params (t : Timebase) : (s.setTime t).params = s.params := rfl
@[simp] theorem setTime_straps (t : Timebase) : (s.setTime t).straps = s.straps := rfl
@[simp] theorem setTime_time (t : Timebase) : (s.setTime t).time = t := rfl
@[simp] theorem setTime_exch (t : Timebase) : (s.setTime t).exch = s.exch := rfl
@[simp] theorem setTime_handed (t : Timebase) : (s.setTime t).handed = s.handed := rfl
@[simp] theorem setTime_pending (t : Timebase) : (s.setTime t).pending = s.pending := rfl

/-! ## setExch -/

@[simp] theorem setExch_routes (x : Exchange) : (s.setExch x).routes = s.routes := rfl
@[simp] theorem setExch_occ (x : Exchange) : (s.setExch x).occ = s.occ := rfl
@[simp] theorem setExch_used (x : Exchange) : (s.setExch x).used = s.used := rfl
@[simp] theorem setExch_descs (x : Exchange) : (s.setExch x).descs = s.descs := rfl
@[simp] theorem setExch_trunks (x : Exchange) : (s.setExch x).trunks = s.trunks := rfl
@[simp] theorem setExch_rx (x : Exchange) : (s.setExch x).rx = s.rx := rfl
@[simp] theorem setExch_ctl (x : Exchange) : (s.setExch x).ctl = s.ctl := rfl
@[simp] theorem setExch_ports (x : Exchange) : (s.setExch x).ports = s.ports := rfl
@[simp] theorem setExch_checker (x : Exchange) : (s.setExch x).checker = s.checker := rfl
@[simp] theorem setExch_groups (x : Exchange) : (s.setExch x).groups = s.groups := rfl
@[simp] theorem setExch_sweep (x : Exchange) : (s.setExch x).sweep = s.sweep := rfl
@[simp] theorem setExch_walker (x : Exchange) : (s.setExch x).walker = s.walker := rfl
@[simp] theorem setExch_hosts (x : Exchange) : (s.setExch x).hosts = s.hosts := rfl
@[simp] theorem setExch_engine (x : Exchange) : (s.setExch x).engine = s.engine := rfl
@[simp] theorem setExch_params (x : Exchange) : (s.setExch x).params = s.params := rfl
@[simp] theorem setExch_straps (x : Exchange) : (s.setExch x).straps = s.straps := rfl
@[simp] theorem setExch_time (x : Exchange) : (s.setExch x).time = s.time := rfl
@[simp] theorem setExch_exch (x : Exchange) : (s.setExch x).exch = x := rfl
@[simp] theorem setExch_handed (x : Exchange) : (s.setExch x).handed = s.handed := rfl
@[simp] theorem setExch_pending (x : Exchange) : (s.setExch x).pending = s.pending := rfl

/-! ## setHanded -/

@[simp] theorem setHanded_routes (h : Handed) : (s.setHanded h).routes = s.routes := rfl
@[simp] theorem setHanded_occ (h : Handed) : (s.setHanded h).occ = s.occ := rfl
@[simp] theorem setHanded_used (h : Handed) : (s.setHanded h).used = s.used := rfl
@[simp] theorem setHanded_descs (h : Handed) : (s.setHanded h).descs = s.descs := rfl
@[simp] theorem setHanded_trunks (h : Handed) : (s.setHanded h).trunks = s.trunks := rfl
@[simp] theorem setHanded_rx (h : Handed) : (s.setHanded h).rx = s.rx := rfl
@[simp] theorem setHanded_ctl (h : Handed) : (s.setHanded h).ctl = s.ctl := rfl
@[simp] theorem setHanded_ports (h : Handed) : (s.setHanded h).ports = s.ports := rfl
@[simp] theorem setHanded_checker (h : Handed) : (s.setHanded h).checker = s.checker := rfl
@[simp] theorem setHanded_groups (h : Handed) : (s.setHanded h).groups = s.groups := rfl
@[simp] theorem setHanded_sweep (h : Handed) : (s.setHanded h).sweep = s.sweep := rfl
@[simp] theorem setHanded_walker (h : Handed) : (s.setHanded h).walker = s.walker := rfl
@[simp] theorem setHanded_hosts (h : Handed) : (s.setHanded h).hosts = s.hosts := rfl
@[simp] theorem setHanded_engine (h : Handed) : (s.setHanded h).engine = s.engine := rfl
@[simp] theorem setHanded_params (h : Handed) : (s.setHanded h).params = s.params := rfl
@[simp] theorem setHanded_straps (h : Handed) : (s.setHanded h).straps = s.straps := rfl
@[simp] theorem setHanded_time (h : Handed) : (s.setHanded h).time = s.time := rfl
@[simp] theorem setHanded_exch (h : Handed) : (s.setHanded h).exch = s.exch := rfl
@[simp] theorem setHanded_handed (h : Handed) : (s.setHanded h).handed = h := rfl
@[simp] theorem setHanded_pending (h : Handed) : (s.setHanded h).pending = s.pending := rfl

/-! ## setParam -/

@[simp] theorem setParam_routes (x : Param) (v : Nat) : (s.setParam x v).routes = s.routes := rfl
@[simp] theorem setParam_occ (x : Param) (v : Nat) : (s.setParam x v).occ = s.occ := rfl
@[simp] theorem setParam_used (x : Param) (v : Nat) : (s.setParam x v).used = s.used := rfl
@[simp] theorem setParam_descs (x : Param) (v : Nat) : (s.setParam x v).descs = s.descs := rfl
@[simp] theorem setParam_trunks (x : Param) (v : Nat) : (s.setParam x v).trunks = s.trunks := rfl
@[simp] theorem setParam_rx (x : Param) (v : Nat) : (s.setParam x v).rx = s.rx := rfl
@[simp] theorem setParam_ctl (x : Param) (v : Nat) : (s.setParam x v).ctl = s.ctl := rfl
@[simp] theorem setParam_ports (x : Param) (v : Nat) : (s.setParam x v).ports = s.ports := rfl
@[simp] theorem setParam_checker (x : Param) (v : Nat) : (s.setParam x v).checker = s.checker := rfl
@[simp] theorem setParam_groups (x : Param) (v : Nat) : (s.setParam x v).groups = s.groups := rfl
@[simp] theorem setParam_sweep (x : Param) (v : Nat) : (s.setParam x v).sweep = s.sweep := rfl
@[simp] theorem setParam_walker (x : Param) (v : Nat) : (s.setParam x v).walker = s.walker := rfl
@[simp] theorem setParam_hosts (x : Param) (v : Nat) : (s.setParam x v).hosts = s.hosts := rfl
@[simp] theorem setParam_engine (x : Param) (v : Nat) : (s.setParam x v).engine = s.engine := rfl
@[simp] theorem setParam_params (x : Param) (v : Nat) :
    (s.setParam x v).params = s.params.set x.id v := rfl
@[simp] theorem setParam_straps (x : Param) (v : Nat) : (s.setParam x v).straps = s.straps := rfl
@[simp] theorem setParam_time (x : Param) (v : Nat) : (s.setParam x v).time = s.time := rfl
@[simp] theorem setParam_exch (x : Param) (v : Nat) : (s.setParam x v).exch = s.exch := rfl
@[simp] theorem setParam_handed (x : Param) (v : Nat) : (s.setParam x v).handed = s.handed := rfl
@[simp] theorem setParam_pending (x : Param) (v : Nat) : (s.setParam x v).pending = s.pending := rfl

/-! ## raise -/

@[simp] theorem raise_routes (o : Occurrence) : (s.raise o).routes = s.routes := rfl
@[simp] theorem raise_occ (o : Occurrence) : (s.raise o).occ = s.occ := rfl
@[simp] theorem raise_used (o : Occurrence) : (s.raise o).used = s.used := rfl
@[simp] theorem raise_descs (o : Occurrence) : (s.raise o).descs = s.descs := rfl
@[simp] theorem raise_trunks (o : Occurrence) : (s.raise o).trunks = s.trunks := rfl
@[simp] theorem raise_rx (o : Occurrence) : (s.raise o).rx = s.rx := rfl
@[simp] theorem raise_ctl (o : Occurrence) : (s.raise o).ctl = s.ctl := rfl
@[simp] theorem raise_ports (o : Occurrence) : (s.raise o).ports = s.ports := rfl
@[simp] theorem raise_checker (o : Occurrence) : (s.raise o).checker = s.checker := rfl
@[simp] theorem raise_groups (o : Occurrence) : (s.raise o).groups = s.groups := rfl
@[simp] theorem raise_sweep (o : Occurrence) : (s.raise o).sweep = s.sweep := rfl
@[simp] theorem raise_walker (o : Occurrence) : (s.raise o).walker = s.walker := rfl
@[simp] theorem raise_hosts (o : Occurrence) : (s.raise o).hosts = s.hosts := rfl
@[simp] theorem raise_engine (o : Occurrence) : (s.raise o).engine = s.engine := rfl
@[simp] theorem raise_params (o : Occurrence) : (s.raise o).params = s.params := rfl
@[simp] theorem raise_straps (o : Occurrence) : (s.raise o).straps = s.straps := rfl
@[simp] theorem raise_time (o : Occurrence) : (s.raise o).time = s.time := rfl
@[simp] theorem raise_exch (o : Occurrence) : (s.raise o).exch = s.exch := rfl
@[simp] theorem raise_handed (o : Occurrence) :
    (s.raise o).handed = { s.handed with occurrences := s.handed.occurrences ++ [o] } := rfl
@[simp] theorem raise_pending (o : Occurrence) : (s.raise o).pending = s.pending := rfl

/-! ## handDownEntry -/

@[simp] theorem handDownEntry_routes (p : Port) : (s.handDownEntry p).routes = s.routes := rfl
@[simp] theorem handDownEntry_occ (p : Port) : (s.handDownEntry p).occ = s.occ := rfl
@[simp] theorem handDownEntry_used (p : Port) : (s.handDownEntry p).used = s.used := rfl
@[simp] theorem handDownEntry_descs (p : Port) : (s.handDownEntry p).descs = s.descs := rfl
@[simp] theorem handDownEntry_trunks (p : Port) : (s.handDownEntry p).trunks = s.trunks := rfl
@[simp] theorem handDownEntry_rx (p : Port) : (s.handDownEntry p).rx = s.rx := rfl
@[simp] theorem handDownEntry_ctl (p : Port) : (s.handDownEntry p).ctl = s.ctl := rfl
@[simp] theorem handDownEntry_ports (p : Port) : (s.handDownEntry p).ports = s.ports := rfl
@[simp] theorem handDownEntry_checker (p : Port) : (s.handDownEntry p).checker = s.checker := rfl
@[simp] theorem handDownEntry_groups (p : Port) : (s.handDownEntry p).groups = s.groups := rfl
@[simp] theorem handDownEntry_sweep (p : Port) : (s.handDownEntry p).sweep = s.sweep := rfl
@[simp] theorem handDownEntry_walker (p : Port) : (s.handDownEntry p).walker = s.walker := rfl
@[simp] theorem handDownEntry_hosts (p : Port) : (s.handDownEntry p).hosts = s.hosts := rfl
@[simp] theorem handDownEntry_engine (p : Port) : (s.handDownEntry p).engine = s.engine := rfl
@[simp] theorem handDownEntry_params (p : Port) : (s.handDownEntry p).params = s.params := rfl
@[simp] theorem handDownEntry_straps (p : Port) : (s.handDownEntry p).straps = s.straps := rfl
@[simp] theorem handDownEntry_time (p : Port) : (s.handDownEntry p).time = s.time := rfl
@[simp] theorem handDownEntry_exch (p : Port) : (s.handDownEntry p).exch = s.exch := rfl
@[simp] theorem handDownEntry_handed (p : Port) :
    (s.handDownEntry p).handed = { s.handed with downEntries := s.handed.downEntries ++ [p] } := rfl
@[simp] theorem handDownEntry_pending (p : Port) : (s.handDownEntry p).pending = s.pending := rfl

/-! ## handUpEntry -/

@[simp] theorem handUpEntry_routes (p : Port) : (s.handUpEntry p).routes = s.routes := rfl
@[simp] theorem handUpEntry_occ (p : Port) : (s.handUpEntry p).occ = s.occ := rfl
@[simp] theorem handUpEntry_used (p : Port) : (s.handUpEntry p).used = s.used := rfl
@[simp] theorem handUpEntry_descs (p : Port) : (s.handUpEntry p).descs = s.descs := rfl
@[simp] theorem handUpEntry_trunks (p : Port) : (s.handUpEntry p).trunks = s.trunks := rfl
@[simp] theorem handUpEntry_rx (p : Port) : (s.handUpEntry p).rx = s.rx := rfl
@[simp] theorem handUpEntry_ctl (p : Port) : (s.handUpEntry p).ctl = s.ctl := rfl
@[simp] theorem handUpEntry_ports (p : Port) : (s.handUpEntry p).ports = s.ports := rfl
@[simp] theorem handUpEntry_checker (p : Port) : (s.handUpEntry p).checker = s.checker := rfl
@[simp] theorem handUpEntry_groups (p : Port) : (s.handUpEntry p).groups = s.groups := rfl
@[simp] theorem handUpEntry_sweep (p : Port) : (s.handUpEntry p).sweep = s.sweep := rfl
@[simp] theorem handUpEntry_walker (p : Port) : (s.handUpEntry p).walker = s.walker := rfl
@[simp] theorem handUpEntry_hosts (p : Port) : (s.handUpEntry p).hosts = s.hosts := rfl
@[simp] theorem handUpEntry_engine (p : Port) : (s.handUpEntry p).engine = s.engine := rfl
@[simp] theorem handUpEntry_params (p : Port) : (s.handUpEntry p).params = s.params := rfl
@[simp] theorem handUpEntry_straps (p : Port) : (s.handUpEntry p).straps = s.straps := rfl
@[simp] theorem handUpEntry_time (p : Port) : (s.handUpEntry p).time = s.time := rfl
@[simp] theorem handUpEntry_exch (p : Port) : (s.handUpEntry p).exch = s.exch := rfl
@[simp] theorem handUpEntry_handed (p : Port) :
    (s.handUpEntry p).handed = { s.handed with upEntries := s.handed.upEntries ++ [p] } := rfl
@[simp] theorem handUpEntry_pending (p : Port) : (s.handUpEntry p).pending = s.pending := rfl

/-! ## handPortDrain -/

@[simp] theorem handPortDrain_routes (p : Port) : (s.handPortDrain p).routes = s.routes := rfl
@[simp] theorem handPortDrain_occ (p : Port) : (s.handPortDrain p).occ = s.occ := rfl
@[simp] theorem handPortDrain_used (p : Port) : (s.handPortDrain p).used = s.used := rfl
@[simp] theorem handPortDrain_descs (p : Port) : (s.handPortDrain p).descs = s.descs := rfl
@[simp] theorem handPortDrain_trunks (p : Port) : (s.handPortDrain p).trunks = s.trunks := rfl
@[simp] theorem handPortDrain_rx (p : Port) : (s.handPortDrain p).rx = s.rx := rfl
@[simp] theorem handPortDrain_ctl (p : Port) : (s.handPortDrain p).ctl = s.ctl := rfl
@[simp] theorem handPortDrain_ports (p : Port) : (s.handPortDrain p).ports = s.ports := rfl
@[simp] theorem handPortDrain_checker (p : Port) : (s.handPortDrain p).checker = s.checker := rfl
@[simp] theorem handPortDrain_groups (p : Port) : (s.handPortDrain p).groups = s.groups := rfl
@[simp] theorem handPortDrain_sweep (p : Port) : (s.handPortDrain p).sweep = s.sweep := rfl
@[simp] theorem handPortDrain_walker (p : Port) : (s.handPortDrain p).walker = s.walker := rfl
@[simp] theorem handPortDrain_hosts (p : Port) : (s.handPortDrain p).hosts = s.hosts := rfl
@[simp] theorem handPortDrain_engine (p : Port) : (s.handPortDrain p).engine = s.engine := rfl
@[simp] theorem handPortDrain_params (p : Port) : (s.handPortDrain p).params = s.params := rfl
@[simp] theorem handPortDrain_straps (p : Port) : (s.handPortDrain p).straps = s.straps := rfl
@[simp] theorem handPortDrain_time (p : Port) : (s.handPortDrain p).time = s.time := rfl
@[simp] theorem handPortDrain_exch (p : Port) : (s.handPortDrain p).exch = s.exch := rfl
@[simp] theorem handPortDrain_handed (p : Port) :
    (s.handPortDrain p).handed = { s.handed with portDrains := s.handed.portDrains ++ [p] } := rfl
@[simp] theorem handPortDrain_pending (p : Port) : (s.handPortDrain p).pending = s.pending := rfl

/-! ## handGroupDrain -/

@[simp] theorem handGroupDrain_routes (g : Group) : (s.handGroupDrain g).routes = s.routes := rfl
@[simp] theorem handGroupDrain_occ (g : Group) : (s.handGroupDrain g).occ = s.occ := rfl
@[simp] theorem handGroupDrain_used (g : Group) : (s.handGroupDrain g).used = s.used := rfl
@[simp] theorem handGroupDrain_descs (g : Group) : (s.handGroupDrain g).descs = s.descs := rfl
@[simp] theorem handGroupDrain_trunks (g : Group) : (s.handGroupDrain g).trunks = s.trunks := rfl
@[simp] theorem handGroupDrain_rx (g : Group) : (s.handGroupDrain g).rx = s.rx := rfl
@[simp] theorem handGroupDrain_ctl (g : Group) : (s.handGroupDrain g).ctl = s.ctl := rfl
@[simp] theorem handGroupDrain_ports (g : Group) : (s.handGroupDrain g).ports = s.ports := rfl
@[simp] theorem handGroupDrain_checker (g : Group) : (s.handGroupDrain g).checker = s.checker := rfl
@[simp] theorem handGroupDrain_groups (g : Group) : (s.handGroupDrain g).groups = s.groups := rfl
@[simp] theorem handGroupDrain_sweep (g : Group) : (s.handGroupDrain g).sweep = s.sweep := rfl
@[simp] theorem handGroupDrain_walker (g : Group) : (s.handGroupDrain g).walker = s.walker := rfl
@[simp] theorem handGroupDrain_hosts (g : Group) : (s.handGroupDrain g).hosts = s.hosts := rfl
@[simp] theorem handGroupDrain_engine (g : Group) : (s.handGroupDrain g).engine = s.engine := rfl
@[simp] theorem handGroupDrain_params (g : Group) : (s.handGroupDrain g).params = s.params := rfl
@[simp] theorem handGroupDrain_straps (g : Group) : (s.handGroupDrain g).straps = s.straps := rfl
@[simp] theorem handGroupDrain_time (g : Group) : (s.handGroupDrain g).time = s.time := rfl
@[simp] theorem handGroupDrain_exch (g : Group) : (s.handGroupDrain g).exch = s.exch := rfl
@[simp] theorem handGroupDrain_handed (g : Group) :
    (s.handGroupDrain g).handed = { s.handed with groupDrains := s.handed.groupDrains ++ [g] } := rfl
@[simp] theorem handGroupDrain_pending (g : Group) : (s.handGroupDrain g).pending = s.pending := rfl

end Sys2Proof.Machine.State
end

