-- ==== Sys2Proof/Laws/Frames.lean ====
section
/-! SUPPORT. The frame of every shared operation: the fields of the state that it leaves as they are. -/

namespace Sys2Proof.Machine.State

variable (s : State)

/-! ## The route store and the sweep queue -/

@[simp] theorem joinQueue_frame (c : Circuit) :
    (s.joinQueue c).routes = s.routes ∧ (s.joinQueue c).occ = s.occ ∧
    (s.joinQueue c).used = s.used ∧ (s.joinQueue c).descs = s.descs ∧
    (s.joinQueue c).trunks = s.trunks ∧ (s.joinQueue c).rx = s.rx ∧ (s.joinQueue c).ctl = s.ctl ∧
    (s.joinQueue c).ports = s.ports ∧ (s.joinQueue c).checker = s.checker ∧
    (s.joinQueue c).groups = s.groups ∧ (s.joinQueue c).walker = s.walker ∧
    (s.joinQueue c).hosts = s.hosts ∧ (s.joinQueue c).engine = s.engine ∧
    (s.joinQueue c).params = s.params ∧ (s.joinQueue c).straps = s.straps ∧
    (s.joinQueue c).time = s.time ∧ (s.joinQueue c).exch = s.exch ∧
    (s.joinQueue c).handed = s.handed ∧ (s.joinQueue c).pending = s.pending := by
  simp [joinQueue]

@[simp] theorem leaveQueue_frame (c : Circuit) :
    (s.leaveQueue c).routes = s.routes ∧ (s.leaveQueue c).occ = s.occ ∧
    (s.leaveQueue c).used = s.used ∧ (s.leaveQueue c).descs = s.descs ∧
    (s.leaveQueue c).trunks = s.trunks ∧ (s.leaveQueue c).rx = s.rx ∧ (s.leaveQueue c).ctl = s.ctl ∧
    (s.leaveQueue c).ports = s.ports ∧ (s.leaveQueue c).checker = s.checker ∧
    (s.leaveQueue c).groups = s.groups ∧ (s.leaveQueue c).walker = s.walker ∧
    (s.leaveQueue c).hosts = s.hosts ∧ (s.leaveQueue c).engine = s.engine ∧
    (s.leaveQueue c).params = s.params ∧ (s.leaveQueue c).straps = s.straps ∧
    (s.leaveQueue c).time = s.time ∧ (s.leaveQueue c).exch = s.exch ∧
    (s.leaveQueue c).handed = s.handed ∧ (s.leaveQueue c).pending = s.pending := by
  simp [leaveQueue]

@[simp] theorem joinStranded_frame (c : Circuit) :
    (s.joinStranded c).routes = s.routes ∧ (s.joinStranded c).occ = s.occ ∧
    (s.joinStranded c).used = s.used ∧ (s.joinStranded c).descs = s.descs ∧
    (s.joinStranded c).trunks = s.trunks ∧ (s.joinStranded c).rx = s.rx ∧
    (s.joinStranded c).ctl = s.ctl ∧ (s.joinStranded c).ports = s.ports ∧
    (s.joinStranded c).checker = s.checker ∧ (s.joinStranded c).groups = s.groups ∧
    (s.joinStranded c).walker = s.walker ∧ (s.joinStranded c).hosts = s.hosts ∧
    (s.joinStranded c).engine = s.engine ∧ (s.joinStranded c).params = s.params ∧
    (s.joinStranded c).straps = s.straps ∧ (s.joinStranded c).time = s.time ∧
    (s.joinStranded c).exch = s.exch ∧ (s.joinStranded c).handed = s.handed ∧
    (s.joinStranded c).pending = s.pending := by
  simp [joinStranded]

@[simp] theorem leaveStranded_frame (c : Circuit) :
    (s.leaveStranded c).routes = s.routes ∧ (s.leaveStranded c).occ = s.occ ∧
    (s.leaveStranded c).used = s.used ∧ (s.leaveStranded c).descs = s.descs ∧
    (s.leaveStranded c).trunks = s.trunks ∧ (s.leaveStranded c).rx = s.rx ∧
    (s.leaveStranded c).ctl = s.ctl ∧ (s.leaveStranded c).ports = s.ports ∧
    (s.leaveStranded c).checker = s.checker ∧ (s.leaveStranded c).groups = s.groups ∧
    (s.leaveStranded c).walker = s.walker ∧ (s.leaveStranded c).hosts = s.hosts ∧
    (s.leaveStranded c).engine = s.engine ∧ (s.leaveStranded c).params = s.params ∧
    (s.leaveStranded c).straps = s.straps ∧ (s.leaveStranded c).time = s.time ∧
    (s.leaveStranded c).exch = s.exch ∧ (s.leaveStranded c).handed = s.handed ∧
    (s.leaveStranded c).pending = s.pending := by
  simp [leaveStranded]

@[simp] theorem settleSweep_frame :
    s.settleSweep.routes = s.routes ∧ s.settleSweep.occ = s.occ ∧ s.settleSweep.used = s.used ∧
    s.settleSweep.descs = s.descs ∧ s.settleSweep.trunks = s.trunks ∧ s.settleSweep.rx = s.rx ∧
    s.settleSweep.ctl = s.ctl ∧ s.settleSweep.ports = s.ports ∧ s.settleSweep.checker = s.checker ∧
    s.settleSweep.groups = s.groups ∧ s.settleSweep.walker = s.walker ∧
    s.settleSweep.hosts = s.hosts ∧ s.settleSweep.engine = s.engine ∧
    s.settleSweep.params = s.params ∧ s.settleSweep.straps = s.straps ∧
    s.settleSweep.time = s.time ∧ s.settleSweep.exch = s.exch ∧ s.settleSweep.pending = s.pending := by
  unfold settleSweep
  (repeat' split) <;> simp

@[simp] theorem capacityEvent_frame :
    s.capacityEvent.occ = s.occ ∧ s.capacityEvent.used = s.used ∧ s.capacityEvent.descs = s.descs ∧
    s.capacityEvent.trunks = s.trunks ∧ s.capacityEvent.rx = s.rx ∧ s.capacityEvent.ctl = s.ctl ∧
    s.capacityEvent.ports = s.ports ∧ s.capacityEvent.checker = s.checker ∧
    s.capacityEvent.groups = s.groups ∧ s.capacityEvent.walker = s.walker ∧
    s.capacityEvent.hosts = s.hosts ∧ s.capacityEvent.engine = s.engine ∧
    s.capacityEvent.params = s.params ∧ s.capacityEvent.straps = s.straps ∧
    s.capacityEvent.time = s.time ∧ s.capacityEvent.exch = s.exch ∧
    s.capacityEvent.handed = s.handed ∧ s.capacityEvent.pending = s.pending := by
  simp [capacityEvent]

@[simp] theorem capacityIf_frame (b : Bool) :
    (s.capacityIf b).occ = s.occ ∧ (s.capacityIf b).used = s.used ∧
    (s.capacityIf b).descs = s.descs ∧ (s.capacityIf b).trunks = s.trunks ∧
    (s.capacityIf b).rx = s.rx ∧ (s.capacityIf b).ctl = s.ctl ∧ (s.capacityIf b).ports = s.ports ∧
    (s.capacityIf b).checker = s.checker ∧ (s.capacityIf b).groups = s.groups ∧
    (s.capacityIf b).walker = s.walker ∧ (s.capacityIf b).hosts = s.hosts ∧
    (s.capacityIf b).engine = s.engine ∧ (s.capacityIf b).params = s.params ∧
    (s.capacityIf b).straps = s.straps ∧ (s.capacityIf b).time = s.time ∧
    (s.capacityIf b).exch = s.exch ∧ (s.capacityIf b).handed = s.handed ∧
    (s.capacityIf b).pending = s.pending := by
  unfold capacityIf
  split <;> simp

@[simp] theorem reviewWhere_frame (f : CurrentSet → Bool) :
    (s.reviewWhere f).routes = s.routes ∧ (s.reviewWhere f).occ = s.occ ∧
    (s.reviewWhere f).used = s.used ∧ (s.reviewWhere f).descs = s.descs ∧
    (s.reviewWhere f).trunks = s.trunks ∧ (s.reviewWhere f).rx = s.rx ∧
    (s.reviewWhere f).ctl = s.ctl ∧ (s.reviewWhere f).ports = s.ports ∧
    (s.reviewWhere f).checker = s.checker ∧ (s.reviewWhere f).groups = s.groups ∧
    (s.reviewWhere f).walker = s.walker ∧ (s.reviewWhere f).hosts = s.hosts ∧
    (s.reviewWhere f).engine = s.engine ∧ (s.reviewWhere f).params = s.params ∧
    (s.reviewWhere f).straps = s.straps ∧ (s.reviewWhere f).time = s.time ∧
    (s.reviewWhere f).exch = s.exch ∧ (s.reviewWhere f).pending = s.pending := by
  simp [reviewWhere]

@[simp] theorem writeInService_frame (c : Circuit) (f : RouteFields) :
    (s.writeInService c f).descs = s.descs ∧ (s.writeInService c f).trunks = s.trunks ∧
    (s.writeInService c f).rx = s.rx ∧ (s.writeInService c f).ctl = s.ctl ∧
    (s.writeInService c f).ports = s.ports ∧ (s.writeInService c f).checker = s.checker ∧
    (s.writeInService c f).groups = s.groups ∧ (s.writeInService c f).walker = s.walker ∧
    (s.writeInService c f).hosts = s.hosts ∧ (s.writeInService c f).engine = s.engine ∧
    (s.writeInService c f).params = s.params ∧ (s.writeInService c f).straps = s.straps ∧
    (s.writeInService c f).time = s.time ∧ (s.writeInService c f).exch = s.exch ∧
    (s.writeInService c f).pending = s.pending := by
  unfold writeInService
  dsimp only
  split <;> simp

@[simp] theorem releaseAll_frame (l : List PathSlot) :
    (s.releaseAll l).routes = s.routes ∧ (s.releaseAll l).descs = s.descs ∧
    (s.releaseAll l).trunks = s.trunks ∧ (s.releaseAll l).rx = s.rx ∧ (s.releaseAll l).ctl = s.ctl ∧
    (s.releaseAll l).ports = s.ports ∧ (s.releaseAll l).checker = s.checker ∧
    (s.releaseAll l).groups = s.groups ∧ (s.releaseAll l).sweep = s.sweep ∧
    (s.releaseAll l).walker = s.walker ∧ (s.releaseAll l).hosts = s.hosts ∧
    (s.releaseAll l).engine = s.engine ∧ (s.releaseAll l).params = s.params ∧
    (s.releaseAll l).straps = s.straps ∧ (s.releaseAll l).time = s.time ∧
    (s.releaseAll l).exch = s.exch ∧ (s.releaseAll l).handed = s.handed ∧
    (s.releaseAll l).pending = s.pending := by
  unfold releaseAll
  induction l generalizing s with
  | nil => simp
  | cons q l ih => simpa using ih (s.releaseSlot q)

@[simp] theorem writeOutOfService_frame (c : Circuit) (f : RouteFields) (x : Standing) (n : Nat) :
    (s.writeOutOfService c f x n).descs = s.descs ∧
    (s.writeOutOfService c f x n).trunks = s.trunks ∧ (s.writeOutOfService c f x n).rx = s.rx ∧
    (s.writeOutOfService c f x n).ctl = s.ctl ∧ (s.writeOutOfService c f x n).ports = s.ports ∧
    (s.writeOutOfService c f x n).checker = s.checker ∧
    (s.writeOutOfService c f x n).groups = s.groups ∧
    (s.writeOutOfService c f x n).walker = s.walker ∧
    (s.writeOutOfService c f x n).hosts = s.hosts ∧
    (s.writeOutOfService c f x n).engine = s.engine ∧
    (s.writeOutOfService c f x n).params = s.params ∧
    (s.writeOutOfService c f x n).straps = s.straps ∧ (s.writeOutOfService c f x n).time = s.time ∧
    (s.writeOutOfService c f x n).exch = s.exch ∧ (s.writeOutOfService c f x n).pending = s.pending := by
  simp [writeOutOfService]

@[simp] theorem writeEntry_frame (c : Circuit) (v : Service) (f : RouteFields) :
    (s.writeEntry c v f).descs = s.descs ∧ (s.writeEntry c v f).trunks = s.trunks ∧
    (s.writeEntry c v f).rx = s.rx ∧ (s.writeEntry c v f).ctl = s.ctl ∧
    (s.writeEntry c v f).ports = s.ports ∧ (s.writeEntry c v f).checker = s.checker ∧
    (s.writeEntry c v f).groups = s.groups ∧ (s.writeEntry c v f).walker = s.walker ∧
    (s.writeEntry c v f).hosts = s.hosts ∧ (s.writeEntry c v f).engine = s.engine ∧
    (s.writeEntry c v f).params = s.params ∧ (s.writeEntry c v f).straps = s.straps ∧
    (s.writeEntry c v f).time = s.time ∧ (s.writeEntry c v f).exch = s.exch ∧
    (s.writeEntry c v f).pending = s.pending := by
  unfold writeEntry
  split <;> simp

@[simp] theorem cutover_frame (c : Circuit) (x : CurrentSet) (m : StagedSet) :
    (s.cutover c x m).descs = s.descs ∧ (s.cutover c x m).trunks = s.trunks ∧
    (s.cutover c x m).rx = s.rx ∧ (s.cutover c x m).ctl = s.ctl ∧
    (s.cutover c x m).ports = s.ports ∧ (s.cutover c x m).checker = s.checker ∧
    (s.cutover c x m).groups = s.groups ∧ (s.cutover c x m).walker = s.walker ∧
    (s.cutover c x m).hosts = s.hosts ∧ (s.cutover c x m).engine = s.engine ∧
    (s.cutover c x m).params = s.params ∧ (s.cutover c x m).straps = s.straps ∧
    (s.cutover c x m).time = s.time ∧ (s.cutover c x m).exch = s.exch ∧
    (s.cutover c x m).pending = s.pending := by
  simp [cutover]

@[simp] theorem portDeparture_frame (p : Port) :
    (s.portDeparture p).descs = s.descs ∧ (s.portDeparture p).trunks = s.trunks ∧
    (s.portDeparture p).rx = s.rx ∧ (s.portDeparture p).ctl = s.ctl ∧
    (s.portDeparture p).ports = s.ports ∧ (s.portDeparture p).checker = s.checker ∧
    (s.portDeparture p).groups = s.groups ∧ (s.portDeparture p).walker = s.walker ∧
    (s.portDeparture p).hosts = s.hosts ∧ (s.portDeparture p).engine = s.engine ∧
    (s.portDeparture p).params = s.params ∧ (s.portDeparture p).straps = s.straps ∧
    (s.portDeparture p).time = s.time ∧ (s.portDeparture p).exch = s.exch ∧
    (s.portDeparture p).pending = s.pending := by
  simp [portDeparture]

/-! ## The outcome of a resolution -/

@[simp] theorem raiseChainFault_frame (c : Circuit) (f : Option (FaultKind × Desc)) :
    (s.raiseChainFault c f).routes = s.routes ∧ (s.raiseChainFault c f).occ = s.occ ∧
    (s.raiseChainFault c f).used = s.used ∧ (s.raiseChainFault c f).descs = s.descs ∧
    (s.raiseChainFault c f).trunks = s.trunks ∧ (s.raiseChainFault c f).rx = s.rx ∧
    (s.raiseChainFault c f).ctl = s.ctl ∧ (s.raiseChainFault c f).ports = s.ports ∧
    (s.raiseChainFault c f).checker = s.checker ∧ (s.raiseChainFault c f).groups = s.groups ∧
    (s.raiseChainFault c f).sweep = s.sweep ∧ (s.raiseChainFault c f).walker = s.walker ∧
    (s.raiseChainFault c f).hosts = s.hosts ∧ (s.raiseChainFault c f).engine = s.engine ∧
    (s.raiseChainFault c f).params = s.params ∧ (s.raiseChainFault c f).straps = s.straps ∧
    (s.raiseChainFault c f).time = s.time ∧ (s.raiseChainFault c f).exch = s.exch ∧
    (s.raiseChainFault c f).pending = s.pending := by
  unfold raiseChainFault
  split <;> simp

@[simp] theorem place_frame (c : Circuit) (x : CurrentSet) :
    (s.place c x).descs = s.descs ∧ (s.place c x).trunks = s.trunks ∧ (s.place c x).rx = s.rx ∧
    (s.place c x).ctl = s.ctl ∧ (s.place c x).ports = s.ports ∧ (s.place c x).checker = s.checker ∧
    (s.place c x).groups = s.groups ∧ (s.place c x).sweep = s.sweep ∧
    (s.place c x).walker = s.walker ∧ (s.place c x).hosts = s.hosts ∧
    (s.place c x).engine = s.engine ∧ (s.place c x).params = s.params ∧
    (s.place c x).straps = s.straps ∧ (s.place c x).time = s.time ∧ (s.place c x).exch = s.exch ∧
    (s.place c x).handed = s.handed ∧ (s.place c x).pending = s.pending := by
  simp [place]

@[simp] theorem strand_frame (c : Circuit) (f : Option (FaultKind × Desc)) :
    (s.strand c f).occ = s.occ ∧ (s.strand c f).used = s.used ∧ (s.strand c f).descs = s.descs ∧
    (s.strand c f).trunks = s.trunks ∧ (s.strand c f).rx = s.rx ∧ (s.strand c f).ctl = s.ctl ∧
    (s.strand c f).ports = s.ports ∧ (s.strand c f).checker = s.checker ∧
    (s.strand c f).groups = s.groups ∧ (s.strand c f).walker = s.walker ∧
    (s.strand c f).hosts = s.hosts ∧ (s.strand c f).engine = s.engine ∧
    (s.strand c f).params = s.params ∧ (s.strand c f).straps = s.straps ∧
    (s.strand c f).time = s.time ∧ (s.strand c f).exch = s.exch ∧ (s.strand c f).pending = s.pending := by
  simp [strand]

@[simp] theorem movePrompt_frame (c : Circuit) (x y : CurrentSet) :
    (s.movePrompt c x y).descs = s.descs ∧ (s.movePrompt c x y).trunks = s.trunks ∧
    (s.movePrompt c x y).rx = s.rx ∧ (s.movePrompt c x y).ctl = s.ctl ∧
    (s.movePrompt c x y).ports = s.ports ∧ (s.movePrompt c x y).checker = s.checker ∧
    (s.movePrompt c x y).groups = s.groups ∧ (s.movePrompt c x y).walker = s.walker ∧
    (s.movePrompt c x y).hosts = s.hosts ∧ (s.movePrompt c x y).engine = s.engine ∧
    (s.movePrompt c x y).params = s.params ∧ (s.movePrompt c x y).straps = s.straps ∧
    (s.movePrompt c x y).time = s.time ∧ (s.movePrompt c x y).exch = s.exch ∧
    (s.movePrompt c x y).handed = s.handed ∧ (s.movePrompt c x y).pending = s.pending := by
  simp [movePrompt]

@[simp] theorem stage_frame (c : Circuit) (x y : CurrentSet) :
    (s.stage c x y).descs = s.descs ∧ (s.stage c x y).trunks = s.trunks ∧
    (s.stage c x y).rx = s.rx ∧ (s.stage c x y).ctl = s.ctl ∧ (s.stage c x y).ports = s.ports ∧
    (s.stage c x y).checker = s.checker ∧ (s.stage c x y).groups = s.groups ∧
    (s.stage c x y).sweep = s.sweep ∧ (s.stage c x y).walker = s.walker ∧
    (s.stage c x y).hosts = s.hosts ∧ (s.stage c x y).engine = s.engine ∧
    (s.stage c x y).params = s.params ∧ (s.stage c x y).straps = s.straps ∧
    (s.stage c x y).time = s.time ∧ (s.stage c x y).exch = s.exch ∧
    (s.stage c x y).handed = s.handed ∧ (s.stage c x y).pending = s.pending := by
  simp [stage]

@[simp] theorem stay_frame (c : Circuit) (x : CurrentSet) (b : Bool) :
    (s.stay c x b).occ = s.occ ∧ (s.stay c x b).used = s.used ∧ (s.stay c x b).descs = s.descs ∧
    (s.stay c x b).trunks = s.trunks ∧ (s.stay c x b).rx = s.rx ∧ (s.stay c x b).ctl = s.ctl ∧
    (s.stay c x b).ports = s.ports ∧ (s.stay c x b).checker = s.checker ∧
    (s.stay c x b).groups = s.groups ∧ (s.stay c x b).sweep = s.sweep ∧
    (s.stay c x b).walker = s.walker ∧ (s.stay c x b).hosts = s.hosts ∧
    (s.stay c x b).engine = s.engine ∧ (s.stay c x b).params = s.params ∧
    (s.stay c x b).straps = s.straps ∧ (s.stay c x b).time = s.time ∧ (s.stay c x b).exch = s.exch ∧
    (s.stay c x b).handed = s.handed ∧ (s.stay c x b).pending = s.pending := by
  simp [stay]

@[simp] theorem applyOutcome_frame (c : Circuit) (x : Resolved) :
    (s.applyOutcome c x).descs = s.descs ∧ (s.applyOutcome c x).trunks = s.trunks ∧
    (s.applyOutcome c x).rx = s.rx ∧ (s.applyOutcome c x).ctl = s.ctl ∧
    (s.applyOutcome c x).ports = s.ports ∧ (s.applyOutcome c x).checker = s.checker ∧
    (s.applyOutcome c x).groups = s.groups ∧ (s.applyOutcome c x).walker = s.walker ∧
    (s.applyOutcome c x).hosts = s.hosts ∧ (s.applyOutcome c x).engine = s.engine ∧
    (s.applyOutcome c x).params = s.params ∧ (s.applyOutcome c x).straps = s.straps ∧
    (s.applyOutcome c x).time = s.time ∧ (s.applyOutcome c x).exch = s.exch ∧
    (s.applyOutcome c x).pending = s.pending := by
  unfold applyOutcome
  (repeat' split) <;> simp

/-! ## The probe checker -/

@[simp] theorem takeProbe_frame :
    s.takeProbe.routes = s.routes ∧ s.takeProbe.occ = s.occ ∧ s.takeProbe.used = s.used ∧
    s.takeProbe.descs = s.descs ∧ s.takeProbe.trunks = s.trunks ∧ s.takeProbe.rx = s.rx ∧
    s.takeProbe.ctl = s.ctl ∧ s.takeProbe.groups = s.groups ∧ s.takeProbe.sweep = s.sweep ∧
    s.takeProbe.walker = s.walker ∧ s.takeProbe.hosts = s.hosts ∧ s.takeProbe.engine = s.engine ∧
    s.takeProbe.params = s.params ∧ s.takeProbe.straps = s.straps ∧ s.takeProbe.time = s.time ∧
    s.takeProbe.exch = s.exch ∧ s.takeProbe.handed = s.handed ∧ s.takeProbe.pending = s.pending := by
  unfold takeProbe
  (repeat' split) <;> simp

@[simp] theorem joinProbeQueue_frame (e : ProbeEntry) :
    (s.joinProbeQueue e).routes = s.routes ∧ (s.joinProbeQueue e).occ = s.occ ∧
    (s.joinProbeQueue e).used = s.used ∧ (s.joinProbeQueue e).descs = s.descs ∧
    (s.joinProbeQueue e).trunks = s.trunks ∧ (s.joinProbeQueue e).rx = s.rx ∧
    (s.joinProbeQueue e).ctl = s.ctl ∧ (s.joinProbeQueue e).groups = s.groups ∧
    (s.joinProbeQueue e).sweep = s.sweep ∧ (s.joinProbeQueue e).walker = s.walker ∧
    (s.joinProbeQueue e).hosts = s.hosts ∧ (s.joinProbeQueue e).engine = s.engine ∧
    (s.joinProbeQueue e).params = s.params ∧ (s.joinProbeQueue e).straps = s.straps ∧
    (s.joinProbeQueue e).time = s.time ∧ (s.joinProbeQueue e).exch = s.exch ∧
    (s.joinProbeQueue e).handed = s.handed ∧ (s.joinProbeQueue e).pending = s.pending := by
  simp [joinProbeQueue]

@[simp] theorem cancelProbe_frame (p : Port) :
    (s.cancelProbe p).routes = s.routes ∧ (s.cancelProbe p).occ = s.occ ∧
    (s.cancelProbe p).used = s.used ∧ (s.cancelProbe p).descs = s.descs ∧
    (s.cancelProbe p).trunks = s.trunks ∧ (s.cancelProbe p).rx = s.rx ∧
    (s.cancelProbe p).ctl = s.ctl ∧ (s.cancelProbe p).groups = s.groups ∧
    (s.cancelProbe p).sweep = s.sweep ∧ (s.cancelProbe p).walker = s.walker ∧
    (s.cancelProbe p).hosts = s.hosts ∧ (s.cancelProbe p).engine = s.engine ∧
    (s.cancelProbe p).params = s.params ∧ (s.cancelProbe p).straps = s.straps ∧
    (s.cancelProbe p).time = s.time ∧ (s.cancelProbe p).exch = s.exch ∧
    (s.cancelProbe p).handed = s.handed ∧ (s.cancelProbe p).pending = s.pending := by
  unfold cancelProbe
  split <;> simp

/-! ## The health monitor -/

@[simp] theorem setLatches_frame :
    s.setLatches.routes = s.routes ∧ s.setLatches.occ = s.occ ∧ s.setLatches.used = s.used ∧
    s.setLatches.descs = s.descs ∧ s.setLatches.trunks = s.trunks ∧ s.setLatches.rx = s.rx ∧
    s.setLatches.ctl = s.ctl ∧ s.setLatches.ports = s.ports ∧ s.setLatches.checker = s.checker ∧
    s.setLatches.groups = s.groups ∧ s.setLatches.sweep = s.sweep ∧ s.setLatches.walker = s.walker ∧
    s.setLatches.engine = s.engine ∧ s.setLatches.params = s.params ∧
    s.setLatches.straps = s.straps ∧ s.setLatches.time = s.time ∧ s.setLatches.exch = s.exch ∧
    s.setLatches.handed = s.handed ∧ s.setLatches.pending = s.pending := by
  simp [setLatches]

@[simp] theorem latchIfLost_frame :
    s.latchIfLost.routes = s.routes ∧ s.latchIfLost.occ = s.occ ∧ s.latchIfLost.used = s.used ∧
    s.latchIfLost.descs = s.descs ∧ s.latchIfLost.trunks = s.trunks ∧ s.latchIfLost.rx = s.rx ∧
    s.latchIfLost.ctl = s.ctl ∧ s.latchIfLost.ports = s.ports ∧ s.latchIfLost.checker = s.checker ∧
    s.latchIfLost.groups = s.groups ∧ s.latchIfLost.sweep = s.sweep ∧
    s.latchIfLost.walker = s.walker ∧ s.latchIfLost.engine = s.engine ∧
    s.latchIfLost.params = s.params ∧ s.latchIfLost.straps = s.straps ∧
    s.latchIfLost.time = s.time ∧ s.latchIfLost.exch = s.exch ∧ s.latchIfLost.handed = s.handed ∧
    s.latchIfLost.pending = s.pending := by
  unfold latchIfLost
  split <;> simp

@[simp] theorem leaveService_frame (p : Port) (x : PortState) :
    (s.leaveService p x).descs = s.descs ∧ (s.leaveService p x).trunks = s.trunks ∧
    (s.leaveService p x).rx = s.rx ∧ (s.leaveService p x).ctl = s.ctl ∧
    (s.leaveService p x).groups = s.groups ∧ (s.leaveService p x).walker = s.walker ∧
    (s.leaveService p x).engine = s.engine ∧ (s.leaveService p x).params = s.params ∧
    (s.leaveService p x).straps = s.straps ∧ (s.leaveService p x).time = s.time ∧
    (s.leaveService p x).exch = s.exch ∧ (s.leaveService p x).pending = s.pending := by
  unfold leaveService
  split <;> simp

@[simp] theorem enterSuspect_frame (p : Port) :
    (s.enterSuspect p).routes = s.routes ∧ (s.enterSuspect p).occ = s.occ ∧
    (s.enterSuspect p).used = s.used ∧ (s.enterSuspect p).descs = s.descs ∧
    (s.enterSuspect p).trunks = s.trunks ∧ (s.enterSuspect p).rx = s.rx ∧
    (s.enterSuspect p).ctl = s.ctl ∧ (s.enterSuspect p).checker = s.checker ∧
    (s.enterSuspect p).groups = s.groups ∧ (s.enterSuspect p).sweep = s.sweep ∧
    (s.enterSuspect p).walker = s.walker ∧ (s.enterSuspect p).hosts = s.hosts ∧
    (s.enterSuspect p).engine = s.engine ∧ (s.enterSuspect p).params = s.params ∧
    (s.enterSuspect p).straps = s.straps ∧ (s.enterSuspect p).time = s.time ∧
    (s.enterSuspect p).exch = s.exch ∧ (s.enterSuspect p).pending = s.pending := by
  unfold enterSuspect
  split <;> simp

@[simp] theorem enterUp_frame (p : Port) :
    (s.enterUp p).occ = s.occ ∧ (s.enterUp p).used = s.used ∧ (s.enterUp p).descs = s.descs ∧
    (s.enterUp p).trunks = s.trunks ∧ (s.enterUp p).rx = s.rx ∧ (s.enterUp p).ctl = s.ctl ∧
    (s.enterUp p).checker = s.checker ∧ (s.enterUp p).groups = s.groups ∧
    (s.enterUp p).walker = s.walker ∧ (s.enterUp p).hosts = s.hosts ∧
    (s.enterUp p).engine = s.engine ∧ (s.enterUp p).params = s.params ∧
    (s.enterUp p).straps = s.straps ∧ (s.enterUp p).time = s.time ∧ (s.enterUp p).exch = s.exch ∧
    (s.enterUp p).pending = s.pending := by
  simp [enterUp]

@[simp] theorem setback_frame (p : Port) :
    (s.setback p).routes = s.routes ∧ (s.setback p).occ = s.occ ∧ (s.setback p).used = s.used ∧
    (s.setback p).descs = s.descs ∧ (s.setback p).trunks = s.trunks ∧ (s.setback p).rx = s.rx ∧
    (s.setback p).ctl = s.ctl ∧ (s.setback p).groups = s.groups ∧ (s.setback p).sweep = s.sweep ∧
    (s.setback p).walker = s.walker ∧ (s.setback p).hosts = s.hosts ∧
    (s.setback p).engine = s.engine ∧ (s.setback p).params = s.params ∧
    (s.setback p).straps = s.straps ∧ (s.setback p).time = s.time ∧ (s.setback p).exch = s.exch ∧
    (s.setback p).handed = s.handed ∧ (s.setback p).pending = s.pending := by
  simp [setback]

@[simp] theorem compareScore_frame (p : Port) :
    (s.compareScore p).descs = s.descs ∧ (s.compareScore p).trunks = s.trunks ∧
    (s.compareScore p).rx = s.rx ∧ (s.compareScore p).ctl = s.ctl ∧
    (s.compareScore p).groups = s.groups ∧ (s.compareScore p).walker = s.walker ∧
    (s.compareScore p).engine = s.engine ∧ (s.compareScore p).params = s.params ∧
    (s.compareScore p).straps = s.straps ∧ (s.compareScore p).time = s.time ∧
    (s.compareScore p).exch = s.exch ∧ (s.compareScore p).pending = s.pending := by
  unfold compareScore
  dsimp only
  (repeat' split) <;> simp

@[simp] theorem addScore_frame (p : Port) (n : Nat) :
    (s.addScore p n).routes = s.routes ∧ (s.addScore p n).occ = s.occ ∧
    (s.addScore p n).used = s.used ∧ (s.addScore p n).descs = s.descs ∧
    (s.addScore p n).trunks = s.trunks ∧ (s.addScore p n).rx = s.rx ∧ (s.addScore p n).ctl = s.ctl ∧
    (s.addScore p n).checker = s.checker ∧ (s.addScore p n).groups = s.groups ∧
    (s.addScore p n).sweep = s.sweep ∧ (s.addScore p n).walker = s.walker ∧
    (s.addScore p n).hosts = s.hosts ∧ (s.addScore p n).engine = s.engine ∧
    (s.addScore p n).params = s.params ∧ (s.addScore p n).straps = s.straps ∧
    (s.addScore p n).time = s.time ∧ (s.addScore p n).exch = s.exch ∧
    (s.addScore p n).handed = s.handed ∧ (s.addScore p n).pending = s.pending := by
  simp [addScore]

@[simp] theorem countEvent_frame (p : Port) (e : LineEvent) :
    (s.countEvent p e).routes = s.routes ∧ (s.countEvent p e).occ = s.occ ∧
    (s.countEvent p e).used = s.used ∧ (s.countEvent p e).descs = s.descs ∧
    (s.countEvent p e).trunks = s.trunks ∧ (s.countEvent p e).rx = s.rx ∧
    (s.countEvent p e).ctl = s.ctl ∧ (s.countEvent p e).checker = s.checker ∧
    (s.countEvent p e).groups = s.groups ∧ (s.countEvent p e).sweep = s.sweep ∧
    (s.countEvent p e).walker = s.walker ∧ (s.countEvent p e).hosts = s.hosts ∧
    (s.countEvent p e).engine = s.engine ∧ (s.countEvent p e).params = s.params ∧
    (s.countEvent p e).straps = s.straps ∧ (s.countEvent p e).time = s.time ∧
    (s.countEvent p e).exch = s.exch ∧ (s.countEvent p e).handed = s.handed ∧
    (s.countEvent p e).pending = s.pending := by
  simp [countEvent]

@[simp] theorem lineEvent_frame (p : Port) (e : LineEvent) :
    (s.lineEvent p e).descs = s.descs ∧ (s.lineEvent p e).trunks = s.trunks ∧
    (s.lineEvent p e).rx = s.rx ∧ (s.lineEvent p e).ctl = s.ctl ∧
    (s.lineEvent p e).groups = s.groups ∧ (s.lineEvent p e).walker = s.walker ∧
    (s.lineEvent p e).engine = s.engine ∧ (s.lineEvent p e).params = s.params ∧
    (s.lineEvent p e).straps = s.straps ∧ (s.lineEvent p e).time = s.time ∧
    (s.lineEvent p e).exch = s.exch ∧ (s.lineEvent p e).pending = s.pending := by
  simp [lineEvent]

@[simp] theorem losOnsetHealth_frame (p : Port) :
    (s.losOnsetHealth p).descs = s.descs ∧ (s.losOnsetHealth p).trunks = s.trunks ∧
    (s.losOnsetHealth p).rx = s.rx ∧ (s.losOnsetHealth p).ctl = s.ctl ∧
    (s.losOnsetHealth p).groups = s.groups ∧ (s.losOnsetHealth p).walker = s.walker ∧
    (s.losOnsetHealth p).engine = s.engine ∧ (s.losOnsetHealth p).params = s.params ∧
    (s.losOnsetHealth p).straps = s.straps ∧ (s.losOnsetHealth p).time = s.time ∧
    (s.losOnsetHealth p).exch = s.exch ∧ (s.losOnsetHealth p).pending = s.pending := by
  unfold losOnsetHealth
  dsimp only
  split <;> simp

@[simp] theorem losEndHealth_frame (p : Port) :
    (s.losEndHealth p).routes = s.routes ∧ (s.losEndHealth p).occ = s.occ ∧
    (s.losEndHealth p).used = s.used ∧ (s.losEndHealth p).descs = s.descs ∧
    (s.losEndHealth p).trunks = s.trunks ∧ (s.losEndHealth p).rx = s.rx ∧
    (s.losEndHealth p).ctl = s.ctl ∧ (s.losEndHealth p).checker = s.checker ∧
    (s.losEndHealth p).groups = s.groups ∧ (s.losEndHealth p).sweep = s.sweep ∧
    (s.losEndHealth p).walker = s.walker ∧ (s.losEndHealth p).hosts = s.hosts ∧
    (s.losEndHealth p).engine = s.engine ∧ (s.losEndHealth p).params = s.params ∧
    (s.losEndHealth p).straps = s.straps ∧ (s.losEndHealth p).time = s.time ∧
    (s.losEndHealth p).exch = s.exch ∧ (s.losEndHealth p).handed = s.handed ∧
    (s.losEndHealth p).pending = s.pending := by
  simp [losEndHealth]

@[simp] theorem setVerdict_frame (p : Port) (b : Bool) (v : Verdict) (q : Nat) :
    (s.setVerdict p b v q).routes = s.routes ∧ (s.setVerdict p b v q).occ = s.occ ∧
    (s.setVerdict p b v q).used = s.used ∧ (s.setVerdict p b v q).descs = s.descs ∧
    (s.setVerdict p b v q).trunks = s.trunks ∧ (s.setVerdict p b v q).rx = s.rx ∧
    (s.setVerdict p b v q).ctl = s.ctl ∧ (s.setVerdict p b v q).checker = s.checker ∧
    (s.setVerdict p b v q).groups = s.groups ∧ (s.setVerdict p b v q).sweep = s.sweep ∧
    (s.setVerdict p b v q).walker = s.walker ∧ (s.setVerdict p b v q).hosts = s.hosts ∧
    (s.setVerdict p b v q).engine = s.engine ∧ (s.setVerdict p b v q).params = s.params ∧
    (s.setVerdict p b v q).straps = s.straps ∧ (s.setVerdict p b v q).time = s.time ∧
    (s.setVerdict p b v q).exch = s.exch ∧ (s.setVerdict p b v q).handed = s.handed ∧
    (s.setVerdict p b v q).pending = s.pending := by
  simp [setVerdict]

@[simp] theorem compareVerdict_frame (p : Port) (b : Bool) (v : Verdict) (o : Bool) :
    (s.compareVerdict p b v o).routes = s.routes ∧ (s.compareVerdict p b v o).occ = s.occ ∧
    (s.compareVerdict p b v o).used = s.used ∧ (s.compareVerdict p b v o).descs = s.descs ∧
    (s.compareVerdict p b v o).trunks = s.trunks ∧ (s.compareVerdict p b v o).rx = s.rx ∧
    (s.compareVerdict p b v o).ctl = s.ctl ∧ (s.compareVerdict p b v o).checker = s.checker ∧
    (s.compareVerdict p b v o).groups = s.groups ∧ (s.compareVerdict p b v o).sweep = s.sweep ∧
    (s.compareVerdict p b v o).walker = s.walker ∧ (s.compareVerdict p b v o).hosts = s.hosts ∧
    (s.compareVerdict p b v o).engine = s.engine ∧ (s.compareVerdict p b v o).params = s.params ∧
    (s.compareVerdict p b v o).straps = s.straps ∧ (s.compareVerdict p b v o).time = s.time ∧
    (s.compareVerdict p b v o).exch = s.exch ∧ (s.compareVerdict p b v o).pending = s.pending := by
  unfold compareVerdict
  dsimp only
  (repeat' split) <;> simp

@[simp] theorem loopEvent_frame (p : Port) (e : LineEvent) :
    (s.loopEvent p e).routes = s.routes ∧ (s.loopEvent p e).occ = s.occ ∧
    (s.loopEvent p e).used = s.used ∧ (s.loopEvent p e).descs = s.descs ∧
    (s.loopEvent p e).trunks = s.trunks ∧ (s.loopEvent p e).rx = s.rx ∧
    (s.loopEvent p e).ctl = s.ctl ∧ (s.loopEvent p e).checker = s.checker ∧
    (s.loopEvent p e).groups = s.groups ∧ (s.loopEvent p e).sweep = s.sweep ∧
    (s.loopEvent p e).walker = s.walker ∧ (s.loopEvent p e).hosts = s.hosts ∧
    (s.loopEvent p e).engine = s.engine ∧ (s.loopEvent p e).params = s.params ∧
    (s.loopEvent p e).straps = s.straps ∧ (s.loopEvent p e).time = s.time ∧
    (s.loopEvent p e).exch = s.exch ∧ (s.loopEvent p e).pending = s.pending := by
  unfold loopEvent
  (repeat' split) <;> simp

@[simp] theorem endQuiet_frame (p : Port) :
    (s.endQuiet p).occ = s.occ ∧ (s.endQuiet p).used = s.used ∧ (s.endQuiet p).descs = s.descs ∧
    (s.endQuiet p).trunks = s.trunks ∧ (s.endQuiet p).rx = s.rx ∧ (s.endQuiet p).ctl = s.ctl ∧
    (s.endQuiet p).groups = s.groups ∧ (s.endQuiet p).walker = s.walker ∧
    (s.endQuiet p).hosts = s.hosts ∧ (s.endQuiet p).engine = s.engine ∧
    (s.endQuiet p).params = s.params ∧ (s.endQuiet p).straps = s.straps ∧
    (s.endQuiet p).time = s.time ∧ (s.endQuiet p).exch = s.exch ∧ (s.endQuiet p).pending = s.pending := by
  unfold endQuiet
  split <;> simp

@[simp] theorem compareTick_frame (p : Port) :
    (s.compareTick p).descs = s.descs ∧ (s.compareTick p).trunks = s.trunks ∧
    (s.compareTick p).rx = s.rx ∧ (s.compareTick p).ctl = s.ctl ∧
    (s.compareTick p).groups = s.groups ∧ (s.compareTick p).walker = s.walker ∧
    (s.compareTick p).engine = s.engine ∧ (s.compareTick p).params = s.params ∧
    (s.compareTick p).straps = s.straps ∧ (s.compareTick p).time = s.time ∧
    (s.compareTick p).exch = s.exch ∧ (s.compareTick p).pending = s.pending := by
  unfold compareTick
  dsimp only
  (repeat' split) <;> simp

@[simp] theorem decayPort_frame (p : Port) :
    (s.decayPort p).descs = s.descs ∧ (s.decayPort p).trunks = s.trunks ∧
    (s.decayPort p).rx = s.rx ∧ (s.decayPort p).ctl = s.ctl ∧ (s.decayPort p).groups = s.groups ∧
    (s.decayPort p).walker = s.walker ∧ (s.decayPort p).engine = s.engine ∧
    (s.decayPort p).params = s.params ∧ (s.decayPort p).straps = s.straps ∧
    (s.decayPort p).time = s.time ∧ (s.decayPort p).exch = s.exch ∧
    (s.decayPort p).pending = s.pending := by
  simp [decayPort]

@[simp] theorem actOnVerdict_frame (e : ProbeEntry) (b : Bool) :
    (s.actOnVerdict e b).descs = s.descs ∧ (s.actOnVerdict e b).trunks = s.trunks ∧
    (s.actOnVerdict e b).rx = s.rx ∧ (s.actOnVerdict e b).ctl = s.ctl ∧
    (s.actOnVerdict e b).groups = s.groups ∧ (s.actOnVerdict e b).walker = s.walker ∧
    (s.actOnVerdict e b).engine = s.engine ∧ (s.actOnVerdict e b).params = s.params ∧
    (s.actOnVerdict e b).straps = s.straps ∧ (s.actOnVerdict e b).time = s.time ∧
    (s.actOnVerdict e b).exch = s.exch ∧ (s.actOnVerdict e b).pending = s.pending := by
  unfold actOnVerdict
  (repeat' split) <;> simp

@[simp] theorem finishProbe_frame (e : ProbeEntry) :
    (s.finishProbe e).descs = s.descs ∧ (s.finishProbe e).trunks = s.trunks ∧
    (s.finishProbe e).rx = s.rx ∧ (s.finishProbe e).ctl = s.ctl ∧ (s.finishProbe e).groups = s.groups ∧
    (s.finishProbe e).walker = s.walker ∧ (s.finishProbe e).engine = s.engine ∧
    (s.finishProbe e).params = s.params ∧ (s.finishProbe e).straps = s.straps ∧
    (s.finishProbe e).time = s.time ∧ (s.finishProbe e).exch = s.exch ∧
    (s.finishProbe e).pending = s.pending := by
  simp [finishProbe]

@[simp] theorem countOctet_frame (e : ProbeEntry) :
    (s.countOctet e).descs = s.descs ∧ (s.countOctet e).trunks = s.trunks ∧ (s.countOctet e).rx = s.rx ∧
    (s.countOctet e).ctl = s.ctl ∧ (s.countOctet e).groups = s.groups ∧
    (s.countOctet e).walker = s.walker ∧ (s.countOctet e).engine = s.engine ∧
    (s.countOctet e).params = s.params ∧ (s.countOctet e).straps = s.straps ∧
    (s.countOctet e).time = s.time ∧ (s.countOctet e).exch = s.exch ∧
    (s.countOctet e).pending = s.pending := by
  unfold countOctet
  dsimp only
  split <;> simp

@[simp] theorem stepChecker_frame :
    s.stepChecker.descs = s.descs ∧ s.stepChecker.trunks = s.trunks ∧ s.stepChecker.rx = s.rx ∧
    s.stepChecker.ctl = s.ctl ∧ s.stepChecker.groups = s.groups ∧ s.stepChecker.walker = s.walker ∧
    s.stepChecker.engine = s.engine ∧ s.stepChecker.params = s.params ∧
    s.stepChecker.straps = s.straps ∧ s.stepChecker.time = s.time ∧ s.stepChecker.exch = s.exch ∧
    s.stepChecker.pending = s.pending := by
  unfold stepChecker
  dsimp only
  split <;> simp

/-! ## The control slot -/

@[simp] theorem endServing_frame (p : Port) :
    (s.endServing p).routes = s.routes ∧ (s.endServing p).occ = s.occ ∧
    (s.endServing p).used = s.used ∧ (s.endServing p).descs = s.descs ∧
    (s.endServing p).trunks = s.trunks ∧ (s.endServing p).rx = s.rx ∧
    (s.endServing p).ports = s.ports ∧ (s.endServing p).checker = s.checker ∧
    (s.endServing p).groups = s.groups ∧ (s.endServing p).sweep = s.sweep ∧
    (s.endServing p).walker = s.walker ∧ (s.endServing p).hosts = s.hosts ∧
    (s.endServing p).params = s.params ∧ (s.endServing p).straps = s.straps ∧
    (s.endServing p).time = s.time ∧ (s.endServing p).exch = s.exch ∧
    (s.endServing p).handed = s.handed ∧ (s.endServing p).pending = s.pending := by
  simp [endServing]

@[simp] theorem controlOctet_frame (p : Port) (o : Octet) :
    (s.controlOctet p o).routes = s.routes ∧ (s.controlOctet p o).occ = s.occ ∧
    (s.controlOctet p o).used = s.used ∧ (s.controlOctet p o).descs = s.descs ∧
    (s.controlOctet p o).trunks = s.trunks ∧ (s.controlOctet p o).rx = s.rx ∧
    (s.controlOctet p o).ports = s.ports ∧ (s.controlOctet p o).checker = s.checker ∧
    (s.controlOctet p o).groups = s.groups ∧ (s.controlOctet p o).sweep = s.sweep ∧
    (s.controlOctet p o).walker = s.walker ∧ (s.controlOctet p o).hosts = s.hosts ∧
    (s.controlOctet p o).engine = s.engine ∧ (s.controlOctet p o).params = s.params ∧
    (s.controlOctet p o).straps = s.straps ∧ (s.controlOctet p o).time = s.time ∧
    (s.controlOctet p o).exch = s.exch ∧ (s.controlOctet p o).handed = s.handed ∧
    (s.controlOctet p o).pending = s.pending := by
  simp [controlOctet]

@[simp] theorem acceptRecord_frame (p : Port) (b : List Octet) :
    (s.acceptRecord p b).routes = s.routes ∧ (s.acceptRecord p b).occ = s.occ ∧
    (s.acceptRecord p b).used = s.used ∧ (s.acceptRecord p b).descs = s.descs ∧
    (s.acceptRecord p b).trunks = s.trunks ∧ (s.acceptRecord p b).rx = s.rx ∧
    (s.acceptRecord p b).checker = s.checker ∧ (s.acceptRecord p b).groups = s.groups ∧
    (s.acceptRecord p b).sweep = s.sweep ∧ (s.acceptRecord p b).walker = s.walker ∧
    (s.acceptRecord p b).hosts = s.hosts ∧ (s.acceptRecord p b).engine = s.engine ∧
    (s.acceptRecord p b).params = s.params ∧ (s.acceptRecord p b).straps = s.straps ∧
    (s.acceptRecord p b).time = s.time ∧ (s.acceptRecord p b).exch = s.exch ∧
    (s.acceptRecord p b).handed = s.handed ∧ (s.acceptRecord p b).pending = s.pending := by
  unfold acceptRecord
  dsimp only
  split <;> simp

@[simp] theorem endRecord_frame (p : Port) (e : RecordEnd) :
    (s.endRecord p e).descs = s.descs ∧ (s.endRecord p e).trunks = s.trunks ∧
    (s.endRecord p e).rx = s.rx ∧ (s.endRecord p e).groups = s.groups ∧
    (s.endRecord p e).walker = s.walker ∧ (s.endRecord p e).engine = s.engine ∧
    (s.endRecord p e).params = s.params ∧ (s.endRecord p e).straps = s.straps ∧
    (s.endRecord p e).time = s.time ∧ (s.endRecord p e).exch = s.exch ∧
    (s.endRecord p e).pending = s.pending := by
  unfold endRecord
  (repeat' split) <;> simp

@[simp] theorem takeEnded_frame (p : Port) :
    (s.takeEnded p).descs = s.descs ∧ (s.takeEnded p).trunks = s.trunks ∧ (s.takeEnded p).rx = s.rx ∧
    (s.takeEnded p).groups = s.groups ∧ (s.takeEnded p).walker = s.walker ∧
    (s.takeEnded p).engine = s.engine ∧ (s.takeEnded p).params = s.params ∧
    (s.takeEnded p).straps = s.straps ∧ (s.takeEnded p).time = s.time ∧ (s.takeEnded p).exch = s.exch ∧
    (s.takeEnded p).pending = s.pending := by
  unfold takeEnded
  split <;> simp

/-- What every CONTROL_RECORD of a port keeps, the taking of all its ended records keeps. -/
theorem takeAllEnded_keeps {α : Type} (f : State → α) (p : Port)
    (h : ∀ s : State, f (s.takeEnded p) = f s) : f (s.takeAllEnded p) = f s := by
  unfold takeAllEnded
  generalize (s.control p).ended = l
  induction l generalizing s with
  | nil => rfl
  | cons e l ih => rw [List.foldl_cons, ih, h]

@[simp] theorem takeAllEnded_frame (p : Port) :
    (s.takeAllEnded p).descs = s.descs ∧ (s.takeAllEnded p).trunks = s.trunks ∧
    (s.takeAllEnded p).rx = s.rx ∧ (s.takeAllEnded p).groups = s.groups ∧
    (s.takeAllEnded p).walker = s.walker ∧ (s.takeAllEnded p).engine = s.engine ∧
    (s.takeAllEnded p).params = s.params ∧ (s.takeAllEnded p).straps = s.straps ∧
    (s.takeAllEnded p).time = s.time ∧ (s.takeAllEnded p).exch = s.exch ∧
    (s.takeAllEnded p).pending = s.pending := by
  refine ⟨?_, ?_, ?_, ?_, ?_, ?_, ?_, ?_, ?_, ?_, ?_⟩ <;>
    exact takeAllEnded_keeps s _ p fun s => by simp

/-! ## The receivers -/

@[simp] theorem setStationLost_frame (t : Trunk) (b : Bool) :
    (s.setStationLost t b).occ = s.occ ∧ (s.setStationLost t b).used = s.used ∧
    (s.setStationLost t b).descs = s.descs ∧ (s.setStationLost t b).trunks = s.trunks ∧
    (s.setStationLost t b).rx = s.rx ∧ (s.setStationLost t b).ctl = s.ctl ∧
    (s.setStationLost t b).ports = s.ports ∧ (s.setStationLost t b).checker = s.checker ∧
    (s.setStationLost t b).groups = s.groups ∧ (s.setStationLost t b).sweep = s.sweep ∧
    (s.setStationLost t b).walker = s.walker ∧ (s.setStationLost t b).hosts = s.hosts ∧
    (s.setStationLost t b).engine = s.engine ∧ (s.setStationLost t b).params = s.params ∧
    (s.setStationLost t b).straps = s.straps ∧ (s.setStationLost t b).time = s.time ∧
    (s.setStationLost t b).exch = s.exch ∧ (s.setStationLost t b).handed = s.handed ∧
    (s.setStationLost t b).pending = s.pending := by
  simp [setStationLost]

@[simp] theorem markBlockEnd_frame (c : Circuit) (o : Octet) :
    (s.markBlockEnd c o).occ = s.occ ∧ (s.markBlockEnd c o).used = s.used ∧
    (s.markBlockEnd c o).descs = s.descs ∧ (s.markBlockEnd c o).trunks = s.trunks ∧
    (s.markBlockEnd c o).rx = s.rx ∧ (s.markBlockEnd c o).ctl = s.ctl ∧
    (s.markBlockEnd c o).ports = s.ports ∧ (s.markBlockEnd c o).checker = s.checker ∧
    (s.markBlockEnd c o).groups = s.groups ∧ (s.markBlockEnd c o).sweep = s.sweep ∧
    (s.markBlockEnd c o).walker = s.walker ∧ (s.markBlockEnd c o).hosts = s.hosts ∧
    (s.markBlockEnd c o).engine = s.engine ∧ (s.markBlockEnd c o).params = s.params ∧
    (s.markBlockEnd c o).straps = s.straps ∧ (s.markBlockEnd c o).time = s.time ∧
    (s.markBlockEnd c o).exch = s.exch ∧ (s.markBlockEnd c o).handed = s.handed ∧
    (s.markBlockEnd c o).pending = s.pending := by
  unfold markBlockEnd
  (repeat' split) <;> simp

@[simp] theorem stationOctet_frame (c : Circuit) (o : Octet) :
    (s.stationOctet c o).occ = s.occ ∧ (s.stationOctet c o).used = s.used ∧
    (s.stationOctet c o).descs = s.descs ∧ (s.stationOctet c o).trunks = s.trunks ∧
    (s.stationOctet c o).rx = s.rx ∧ (s.stationOctet c o).ctl = s.ctl ∧
    (s.stationOctet c o).ports = s.ports ∧ (s.stationOctet c o).checker = s.checker ∧
    (s.stationOctet c o).groups = s.groups ∧ (s.stationOctet c o).sweep = s.sweep ∧
    (s.stationOctet c o).walker = s.walker ∧ (s.stationOctet c o).hosts = s.hosts ∧
    (s.stationOctet c o).engine = s.engine ∧ (s.stationOctet c o).params = s.params ∧
    (s.stationOctet c o).straps = s.straps ∧ (s.stationOctet c o).time = s.time ∧
    (s.stationOctet c o).handed = s.handed ∧ (s.stationOctet c o).pending = s.pending := by
  unfold stationOctet
  (repeat' split) <;> simp

@[simp] theorem trunkAlignment_frame (t : Trunk) (o : Octet) :
    (s.trunkAlignment t o).occ = s.occ ∧ (s.trunkAlignment t o).used = s.used ∧
    (s.trunkAlignment t o).descs = s.descs ∧ (s.trunkAlignment t o).rx = s.rx ∧
    (s.trunkAlignment t o).ctl = s.ctl ∧ (s.trunkAlignment t o).ports = s.ports ∧
    (s.trunkAlignment t o).checker = s.checker ∧ (s.trunkAlignment t o).groups = s.groups ∧
    (s.trunkAlignment t o).sweep = s.sweep ∧ (s.trunkAlignment t o).walker = s.walker ∧
    (s.trunkAlignment t o).hosts = s.hosts ∧ (s.trunkAlignment t o).engine = s.engine ∧
    (s.trunkAlignment t o).params = s.params ∧ (s.trunkAlignment t o).straps = s.straps ∧
    (s.trunkAlignment t o).time = s.time ∧ (s.trunkAlignment t o).exch = s.exch ∧
    (s.trunkAlignment t o).handed = s.handed ∧ (s.trunkAlignment t o).pending = s.pending := by
  unfold trunkAlignment
  dsimp only
  (repeat' split) <;> simp

@[simp] theorem trunkOctet_frame (t : Trunk) (o : Octet) :
    (s.trunkOctet t o).occ = s.occ ∧ (s.trunkOctet t o).used = s.used ∧
    (s.trunkOctet t o).descs = s.descs ∧ (s.trunkOctet t o).rx = s.rx ∧
    (s.trunkOctet t o).ctl = s.ctl ∧ (s.trunkOctet t o).ports = s.ports ∧
    (s.trunkOctet t o).checker = s.checker ∧ (s.trunkOctet t o).groups = s.groups ∧
    (s.trunkOctet t o).sweep = s.sweep ∧ (s.trunkOctet t o).walker = s.walker ∧
    (s.trunkOctet t o).hosts = s.hosts ∧ (s.trunkOctet t o).engine = s.engine ∧
    (s.trunkOctet t o).params = s.params ∧ (s.trunkOctet t o).straps = s.straps ∧
    (s.trunkOctet t o).time = s.time ∧ (s.trunkOctet t o).handed = s.handed ∧
    (s.trunkOctet t o).pending = s.pending := by
  unfold trunkOctet
  dsimp only
  (repeat' split) <;> simp

@[simp] theorem goodAlignment_frame (p : Port) (r : PathRx) (o : Octet) :
    (s.goodAlignment p r o).descs = s.descs ∧ (s.goodAlignment p r o).trunks = s.trunks ∧
    (s.goodAlignment p r o).groups = s.groups ∧
    (s.goodAlignment p r o).walker = s.walker ∧ (s.goodAlignment p r o).engine = s.engine ∧
    (s.goodAlignment p r o).params = s.params ∧ (s.goodAlignment p r o).straps = s.straps ∧
    (s.goodAlignment p r o).time = s.time ∧ (s.goodAlignment p r o).exch = s.exch ∧
    (s.goodAlignment p r o).pending = s.pending := by
  unfold goodAlignment
  (repeat' split) <;> simp

@[simp] theorem loseAlignment_frame (p : Port) (x : RxState) :
    (s.loseAlignment p x).descs = s.descs ∧ (s.loseAlignment p x).trunks = s.trunks ∧
    (s.loseAlignment p x).groups = s.groups ∧ (s.loseAlignment p x).walker = s.walker ∧
    (s.loseAlignment p x).params = s.params ∧ (s.loseAlignment p x).straps = s.straps ∧
    (s.loseAlignment p x).time = s.time ∧ (s.loseAlignment p x).exch = s.exch ∧
    (s.loseAlignment p x).pending = s.pending := by
  simp [loseAlignment]

@[simp] theorem pathAlignment_frame (p : Port) (o : Octet) :
    (s.pathAlignment p o).descs = s.descs ∧ (s.pathAlignment p o).trunks = s.trunks ∧
    (s.pathAlignment p o).groups = s.groups ∧ (s.pathAlignment p o).walker = s.walker ∧
    (s.pathAlignment p o).params = s.params ∧ (s.pathAlignment p o).straps = s.straps ∧
    (s.pathAlignment p o).time = s.time ∧ (s.pathAlignment p o).exch = s.exch ∧
    (s.pathAlignment p o).pending = s.pending := by
  unfold pathAlignment
  dsimp only
  (repeat' split) <;> simp

@[simp] theorem trafficOctet_frame (q : PathSlot) (o : Octet) :
    (s.trafficOctet q o).routes = s.routes ∧ (s.trafficOctet q o).occ = s.occ ∧
    (s.trafficOctet q o).used = s.used ∧ (s.trafficOctet q o).descs = s.descs ∧
    (s.trafficOctet q o).trunks = s.trunks ∧ (s.trafficOctet q o).rx = s.rx ∧
    (s.trafficOctet q o).ctl = s.ctl ∧ (s.trafficOctet q o).ports = s.ports ∧
    (s.trafficOctet q o).checker = s.checker ∧ (s.trafficOctet q o).groups = s.groups ∧
    (s.trafficOctet q o).sweep = s.sweep ∧ (s.trafficOctet q o).walker = s.walker ∧
    (s.trafficOctet q o).hosts = s.hosts ∧ (s.trafficOctet q o).engine = s.engine ∧
    (s.trafficOctet q o).params = s.params ∧ (s.trafficOctet q o).straps = s.straps ∧
    (s.trafficOctet q o).time = s.time ∧ (s.trafficOctet q o).handed = s.handed ∧
    (s.trafficOctet q o).pending = s.pending := by
  unfold trafficOctet
  split <;> simp

@[simp] theorem probeOctet_frame (p : Port) (o : Octet) :
    (s.probeOctet p o).routes = s.routes ∧ (s.probeOctet p o).occ = s.occ ∧
    (s.probeOctet p o).used = s.used ∧ (s.probeOctet p o).descs = s.descs ∧
    (s.probeOctet p o).trunks = s.trunks ∧ (s.probeOctet p o).rx = s.rx ∧
    (s.probeOctet p o).ctl = s.ctl ∧ (s.probeOctet p o).ports = s.ports ∧
    (s.probeOctet p o).groups = s.groups ∧ (s.probeOctet p o).sweep = s.sweep ∧
    (s.probeOctet p o).walker = s.walker ∧ (s.probeOctet p o).hosts = s.hosts ∧
    (s.probeOctet p o).engine = s.engine ∧ (s.probeOctet p o).params = s.params ∧
    (s.probeOctet p o).straps = s.straps ∧ (s.probeOctet p o).time = s.time ∧
    (s.probeOctet p o).exch = s.exch ∧ (s.probeOctet p o).handed = s.handed ∧
    (s.probeOctet p o).pending = s.pending := by
  unfold probeOctet
  split <;> simp

@[simp] theorem deliver_frame (p : Port) (n : Nat) (o : Octet) :
    (s.deliver p n o).routes = s.routes ∧ (s.deliver p n o).occ = s.occ ∧
    (s.deliver p n o).used = s.used ∧ (s.deliver p n o).descs = s.descs ∧
    (s.deliver p n o).trunks = s.trunks ∧ (s.deliver p n o).rx = s.rx ∧
    (s.deliver p n o).ports = s.ports ∧ (s.deliver p n o).groups = s.groups ∧
    (s.deliver p n o).sweep = s.sweep ∧ (s.deliver p n o).walker = s.walker ∧
    (s.deliver p n o).hosts = s.hosts ∧ (s.deliver p n o).engine = s.engine ∧
    (s.deliver p n o).params = s.params ∧ (s.deliver p n o).straps = s.straps ∧
    (s.deliver p n o).time = s.time ∧ (s.deliver p n o).handed = s.handed ∧
    (s.deliver p n o).pending = s.pending := by
  unfold deliver
  (repeat' split) <;> simp

@[simp] theorem pathOctet_frame (p : Port) (o : Octet) :
    (s.pathOctet p o).descs = s.descs ∧ (s.pathOctet p o).trunks = s.trunks ∧
    (s.pathOctet p o).groups = s.groups ∧ (s.pathOctet p o).walker = s.walker ∧
    (s.pathOctet p o).params = s.params ∧ (s.pathOctet p o).straps = s.straps ∧
    (s.pathOctet p o).time = s.time ∧ (s.pathOctet p o).pending = s.pending := by
  unfold pathOctet
  dsimp only
  (repeat' split) <;> simp

@[simp] theorem returnToLine_frame (p : Port) :
    (s.returnToLine p).routes = s.routes ∧ (s.returnToLine p).occ = s.occ ∧
    (s.returnToLine p).used = s.used ∧ (s.returnToLine p).descs = s.descs ∧
    (s.returnToLine p).trunks = s.trunks ∧ (s.returnToLine p).ctl = s.ctl ∧
    (s.returnToLine p).ports = s.ports ∧ (s.returnToLine p).checker = s.checker ∧
    (s.returnToLine p).groups = s.groups ∧ (s.returnToLine p).sweep = s.sweep ∧
    (s.returnToLine p).walker = s.walker ∧ (s.returnToLine p).hosts = s.hosts ∧
    (s.returnToLine p).engine = s.engine ∧ (s.returnToLine p).params = s.params ∧
    (s.returnToLine p).straps = s.straps ∧ (s.returnToLine p).time = s.time ∧
    (s.returnToLine p).exch = s.exch ∧ (s.returnToLine p).handed = s.handed ∧
    (s.returnToLine p).pending = s.pending := by
  simp [returnToLine]

@[simp] theorem enterLoop_frame (p : Port) (b : Bool) :
    (s.enterLoop p b).routes = s.routes ∧ (s.enterLoop p b).occ = s.occ ∧
    (s.enterLoop p b).used = s.used ∧ (s.enterLoop p b).descs = s.descs ∧
    (s.enterLoop p b).trunks = s.trunks ∧ (s.enterLoop p b).ctl = s.ctl ∧
    (s.enterLoop p b).ports = s.ports ∧ (s.enterLoop p b).checker = s.checker ∧
    (s.enterLoop p b).groups = s.groups ∧ (s.enterLoop p b).sweep = s.sweep ∧
    (s.enterLoop p b).walker = s.walker ∧ (s.enterLoop p b).hosts = s.hosts ∧
    (s.enterLoop p b).engine = s.engine ∧ (s.enterLoop p b).params = s.params ∧
    (s.enterLoop p b).straps = s.straps ∧ (s.enterLoop p b).time = s.time ∧
    (s.enterLoop p b).exch = s.exch ∧ (s.enterLoop p b).handed = s.handed ∧
    (s.enterLoop p b).pending = s.pending := by
  simp [enterLoop]

@[simp] theorem trunkLosOnset_frame (t : Trunk) :
    (s.trunkLosOnset t).occ = s.occ ∧ (s.trunkLosOnset t).used = s.used ∧
    (s.trunkLosOnset t).descs = s.descs ∧ (s.trunkLosOnset t).rx = s.rx ∧
    (s.trunkLosOnset t).ctl = s.ctl ∧ (s.trunkLosOnset t).ports = s.ports ∧
    (s.trunkLosOnset t).checker = s.checker ∧ (s.trunkLosOnset t).groups = s.groups ∧
    (s.trunkLosOnset t).sweep = s.sweep ∧ (s.trunkLosOnset t).walker = s.walker ∧
    (s.trunkLosOnset t).hosts = s.hosts ∧ (s.trunkLosOnset t).engine = s.engine ∧
    (s.trunkLosOnset t).params = s.params ∧ (s.trunkLosOnset t).straps = s.straps ∧
    (s.trunkLosOnset t).time = s.time ∧ (s.trunkLosOnset t).exch = s.exch ∧
    (s.trunkLosOnset t).handed = s.handed ∧ (s.trunkLosOnset t).pending = s.pending := by
  unfold trunkLosOnset
  dsimp only
  split <;> simp

@[simp] theorem pathLosOnset_frame (p : Port) :
    (s.pathLosOnset p).descs = s.descs ∧ (s.pathLosOnset p).trunks = s.trunks ∧
    (s.pathLosOnset p).groups = s.groups ∧ (s.pathLosOnset p).walker = s.walker ∧
    (s.pathLosOnset p).params = s.params ∧ (s.pathLosOnset p).straps = s.straps ∧
    (s.pathLosOnset p).time = s.time ∧ (s.pathLosOnset p).exch = s.exch ∧
    (s.pathLosOnset p).pending = s.pending := by
  unfold pathLosOnset
  dsimp only
  split <;> simp

/-! ## The group monitor and the decay tick -/

@[simp] theorem examineGroup_frame (g : Group) :
    (s.examineGroup g).routes = s.routes ∧ (s.examineGroup g).occ = s.occ ∧
    (s.examineGroup g).used = s.used ∧ (s.examineGroup g).descs = s.descs ∧
    (s.examineGroup g).trunks = s.trunks ∧ (s.examineGroup g).rx = s.rx ∧
    (s.examineGroup g).ctl = s.ctl ∧ (s.examineGroup g).ports = s.ports ∧
    (s.examineGroup g).checker = s.checker ∧ (s.examineGroup g).sweep = s.sweep ∧
    (s.examineGroup g).walker = s.walker ∧ (s.examineGroup g).hosts = s.hosts ∧
    (s.examineGroup g).engine = s.engine ∧ (s.examineGroup g).params = s.params ∧
    (s.examineGroup g).straps = s.straps ∧ (s.examineGroup g).time = s.time ∧
    (s.examineGroup g).exch = s.exch ∧ (s.examineGroup g).handed = s.handed ∧
    (s.examineGroup g).pending = s.pending := by
  unfold examineGroup
  dsimp only
  split <;> simp

@[simp] theorem suspectGroup_frame (g : Group) :
    (s.suspectGroup g).routes = s.routes ∧ (s.suspectGroup g).occ = s.occ ∧
    (s.suspectGroup g).used = s.used ∧ (s.suspectGroup g).descs = s.descs ∧
    (s.suspectGroup g).trunks = s.trunks ∧ (s.suspectGroup g).rx = s.rx ∧
    (s.suspectGroup g).ctl = s.ctl ∧ (s.suspectGroup g).ports = s.ports ∧
    (s.suspectGroup g).checker = s.checker ∧ (s.suspectGroup g).sweep = s.sweep ∧
    (s.suspectGroup g).walker = s.walker ∧ (s.suspectGroup g).hosts = s.hosts ∧
    (s.suspectGroup g).engine = s.engine ∧ (s.suspectGroup g).params = s.params ∧
    (s.suspectGroup g).straps = s.straps ∧ (s.suspectGroup g).time = s.time ∧
    (s.suspectGroup g).exch = s.exch ∧ (s.suspectGroup g).pending = s.pending := by
  unfold suspectGroup
  split <;> simp

@[simp] theorem takeDownEntry_frame (p : Port) :
    (s.takeDownEntry p).routes = s.routes ∧ (s.takeDownEntry p).occ = s.occ ∧
    (s.takeDownEntry p).used = s.used ∧ (s.takeDownEntry p).descs = s.descs ∧
    (s.takeDownEntry p).trunks = s.trunks ∧ (s.takeDownEntry p).rx = s.rx ∧
    (s.takeDownEntry p).ctl = s.ctl ∧ (s.takeDownEntry p).ports = s.ports ∧
    (s.takeDownEntry p).checker = s.checker ∧ (s.takeDownEntry p).sweep = s.sweep ∧
    (s.takeDownEntry p).walker = s.walker ∧ (s.takeDownEntry p).hosts = s.hosts ∧
    (s.takeDownEntry p).engine = s.engine ∧ (s.takeDownEntry p).params = s.params ∧
    (s.takeDownEntry p).straps = s.straps ∧ (s.takeDownEntry p).time = s.time ∧
    (s.takeDownEntry p).exch = s.exch ∧ (s.takeDownEntry p).pending = s.pending := by
  unfold takeDownEntry
  dsimp only
  (repeat' split) <;> simp

@[simp] theorem decayRecord_frame (r : DecayRecord) :
    (s.decayRecord r).descs = s.descs ∧ (s.decayRecord r).trunks = s.trunks ∧
    (s.decayRecord r).rx = s.rx ∧ (s.decayRecord r).ctl = s.ctl ∧
    (s.decayRecord r).walker = s.walker ∧ (s.decayRecord r).engine = s.engine ∧
    (s.decayRecord r).params = s.params ∧ (s.decayRecord r).straps = s.straps ∧
    (s.decayRecord r).time = s.time ∧ (s.decayRecord r).exch = s.exch ∧
    (s.decayRecord r).pending = s.pending := by
  unfold decayRecord
  split <;> simp

/-! ## The bulk walker -/

@[simp] theorem endWalk_frame (b : Bool) :
    (s.endWalk b).routes = s.routes ∧ (s.endWalk b).occ = s.occ ∧ (s.endWalk b).used = s.used ∧
    (s.endWalk b).descs = s.descs ∧ (s.endWalk b).trunks = s.trunks ∧ (s.endWalk b).rx = s.rx ∧
    (s.endWalk b).ctl = s.ctl ∧ (s.endWalk b).ports = s.ports ∧ (s.endWalk b).checker = s.checker ∧
    (s.endWalk b).groups = s.groups ∧ (s.endWalk b).sweep = s.sweep ∧
    (s.endWalk b).hosts = s.hosts ∧ (s.endWalk b).engine = s.engine ∧
    (s.endWalk b).params = s.params ∧ (s.endWalk b).straps = s.straps ∧
    (s.endWalk b).time = s.time ∧ (s.endWalk b).exch = s.exch ∧ (s.endWalk b).pending = s.pending := by
  simp [endWalk]

@[simp] theorem applyStep_frame (o : WalkOrder) (c : Circuit) (i : StationSlot) :
    (s.applyStep o c i).descs = s.descs ∧ (s.applyStep o c i).trunks = s.trunks ∧
    (s.applyStep o c i).rx = s.rx ∧ (s.applyStep o c i).ctl = s.ctl ∧
    (s.applyStep o c i).ports = s.ports ∧ (s.applyStep o c i).checker = s.checker ∧
    (s.applyStep o c i).groups = s.groups ∧ (s.applyStep o c i).walker = s.walker ∧
    (s.applyStep o c i).hosts = s.hosts ∧ (s.applyStep o c i).engine = s.engine ∧
    (s.applyStep o c i).params = s.params ∧ (s.applyStep o c i).straps = s.straps ∧
    (s.applyStep o c i).time = s.time ∧ (s.applyStep o c i).exch = s.exch ∧
    (s.applyStep o c i).pending = s.pending := by
  unfold applyStep
  dsimp only
  split <;> simp

@[simp] theorem walkStep_frame (o : WalkOrder) :
    (s.walkStep o).descs = s.descs ∧ (s.walkStep o).trunks = s.trunks ∧ (s.walkStep o).rx = s.rx ∧
    (s.walkStep o).ctl = s.ctl ∧ (s.walkStep o).ports = s.ports ∧
    (s.walkStep o).checker = s.checker ∧ (s.walkStep o).groups = s.groups ∧
    (s.walkStep o).hosts = s.hosts ∧ (s.walkStep o).engine = s.engine ∧
    (s.walkStep o).params = s.params ∧ (s.walkStep o).straps = s.straps ∧
    (s.walkStep o).time = s.time ∧ (s.walkStep o).exch = s.exch ∧ (s.walkStep o).pending = s.pending := by
  unfold walkStep
  dsimp only
  split <;> simp

/-! ## The attention controller -/

@[simp] theorem recordAll_frame (o : Occurrence) :
    (s.recordAll o).routes = s.routes ∧ (s.recordAll o).occ = s.occ ∧
    (s.recordAll o).used = s.used ∧ (s.recordAll o).descs = s.descs ∧
    (s.recordAll o).trunks = s.trunks ∧ (s.recordAll o).rx = s.rx ∧ (s.recordAll o).ctl = s.ctl ∧
    (s.recordAll o).ports = s.ports ∧ (s.recordAll o).checker = s.checker ∧
    (s.recordAll o).groups = s.groups ∧ (s.recordAll o).sweep = s.sweep ∧
    (s.recordAll o).walker = s.walker ∧ (s.recordAll o).engine = s.engine ∧
    (s.recordAll o).params = s.params ∧ (s.recordAll o).straps = s.straps ∧
    (s.recordAll o).time = s.time ∧ (s.recordAll o).exch = s.exch ∧
    (s.recordAll o).handed = s.handed ∧ (s.recordAll o).pending = s.pending := by
  simp [recordAll]

/-! ## The frame period -/

@[simp] theorem transmit_frame :
    s.transmit.routes = s.routes ∧ s.transmit.occ = s.occ ∧ s.transmit.used = s.used ∧
    s.transmit.descs = s.descs ∧ s.transmit.trunks = s.trunks ∧ s.transmit.rx = s.rx ∧
    s.transmit.ctl = s.ctl ∧ s.transmit.ports = s.ports ∧ s.transmit.checker = s.checker ∧
    s.transmit.groups = s.groups ∧ s.transmit.sweep = s.sweep ∧ s.transmit.walker = s.walker ∧
    s.transmit.hosts = s.hosts ∧ s.transmit.engine = s.engine ∧ s.transmit.params = s.params ∧
    s.transmit.straps = s.straps ∧ s.transmit.time = s.time ∧ s.transmit.handed = s.handed ∧
    s.transmit.pending = s.pending := by
  simp [transmit]

@[simp] theorem measureLines_frame (a b : BitVec 8) :
    (s.measureLines a b).routes = s.routes ∧ (s.measureLines a b).occ = s.occ ∧
    (s.measureLines a b).used = s.used ∧ (s.measureLines a b).descs = s.descs ∧
    (s.measureLines a b).ctl = s.ctl ∧ (s.measureLines a b).ports = s.ports ∧
    (s.measureLines a b).checker = s.checker ∧ (s.measureLines a b).groups = s.groups ∧
    (s.measureLines a b).sweep = s.sweep ∧ (s.measureLines a b).walker = s.walker ∧
    (s.measureLines a b).hosts = s.hosts ∧ (s.measureLines a b).engine = s.engine ∧
    (s.measureLines a b).params = s.params ∧ (s.measureLines a b).straps = s.straps ∧
    (s.measureLines a b).time = s.time ∧ (s.measureLines a b).exch = s.exch ∧
    (s.measureLines a b).handed = s.handed ∧ (s.measureLines a b).pending = s.pending := by
  simp [measureLines]

@[simp] theorem huntingFae_frame (p : Port) :
    (s.huntingFae p).descs = s.descs ∧ (s.huntingFae p).trunks = s.trunks ∧
    (s.huntingFae p).rx = s.rx ∧ (s.huntingFae p).ctl = s.ctl ∧ (s.huntingFae p).groups = s.groups ∧
    (s.huntingFae p).walker = s.walker ∧ (s.huntingFae p).engine = s.engine ∧
    (s.huntingFae p).params = s.params ∧ (s.huntingFae p).straps = s.straps ∧
    (s.huntingFae p).time = s.time ∧ (s.huntingFae p).exch = s.exch ∧
    (s.huntingFae p).pending = s.pending := by
  unfold huntingFae
  split <;> simp

@[simp] theorem millisecond_frame :
    s.millisecond.occ = s.occ ∧ s.millisecond.used = s.used ∧ s.millisecond.descs = s.descs ∧
    s.millisecond.trunks = s.trunks ∧ s.millisecond.rx = s.rx ∧ s.millisecond.ctl = s.ctl ∧
    s.millisecond.checker = s.checker ∧ s.millisecond.sweep = s.sweep ∧
    s.millisecond.walker = s.walker ∧ s.millisecond.hosts = s.hosts ∧
    s.millisecond.engine = s.engine ∧ s.millisecond.params = s.params ∧
    s.millisecond.straps = s.straps ∧ s.millisecond.exch = s.exch ∧
    s.millisecond.handed = s.handed ∧ s.millisecond.pending = s.pending := by
  simp [millisecond]

@[simp] theorem countFrame_frame :
    s.countFrame.occ = s.occ ∧ s.countFrame.used = s.used ∧ s.countFrame.descs = s.descs ∧
    s.countFrame.trunks = s.trunks ∧ s.countFrame.rx = s.rx ∧ s.countFrame.ctl = s.ctl ∧
    s.countFrame.checker = s.checker ∧ s.countFrame.sweep = s.sweep ∧
    s.countFrame.walker = s.walker ∧ s.countFrame.hosts = s.hosts ∧ s.countFrame.engine = s.engine ∧
    s.countFrame.params = s.params ∧ s.countFrame.straps = s.straps ∧ s.countFrame.exch = s.exch ∧
    s.countFrame.handed = s.handed ∧ s.countFrame.pending = s.pending := by
  unfold countFrame
  dsimp only
  split <;> simp

@[simp] theorem bulkStepDue_frame :
    s.bulkStepDue.routes = s.routes ∧ s.bulkStepDue.occ = s.occ ∧ s.bulkStepDue.used = s.used ∧
    s.bulkStepDue.descs = s.descs ∧ s.bulkStepDue.trunks = s.trunks ∧ s.bulkStepDue.rx = s.rx ∧
    s.bulkStepDue.ctl = s.ctl ∧ s.bulkStepDue.ports = s.ports ∧ s.bulkStepDue.checker = s.checker ∧
    s.bulkStepDue.groups = s.groups ∧ s.bulkStepDue.sweep = s.sweep ∧
    s.bulkStepDue.hosts = s.hosts ∧ s.bulkStepDue.engine = s.engine ∧
    s.bulkStepDue.params = s.params ∧ s.bulkStepDue.straps = s.straps ∧
    s.bulkStepDue.time = s.time ∧ s.bulkStepDue.exch = s.exch ∧ s.bulkStepDue.handed = s.handed ∧
    s.bulkStepDue.pending = s.pending := by
  unfold bulkStepDue
  split <;> simp

@[simp] theorem beginFrame_frame :
    s.beginFrame.occ = s.occ ∧ s.beginFrame.used = s.used ∧ s.beginFrame.descs = s.descs ∧
    s.beginFrame.trunks = s.trunks ∧ s.beginFrame.ports = s.ports ∧ s.beginFrame.groups = s.groups ∧
    s.beginFrame.sweep = s.sweep ∧ s.beginFrame.walker = s.walker ∧ s.beginFrame.hosts = s.hosts ∧
    s.beginFrame.engine = s.engine ∧ s.beginFrame.params = s.params ∧
    s.beginFrame.straps = s.straps ∧ s.beginFrame.time = s.time ∧ s.beginFrame.handed = s.handed ∧
    s.beginFrame.pending = s.pending := by
  simp [beginFrame]

/-! ## The request engine -/

@[simp] theorem holdRequest_frame (p : Port) (b : List Octet) (l : List (List Octet)) :
    (s.holdRequest p b l).routes = s.routes ∧ (s.holdRequest p b l).occ = s.occ ∧
    (s.holdRequest p b l).used = s.used ∧ (s.holdRequest p b l).descs = s.descs ∧
    (s.holdRequest p b l).trunks = s.trunks ∧ (s.holdRequest p b l).rx = s.rx ∧
    (s.holdRequest p b l).ports = s.ports ∧ (s.holdRequest p b l).checker = s.checker ∧
    (s.holdRequest p b l).groups = s.groups ∧ (s.holdRequest p b l).sweep = s.sweep ∧
    (s.holdRequest p b l).walker = s.walker ∧ (s.holdRequest p b l).hosts = s.hosts ∧
    (s.holdRequest p b l).params = s.params ∧ (s.holdRequest p b l).straps = s.straps ∧
    (s.holdRequest p b l).time = s.time ∧ (s.holdRequest p b l).exch = s.exch ∧
    (s.holdRequest p b l).handed = s.handed ∧ (s.holdRequest p b l).pending = s.pending := by
  simp [holdRequest]

@[simp] theorem takeRequest_frame (f : List Octet → Bool) :
    (s.takeRequest f).routes = s.routes ∧ (s.takeRequest f).occ = s.occ ∧
    (s.takeRequest f).used = s.used ∧ (s.takeRequest f).descs = s.descs ∧
    (s.takeRequest f).trunks = s.trunks ∧ (s.takeRequest f).rx = s.rx ∧
    (s.takeRequest f).ports = s.ports ∧ (s.takeRequest f).checker = s.checker ∧
    (s.takeRequest f).groups = s.groups ∧ (s.takeRequest f).sweep = s.sweep ∧
    (s.takeRequest f).walker = s.walker ∧ (s.takeRequest f).hosts = s.hosts ∧
    (s.takeRequest f).params = s.params ∧ (s.takeRequest f).straps = s.straps ∧
    (s.takeRequest f).time = s.time ∧ (s.takeRequest f).exch = s.exch ∧
    (s.takeRequest f).handed = s.handed ∧ (s.takeRequest f).pending = s.pending := by
  unfold takeRequest
  (repeat' split) <;> simp

@[simp] theorem giveResponse_frame (p : Port) (b : List Octet) :
    (s.giveResponse p b).routes = s.routes ∧ (s.giveResponse p b).occ = s.occ ∧
    (s.giveResponse p b).used = s.used ∧ (s.giveResponse p b).descs = s.descs ∧
    (s.giveResponse p b).trunks = s.trunks ∧ (s.giveResponse p b).rx = s.rx ∧
    (s.giveResponse p b).ports = s.ports ∧ (s.giveResponse p b).checker = s.checker ∧
    (s.giveResponse p b).groups = s.groups ∧ (s.giveResponse p b).sweep = s.sweep ∧
    (s.giveResponse p b).walker = s.walker ∧ (s.giveResponse p b).hosts = s.hosts ∧
    (s.giveResponse p b).params = s.params ∧ (s.giveResponse p b).straps = s.straps ∧
    (s.giveResponse p b).time = s.time ∧ (s.giveResponse p b).exch = s.exch ∧
    (s.giveResponse p b).handed = s.handed ∧ (s.giveResponse p b).pending = s.pending := by
  simp [giveResponse]

/-! ## Stores -/

@[simp] theorem capSuspectAt_frame :
    s.capSuspectAt.routes = s.routes ∧ s.capSuspectAt.occ = s.occ ∧ s.capSuspectAt.used = s.used ∧
    s.capSuspectAt.descs = s.descs ∧ s.capSuspectAt.trunks = s.trunks ∧ s.capSuspectAt.rx = s.rx ∧
    s.capSuspectAt.ctl = s.ctl ∧ s.capSuspectAt.ports = s.ports ∧
    s.capSuspectAt.checker = s.checker ∧ s.capSuspectAt.groups = s.groups ∧
    s.capSuspectAt.sweep = s.sweep ∧ s.capSuspectAt.walker = s.walker ∧
    s.capSuspectAt.hosts = s.hosts ∧ s.capSuspectAt.engine = s.engine ∧
    s.capSuspectAt.straps = s.straps ∧ s.capSuspectAt.time = s.time ∧ s.capSuspectAt.exch = s.exch ∧
    s.capSuspectAt.handed = s.handed ∧ s.capSuspectAt.pending = s.pending := by
  unfold capSuspectAt
  split <;> simp

@[simp] theorem capRecoverBelow_frame :
    s.capRecoverBelow.routes = s.routes ∧ s.capRecoverBelow.occ = s.occ ∧
    s.capRecoverBelow.used = s.used ∧ s.capRecoverBelow.descs = s.descs ∧
    s.capRecoverBelow.trunks = s.trunks ∧ s.capRecoverBelow.rx = s.rx ∧
    s.capRecoverBelow.ctl = s.ctl ∧ s.capRecoverBelow.ports = s.ports ∧
    s.capRecoverBelow.checker = s.checker ∧ s.capRecoverBelow.groups = s.groups ∧
    s.capRecoverBelow.sweep = s.sweep ∧ s.capRecoverBelow.walker = s.walker ∧
    s.capRecoverBelow.hosts = s.hosts ∧ s.capRecoverBelow.engine = s.engine ∧
    s.capRecoverBelow.straps = s.straps ∧ s.capRecoverBelow.time = s.time ∧
    s.capRecoverBelow.exch = s.exch ∧ s.capRecoverBelow.handed = s.handed ∧
    s.capRecoverBelow.pending = s.pending := by
  unfold capRecoverBelow
  split <;> simp

@[simp] theorem storeParam_frame (x : Param) (v : Nat) :
    (s.storeParam x v).routes = s.routes ∧ (s.storeParam x v).occ = s.occ ∧
    (s.storeParam x v).used = s.used ∧ (s.storeParam x v).descs = s.descs ∧
    (s.storeParam x v).trunks = s.trunks ∧ (s.storeParam x v).rx = s.rx ∧
    (s.storeParam x v).ctl = s.ctl ∧ (s.storeParam x v).ports = s.ports ∧
    (s.storeParam x v).checker = s.checker ∧ (s.storeParam x v).groups = s.groups ∧
    (s.storeParam x v).sweep = s.sweep ∧ (s.storeParam x v).walker = s.walker ∧
    (s.storeParam x v).hosts = s.hosts ∧ (s.storeParam x v).engine = s.engine ∧
    (s.storeParam x v).straps = s.straps ∧ (s.storeParam x v).time = s.time ∧
    (s.storeParam x v).exch = s.exch ∧ (s.storeParam x v).handed = s.handed ∧
    (s.storeParam x v).pending = s.pending := by
  unfold storeParam
  split <;> simp

@[simp] theorem writeDescriptor_frame (d : Desc) (x : Descriptor) :
    (s.writeDescriptor d x).occ = s.occ ∧ (s.writeDescriptor d x).used = s.used ∧
    (s.writeDescriptor d x).trunks = s.trunks ∧ (s.writeDescriptor d x).rx = s.rx ∧
    (s.writeDescriptor d x).ctl = s.ctl ∧ (s.writeDescriptor d x).ports = s.ports ∧
    (s.writeDescriptor d x).checker = s.checker ∧ (s.writeDescriptor d x).groups = s.groups ∧
    (s.writeDescriptor d x).walker = s.walker ∧ (s.writeDescriptor d x).hosts = s.hosts ∧
    (s.writeDescriptor d x).engine = s.engine ∧ (s.writeDescriptor d x).params = s.params ∧
    (s.writeDescriptor d x).straps = s.straps ∧ (s.writeDescriptor d x).time = s.time ∧
    (s.writeDescriptor d x).exch = s.exch ∧ (s.writeDescriptor d x).pending = s.pending := by
  simp [writeDescriptor]

/-! ## SET PORT, PROBE PORT and INJECT -/

@[simp] theorem enablePort_frame (p : Port) :
    (s.enablePort p).routes = s.routes ∧ (s.enablePort p).occ = s.occ ∧
    (s.enablePort p).used = s.used ∧ (s.enablePort p).descs = s.descs ∧
    (s.enablePort p).trunks = s.trunks ∧ (s.enablePort p).rx = s.rx ∧ (s.enablePort p).ctl = s.ctl ∧
    (s.enablePort p).checker = s.checker ∧ (s.enablePort p).groups = s.groups ∧
    (s.enablePort p).sweep = s.sweep ∧ (s.enablePort p).walker = s.walker ∧
    (s.enablePort p).hosts = s.hosts ∧ (s.enablePort p).engine = s.engine ∧
    (s.enablePort p).params = s.params ∧ (s.enablePort p).straps = s.straps ∧
    (s.enablePort p).time = s.time ∧ (s.enablePort p).exch = s.exch ∧
    (s.enablePort p).handed = s.handed ∧ (s.enablePort p).pending = s.pending := by
  simp [enablePort]

@[simp] theorem disablePort_frame (p : Port) :
    (s.disablePort p).descs = s.descs ∧ (s.disablePort p).trunks = s.trunks ∧
    (s.disablePort p).ctl = s.ctl ∧ (s.disablePort p).groups = s.groups ∧
    (s.disablePort p).walker = s.walker ∧ (s.disablePort p).engine = s.engine ∧
    (s.disablePort p).params = s.params ∧ (s.disablePort p).straps = s.straps ∧
    (s.disablePort p).time = s.time ∧ (s.disablePort p).exch = s.exch ∧
    (s.disablePort p).pending = s.pending := by
  unfold disablePort
  split <;> simp

@[simp] theorem loopPort_frame (p : Port) (b : Bool) :
    (s.loopPort p b).descs = s.descs ∧ (s.loopPort p b).trunks = s.trunks ∧
    (s.loopPort p b).rx = s.rx ∧ (s.loopPort p b).ctl = s.ctl ∧ (s.loopPort p b).groups = s.groups ∧
    (s.loopPort p b).walker = s.walker ∧ (s.loopPort p b).engine = s.engine ∧
    (s.loopPort p b).params = s.params ∧ (s.loopPort p b).straps = s.straps ∧
    (s.loopPort p b).time = s.time ∧ (s.loopPort p b).exch = s.exch ∧
    (s.loopPort p b).pending = s.pending := by
  unfold loopPort
  split <;> simp

@[simp] theorem beginTest_frame (p : Port) :
    (s.beginTest p).routes = s.routes ∧ (s.beginTest p).occ = s.occ ∧
    (s.beginTest p).used = s.used ∧ (s.beginTest p).descs = s.descs ∧
    (s.beginTest p).trunks = s.trunks ∧ (s.beginTest p).rx = s.rx ∧ (s.beginTest p).ctl = s.ctl ∧
    (s.beginTest p).checker = s.checker ∧ (s.beginTest p).groups = s.groups ∧
    (s.beginTest p).sweep = s.sweep ∧ (s.beginTest p).walker = s.walker ∧
    (s.beginTest p).hosts = s.hosts ∧ (s.beginTest p).engine = s.engine ∧
    (s.beginTest p).params = s.params ∧ (s.beginTest p).straps = s.straps ∧
    (s.beginTest p).time = s.time ∧ (s.beginTest p).exch = s.exch ∧
    (s.beginTest p).handed = s.handed ∧ (s.beginTest p).pending = s.pending := by
  simp [beginTest]

@[simp] theorem loopbackOn_frame (p : Port) (b : Bool) :
    (s.loopbackOn p b).descs = s.descs ∧ (s.loopbackOn p b).trunks = s.trunks ∧
    (s.loopbackOn p b).groups = s.groups ∧ (s.loopbackOn p b).walker = s.walker ∧
    (s.loopbackOn p b).params = s.params ∧ (s.loopbackOn p b).straps = s.straps ∧
    (s.loopbackOn p b).time = s.time ∧ (s.loopbackOn p b).exch = s.exch ∧
    (s.loopbackOn p b).pending = s.pending := by
  simp [loopbackOn]

@[simp] theorem loopbackOff_frame (p : Port) :
    (s.loopbackOff p).routes = s.routes ∧ (s.loopbackOff p).occ = s.occ ∧
    (s.loopbackOff p).used = s.used ∧ (s.loopbackOff p).descs = s.descs ∧
    (s.loopbackOff p).trunks = s.trunks ∧ (s.loopbackOff p).ctl = s.ctl ∧
    (s.loopbackOff p).groups = s.groups ∧ (s.loopbackOff p).sweep = s.sweep ∧
    (s.loopbackOff p).walker = s.walker ∧ (s.loopbackOff p).hosts = s.hosts ∧
    (s.loopbackOff p).engine = s.engine ∧ (s.loopbackOff p).params = s.params ∧
    (s.loopbackOff p).straps = s.straps ∧ (s.loopbackOff p).time = s.time ∧
    (s.loopbackOff p).exch = s.exch ∧ (s.loopbackOff p).handed = s.handed ∧
    (s.loopbackOff p).pending = s.pending := by
  simp [loopbackOff]

@[simp] theorem storeCeiling_frame (p : Port) (n : Nat) :
    (s.storeCeiling p n).occ = s.occ ∧ (s.storeCeiling p n).used = s.used ∧
    (s.storeCeiling p n).descs = s.descs ∧ (s.storeCeiling p n).trunks = s.trunks ∧
    (s.storeCeiling p n).rx = s.rx ∧ (s.storeCeiling p n).ctl = s.ctl ∧
    (s.storeCeiling p n).checker = s.checker ∧ (s.storeCeiling p n).groups = s.groups ∧
    (s.storeCeiling p n).walker = s.walker ∧ (s.storeCeiling p n).hosts = s.hosts ∧
    (s.storeCeiling p n).engine = s.engine ∧ (s.storeCeiling p n).params = s.params ∧
    (s.storeCeiling p n).straps = s.straps ∧ (s.storeCeiling p n).time = s.time ∧
    (s.storeCeiling p n).exch = s.exch ∧ (s.storeCeiling p n).pending = s.pending := by
  unfold storeCeiling
  dsimp only
  split <;> simp

@[simp] theorem clearCounts_frame (p : Port) :
    (s.clearCounts p).routes = s.routes ∧ (s.clearCounts p).occ = s.occ ∧
    (s.clearCounts p).used = s.used ∧ (s.clearCounts p).descs = s.descs ∧
    (s.clearCounts p).trunks = s.trunks ∧ (s.clearCounts p).rx = s.rx ∧
    (s.clearCounts p).ctl = s.ctl ∧ (s.clearCounts p).checker = s.checker ∧
    (s.clearCounts p).groups = s.groups ∧ (s.clearCounts p).sweep = s.sweep ∧
    (s.clearCounts p).walker = s.walker ∧ (s.clearCounts p).hosts = s.hosts ∧
    (s.clearCounts p).engine = s.engine ∧ (s.clearCounts p).params = s.params ∧
    (s.clearCounts p).straps = s.straps ∧ (s.clearCounts p).time = s.time ∧
    (s.clearCounts p).exch = s.exch ∧ (s.clearCounts p).handed = s.handed ∧
    (s.clearCounts p).pending = s.pending := by
  simp [clearCounts]

@[simp] theorem demandProbe_frame (p : Port) :
    (s.demandProbe p).routes = s.routes ∧ (s.demandProbe p).occ = s.occ ∧
    (s.demandProbe p).used = s.used ∧ (s.demandProbe p).descs = s.descs ∧
    (s.demandProbe p).trunks = s.trunks ∧ (s.demandProbe p).rx = s.rx ∧
    (s.demandProbe p).ctl = s.ctl ∧ (s.demandProbe p).groups = s.groups ∧
    (s.demandProbe p).sweep = s.sweep ∧ (s.demandProbe p).walker = s.walker ∧
    (s.demandProbe p).hosts = s.hosts ∧ (s.demandProbe p).engine = s.engine ∧
    (s.demandProbe p).params = s.params ∧ (s.demandProbe p).straps = s.straps ∧
    (s.demandProbe p).time = s.time ∧ (s.demandProbe p).exch = s.exch ∧
    (s.demandProbe p).handed = s.handed ∧ (s.demandProbe p).pending = s.pending := by
  unfold demandProbe
  split <;> simp

/-! ## REVIEW RANGE -/

@[simp] theorem reviewRange_frame (t : Tier) (a b : Circuit) :
    (s.reviewRange t a b).occ = s.occ ∧ (s.reviewRange t a b).used = s.used ∧
    (s.reviewRange t a b).descs = s.descs ∧ (s.reviewRange t a b).trunks = s.trunks ∧
    (s.reviewRange t a b).rx = s.rx ∧ (s.reviewRange t a b).ctl = s.ctl ∧
    (s.reviewRange t a b).ports = s.ports ∧ (s.reviewRange t a b).checker = s.checker ∧
    (s.reviewRange t a b).groups = s.groups ∧ (s.reviewRange t a b).walker = s.walker ∧
    (s.reviewRange t a b).hosts = s.hosts ∧ (s.reviewRange t a b).engine = s.engine ∧
    (s.reviewRange t a b).params = s.params ∧ (s.reviewRange t a b).straps = s.straps ∧
    (s.reviewRange t a b).time = s.time ∧ (s.reviewRange t a b).exch = s.exch ∧
    (s.reviewRange t a b).pending = s.pending := by
  simp [reviewRange]

/-! ## Host records -/

@[simp] theorem takeSource_frame (h : HostId) (x : Source) :
    (s.takeSource h x).routes = s.routes ∧ (s.takeSource h x).occ = s.occ ∧
    (s.takeSource h x).used = s.used ∧ (s.takeSource h x).descs = s.descs ∧
    (s.takeSource h x).trunks = s.trunks ∧ (s.takeSource h x).rx = s.rx ∧
    (s.takeSource h x).ctl = s.ctl ∧ (s.takeSource h x).ports = s.ports ∧
    (s.takeSource h x).checker = s.checker ∧ (s.takeSource h x).groups = s.groups ∧
    (s.takeSource h x).sweep = s.sweep ∧ (s.takeSource h x).walker = s.walker ∧
    (s.takeSource h x).engine = s.engine ∧ (s.takeSource h x).params = s.params ∧
    (s.takeSource h x).straps = s.straps ∧ (s.takeSource h x).time = s.time ∧
    (s.takeSource h x).exch = s.exch ∧ (s.takeSource h x).handed = s.handed ∧
    (s.takeSource h x).pending = s.pending := by
  simp [takeSource]

@[simp] theorem storeMask_frame (h : HostId) (m : Urgency) :
    (s.storeMask h m).routes = s.routes ∧ (s.storeMask h m).occ = s.occ ∧
    (s.storeMask h m).used = s.used ∧ (s.storeMask h m).descs = s.descs ∧
    (s.storeMask h m).trunks = s.trunks ∧ (s.storeMask h m).rx = s.rx ∧
    (s.storeMask h m).ctl = s.ctl ∧ (s.storeMask h m).ports = s.ports ∧
    (s.storeMask h m).checker = s.checker ∧ (s.storeMask h m).groups = s.groups ∧
    (s.storeMask h m).sweep = s.sweep ∧ (s.storeMask h m).walker = s.walker ∧
    (s.storeMask h m).engine = s.engine ∧ (s.storeMask h m).params = s.params ∧
    (s.storeMask h m).straps = s.straps ∧ (s.storeMask h m).time = s.time ∧
    (s.storeMask h m).exch = s.exch ∧ (s.storeMask h m).handed = s.handed ∧
    (s.storeMask h m).pending = s.pending := by
  simp [storeMask]

@[simp] theorem storeUrgency_frame (h : HostId) (n : Fin 11) (u : Urgency) :
    (s.storeUrgency h n u).routes = s.routes ∧ (s.storeUrgency h n u).occ = s.occ ∧
    (s.storeUrgency h n u).used = s.used ∧ (s.storeUrgency h n u).descs = s.descs ∧
    (s.storeUrgency h n u).trunks = s.trunks ∧ (s.storeUrgency h n u).rx = s.rx ∧
    (s.storeUrgency h n u).ctl = s.ctl ∧ (s.storeUrgency h n u).ports = s.ports ∧
    (s.storeUrgency h n u).checker = s.checker ∧ (s.storeUrgency h n u).groups = s.groups ∧
    (s.storeUrgency h n u).sweep = s.sweep ∧ (s.storeUrgency h n u).walker = s.walker ∧
    (s.storeUrgency h n u).engine = s.engine ∧ (s.storeUrgency h n u).params = s.params ∧
    (s.storeUrgency h n u).straps = s.straps ∧ (s.storeUrgency h n u).time = s.time ∧
    (s.storeUrgency h n u).exch = s.exch ∧ (s.storeUrgency h n u).handed = s.handed ∧
    (s.storeUrgency h n u).pending = s.pending := by
  simp [storeUrgency]

@[simp] theorem clearLatch_frame (h : HostId) :
    (s.clearLatch h).routes = s.routes ∧ (s.clearLatch h).occ = s.occ ∧
    (s.clearLatch h).used = s.used ∧ (s.clearLatch h).descs = s.descs ∧
    (s.clearLatch h).trunks = s.trunks ∧ (s.clearLatch h).rx = s.rx ∧ (s.clearLatch h).ctl = s.ctl ∧
    (s.clearLatch h).ports = s.ports ∧ (s.clearLatch h).checker = s.checker ∧
    (s.clearLatch h).groups = s.groups ∧ (s.clearLatch h).sweep = s.sweep ∧
    (s.clearLatch h).walker = s.walker ∧ (s.clearLatch h).engine = s.engine ∧
    (s.clearLatch h).params = s.params ∧ (s.clearLatch h).straps = s.straps ∧
    (s.clearLatch h).time = s.time ∧ (s.clearLatch h).exch = s.exch ∧
    (s.clearLatch h).handed = s.handed ∧ (s.clearLatch h).pending = s.pending := by
  simp [clearLatch]

end Sys2Proof.Machine.State
end

