-- ==== Sys2Proof/Laws/Ops.lean ====
section
/-! SUPPORT. What each named read of the state gives after each named write, and the small lemmas of the
numberings. -/

namespace Sys2Proof.Machine

/-! ## Numberings -/

@[simp] theorem PathSlot.ofIndex_index (q : PathSlot) : PathSlot.ofIndex q.index = q := by
  obtain ⟨p, n⟩ := q
  simp only [PathSlot.ofIndex, PathSlot.index, PathSlot.mk.injEq, Fin.ext_iff]
  omega

@[simp] theorem PathSlot.index_ofIndex (i : Fin 240) : (PathSlot.ofIndex i).index = i := by
  simp only [PathSlot.ofIndex, PathSlot.index, Fin.ext_iff]
  omega

theorem PathSlot.index_inj {q q' : PathSlot} : q.index = q'.index ↔ q = q' :=
  ⟨fun h => by rw [← PathSlot.ofIndex_index q, h, PathSlot.ofIndex_index], fun h => by rw [h]⟩

@[simp] theorem trunkOf_circuitAt (t : Trunk) (i : StationSlot) : trunkOf (circuitAt t i) = t := by
  simp only [trunkOf, circuitAt, Fin.ext_iff]
  omega

@[simp] theorem stationSlotOf_circuitAt (t : Trunk) (i : StationSlot) :
    stationSlotOf (circuitAt t i) = i := by
  simp only [stationSlotOf, circuitAt, Fin.ext_iff]
  omega

@[simp] theorem circuitAt_trunkOf (c : Circuit) : circuitAt (trunkOf c) (stationSlotOf c) = c := by
  simp only [trunkOf, stationSlotOf, circuitAt, Fin.ext_iff]
  omega

@[simp] theorem mem_allCircuits (c : Circuit) : c ∈ allCircuits := List.mem_finRange c

@[simp] theorem mem_allPorts (p : Port) : p ∈ allPorts := List.mem_finRange p

theorem paramId_injective {x y : Param} (h : x.id = y.id) : x = y := by
  cases x <;> cases y <;> first | rfl | exact absurd h (by decide)

theorem satAdd_le (top n k : Nat) : satAdd top n k ≤ top := Nat.min_le_left _ _

theorem bump16_le (n : Nat) : bump16 n ≤ 65535 := satAdd_le _ _ _

theorem bump8_le (n : Nat) : bump8 n ≤ 255 := satAdd_le _ _ _

namespace State

variable (s : State)

/-! ## A table's entry after a write of one of its entries -/

theorem route_setRoute (c c' : Circuit) (r : Route) :
    (s.setRoute c r).route c' = if c' = c then r else s.route c' := by
  simp [route, Vector.getElem_set, Fin.ext_iff, eq_comm]

@[simp] theorem route_setRoute_self (c : Circuit) (r : Route) : (s.setRoute c r).route c = r := by
  simp [route_setRoute]

@[simp] theorem route_setRoute_ne {c c' : Circuit} (hne : c' ≠ c) (r : Route) :
    (s.setRoute c r).route c' = s.route c' := by
  simp [route_setRoute, hne]

theorem desc_setDesc (d d' : Desc) (x : Descriptor) :
    (s.setDesc d x).desc d' = if d' = d then x else s.desc d' := by
  simp [desc, Vector.getElem_set, Fin.ext_iff, eq_comm]

@[simp] theorem desc_setDesc_self (d : Desc) (x : Descriptor) : (s.setDesc d x).desc d = x := by
  simp [desc_setDesc]

@[simp] theorem desc_setDesc_ne {d d' : Desc} (hne : d' ≠ d) (x : Descriptor) :
    (s.setDesc d x).desc d' = s.desc d' := by
  simp [desc_setDesc, hne]

theorem trunk_setTrunk (t t' : Trunk) (f : Framer) :
    (s.setTrunk t f).trunk t' = if t' = t then f else s.trunk t' := by
  simp [trunk, Vector.getElem_set, Fin.ext_iff, eq_comm]

@[simp] theorem trunk_setTrunk_self (t : Trunk) (f : Framer) : (s.setTrunk t f).trunk t = f := by
  simp [trunk_setTrunk]

@[simp] theorem trunk_setTrunk_ne {t t' : Trunk} (hne : t' ≠ t) (f : Framer) :
    (s.setTrunk t f).trunk t' = s.trunk t' := by
  simp [trunk_setTrunk, hne]

theorem pathRx_setPathRx (p p' : Port) (r : PathRx) :
    (s.setPathRx p r).pathRx p' = if p' = p then r else s.pathRx p' := by
  simp [pathRx, Vector.getElem_set, Fin.ext_iff, eq_comm]

@[simp] theorem pathRx_setPathRx_self (p : Port) (r : PathRx) : (s.setPathRx p r).pathRx p = r := by
  simp [pathRx_setPathRx]

@[simp] theorem pathRx_setPathRx_ne {p p' : Port} (hne : p' ≠ p) (r : PathRx) :
    (s.setPathRx p r).pathRx p' = s.pathRx p' := by
  simp [pathRx_setPathRx, hne]

theorem control_setControl (p p' : Port) (k : Control) :
    (s.setControl p k).control p' = if p' = p then k else s.control p' := by
  simp [control, Vector.getElem_set, Fin.ext_iff, eq_comm]

@[simp] theorem control_setControl_self (p : Port) (k : Control) : (s.setControl p k).control p = k := by
  simp [control_setControl]

@[simp] theorem control_setControl_ne {p p' : Port} (hne : p' ≠ p) (k : Control) :
    (s.setControl p k).control p' = s.control p' := by
  simp [control_setControl, hne]

theorem port_setPort (p p' : Port) (r : PortRecord) :
    (s.setPort p r).port p' = if p' = p then r else s.port p' := by
  simp [port, Vector.getElem_set, Fin.ext_iff, eq_comm]

@[simp] theorem port_setPort_self (p : Port) (r : PortRecord) : (s.setPort p r).port p = r := by
  simp [port_setPort]

@[simp] theorem port_setPort_ne {p p' : Port} (hne : p' ≠ p) (r : PortRecord) :
    (s.setPort p r).port p' = s.port p' := by
  simp [port_setPort, hne]

theorem group_setGroup (g g' : Group) (r : GroupRecord) :
    (s.setGroup g r).group g' = if g' = g then r else s.group g' := by
  simp [group, Vector.getElem_set, Fin.ext_iff, eq_comm]

@[simp] theorem group_setGroup_self (g : Group) (r : GroupRecord) : (s.setGroup g r).group g = r := by
  simp [group_setGroup]

@[simp] theorem group_setGroup_ne {g g' : Group} (hne : g' ≠ g) (r : GroupRecord) :
    (s.setGroup g r).group g' = s.group g' := by
  simp [group_setGroup, hne]

theorem hostRecord_setHostRecord (h h' : HostId) (r : HostRecord) :
    (s.setHostRecord h r).hostRecord h' = if h' = h then r else s.hostRecord h' := by
  simp [hostRecord, Vector.getElem_set, Fin.ext_iff, eq_comm]

@[simp] theorem hostRecord_setHostRecord_self (h : HostId) (r : HostRecord) : (s.setHostRecord h r).hostRecord h = r := by
  simp [hostRecord_setHostRecord]

@[simp] theorem hostRecord_setHostRecord_ne {h h' : HostId} (hne : h' ≠ h) (r : HostRecord) :
    (s.setHostRecord h r).hostRecord h' = s.hostRecord h' := by
  simp [hostRecord_setHostRecord, hne]

/-! ## The occupancy map (R10, R11) -/

theorem holder_holdSlot (q q' : PathSlot) (h : Holder) :
    (s.holdSlot q h).holder q' = if q' = q then some h else s.holder q' := by
  simp [holder, Vector.getElem_set, ← Fin.ext_iff, PathSlot.index_inj, eq_comm]

theorem holder_releaseSlot (q q' : PathSlot) :
    (s.releaseSlot q).holder q' = if q' = q then none else s.holder q' := by
  simp [holder, Vector.getElem_set, ← Fin.ext_iff, PathSlot.index_inj, eq_comm]

theorem holder_makeCurrent (q q' : PathSlot) (c : Circuit) :
    (s.makeCurrent q c).holder q' =
      if q' = q then some { circuit := c, role := .current } else s.holder q' := by
  simp [holder, Vector.getElem_set, ← Fin.ext_iff, PathSlot.index_inj, eq_comm]

theorem usedCount_holdSlot (q : PathSlot) (h : Holder) (p : Port) :
    (s.holdSlot q h).usedCount p = s.usedCount p + if p = q.port then 1 else 0 := by
  by_cases hp : p = q.port
  · subst hp; simp [usedCount]
  · simp [usedCount, ← Fin.ext_iff, hp, eq_comm (a := q.port)]

theorem usedCount_releaseSlot (q : PathSlot) (p : Port) :
    (s.releaseSlot q).usedCount p = s.usedCount p - if p = q.port then 1 else 0 := by
  by_cases hp : p = q.port
  · subst hp; simp [usedCount]
  · simp [usedCount, ← Fin.ext_iff, hp, eq_comm (a := q.port)]

/-! ## Parameters (R168, R68) -/

theorem param_setParam (x y : Param) (v : Nat) :
    (s.setParam x v).param y = if y = x then v else s.param y := by
  by_cases h : y = x
  · subst h; simp [param]
  · have : x.id ≠ y.id := fun e => h (paramId_injective e).symm
    simp [param, Vector.getElem_set, h, Fin.ext_iff] at this ⊢
    simp [this]

end State

end Sys2Proof.Machine
end

