-- ==== Sys2Proof/Laws/Effects.lean ====
section
/-! SUPPORT. What each shared operation writes, said once: the value of every entry it may change. With the
frames, these are what a proof about a command cites in place of the operations' definitions. -/

namespace Sys2Proof.Machine.State

variable (s : State)

/-! ## Reads depend on their own table -/

theorem route_congr {s t : State} (h : s.routes = t.routes) (c : Circuit) : s.route c = t.route c := by
  simp [route, h]

theorem holder_congr {s t : State} (h : s.occ = t.occ) (q : PathSlot) : s.holder q = t.holder q := by
  simp [holder, h]

theorem usedCount_congr {s t : State} (h : s.used = t.used) (p : Port) :
    s.usedCount p = t.usedCount p := by
  simp [usedCount, h]

theorem port_congr {s t : State} (h : s.ports = t.ports) (p : Port) : s.port p = t.port p := by
  simp [port, h]

theorem control_congr {s t : State} (h : s.ctl = t.ctl) (p : Port) : s.control p = t.control p := by
  simp [control, h]

theorem param_congr {s t : State} (h : s.params = t.params) (x : Param) : s.param x = t.param x := by
  simp [param, h]

theorem queued_congr {s t : State} (h : s.sweep.queued = t.sweep.queued) (c : Circuit) :
    s.queued c = t.queued c := by
  simp [queued, h]

theorem strandedHas_congr {s t : State} (h : s.sweep.stranded = t.sweep.stranded) (c : Circuit) :
    s.strandedHas c = t.strandedHas c := by
  simp [strandedHas, h]

/-! ## The sweep queue and the stranded set -/

theorem queued_joinQueue (c d : Circuit) :
    (s.joinQueue c).queued d = (decide (d = c) || s.queued d) := by
  by_cases h : d = c
  · subst h; simp [queued, joinQueue]
  · have : c.val ≠ d.val := fun e => h (Fin.ext e.symm)
    simp [queued, joinQueue, h, this]

theorem queued_leaveQueue (c d : Circuit) :
    (s.leaveQueue c).queued d = (decide (d ≠ c) && s.queued d) := by
  by_cases h : d = c
  · subst h; simp [queued, leaveQueue]
  · have : c.val ≠ d.val := fun e => h (Fin.ext e.symm)
    simp [queued, leaveQueue, h, this]

theorem strandedHas_joinStranded (c d : Circuit) :
    (s.joinStranded c).strandedHas d = (decide (d = c) || s.strandedHas d) := by
  by_cases h : d = c
  · subst h; simp [strandedHas, joinStranded]
  · have : c.val ≠ d.val := fun e => h (Fin.ext e.symm)
    simp [strandedHas, joinStranded, h, this]

theorem strandedHas_leaveStranded (c d : Circuit) :
    (s.leaveStranded c).strandedHas d = (decide (d ≠ c) && s.strandedHas d) := by
  by_cases h : d = c
  · subst h; simp [strandedHas, leaveStranded]
  · have : c.val ≠ d.val := fun e => h (Fin.ext e.symm)
    simp [strandedHas, leaveStranded, h, this]

@[simp] theorem queued_settleSweep (c : Circuit) : s.settleSweep.queued c = s.queued c := by
  unfold settleSweep; split_ifs <;> rfl

@[simp] theorem strandedHas_settleSweep (c : Circuit) :
    s.settleSweep.strandedHas c = s.strandedHas c := by
  unfold settleSweep; split_ifs <;> rfl

theorem any_queued_iff : allCircuits.any s.queued = true ↔ ∃ c, s.queued c = true := by
  simp [List.any_eq_true]

/-- R111: once the sweep has settled, the engine is RUNNING exactly while the queue holds a circuit. -/
theorem settleSweep_runningLaw : RunningLaw s.settleSweep := by
  unfold RunningLaw
  simp only [queued_settleSweep]
  rw [← any_queued_iff]
  unfold settleSweep
  split_ifs with h h'
  · simp [h]
  · simp [h, raise]
  · simp [h, h']

/-- A sweep that settles with a circuit in the queue raises nothing. -/
theorem settleSweep_of_queued {c : Circuit} (h : s.queued c = true) :
    s.settleSweep = s.setSweep { s.sweep with state := .running } := by
  unfold settleSweep
  rw [if_pos ((any_queued_iff s).mpr ⟨c, h⟩)]

/-- A sweep whose engine state already agrees with its queue settles without a change. -/
theorem settleSweep_of_runningLaw (h : RunningLaw s) : s.settleSweep = s := by
  unfold settleSweep
  unfold RunningLaw at h
  rw [← any_queued_iff] at h
  split_ifs with h1 h2
  · rw [← h.mpr h1]; rfl
  · exact absurd (h.mp h2) h1
  · rfl

@[simp] theorem settleSweep_handed :
    s.settleSweep.handed.downEntries = s.handed.downEntries ∧
    s.settleSweep.handed.upEntries = s.handed.upEntries ∧
    s.settleSweep.handed.portDrains = s.handed.portDrains ∧
    s.settleSweep.handed.groupDrains = s.handed.groupDrains := by
  unfold settleSweep; split_ifs <;> simp

/-! ## Capacity events (R12, R123) -/

theorem route_capacityEvent (c : Circuit) :
    s.capacityEvent.route c =
      if s.strandedHas c then { s.route c with standing := .displaced } else s.route c := by
  simp [capacityEvent, route]

theorem queued_capacityEvent (c : Circuit) :
    s.capacityEvent.queued c = (s.queued c || s.strandedHas c) := by
  simp [capacityEvent, queued]

@[simp] theorem strandedHas_capacityEvent (c : Circuit) : s.capacityEvent.strandedHas c = false := by
  simp [capacityEvent, strandedHas]

theorem route_capacityIf (b : Bool) (c : Circuit) :
    (s.capacityIf b).route c =
      if b && s.strandedHas c then { s.route c with standing := .displaced } else s.route c := by
  cases b <;> simp [capacityIf, route_capacityEvent]

theorem queued_capacityIf (b : Bool) (c : Circuit) :
    (s.capacityIf b).queued c = (s.queued c || (b && s.strandedHas c)) := by
  cases b <;> simp [capacityIf, queued_capacityEvent]

theorem strandedHas_capacityIf (b : Bool) (c : Circuit) :
    (s.capacityIf b).strandedHas c = (!b && s.strandedHas c) := by
  cases b <;> simp [capacityIf]

/-! ## Cutover and moves (R119, R132) -/

@[simp] theorem settleSweep_route (c : Circuit) : s.settleSweep.route c = s.route c :=
  route_congr (by simp) c

@[simp] theorem settleSweep_holder (q : PathSlot) : s.settleSweep.holder q = s.holder q :=
  holder_congr (by simp) q

@[simp] theorem settleSweep_usedCount (p : Port) : s.settleSweep.usedCount p = s.usedCount p :=
  usedCount_congr (by simp) p

@[simp] theorem capacityIf_holder (b : Bool) (q : PathSlot) : (s.capacityIf b).holder q = s.holder q :=
  holder_congr (by simp) q

@[simp] theorem capacityIf_usedCount (b : Bool) (p : Port) :
    (s.capacityIf b).usedCount p = s.usedCount p :=
  usedCount_congr (by simp) p

@[simp] theorem setRoute_holder (c : Circuit) (r : Route) (q : PathSlot) :
    (s.setRoute c r).holder q = s.holder q := rfl

@[simp] theorem setRoute_usedCount (c : Circuit) (r : Route) (p : Port) :
    (s.setRoute c r).usedCount p = s.usedCount p := rfl

@[simp] theorem setRoute_queued (c d : Circuit) (r : Route) :
    (s.setRoute c r).queued d = s.queued d := rfl

@[simp] theorem setRoute_strandedHas (c d : Circuit) (r : Route) :
    (s.setRoute c r).strandedHas d = s.strandedHas d := rfl

@[simp] theorem releaseSlot_route (q : PathSlot) (c : Circuit) :
    (s.releaseSlot q).route c = s.route c := rfl

@[simp] theorem holdSlot_route (q : PathSlot) (h : Holder) (c : Circuit) :
    (s.holdSlot q h).route c = s.route c := rfl

@[simp] theorem makeCurrent_route (q : PathSlot) (c d : Circuit) :
    (s.makeCurrent q c).route d = s.route d := rfl

@[simp] theorem releaseSlot_strandedHas (q : PathSlot) (c : Circuit) :
    (s.releaseSlot q).strandedHas c = s.strandedHas c := rfl

@[simp] theorem holdSlot_strandedHas (q : PathSlot) (h : Holder) (c : Circuit) :
    (s.holdSlot q h).strandedHas c = s.strandedHas c := rfl

@[simp] theorem makeCurrent_strandedHas (q : PathSlot) (c d : Circuit) :
    (s.makeCurrent q c).strandedHas d = s.strandedHas d := rfl

theorem route_cutover {c : Circuit} (hc : s.strandedHas c = false) (cur : CurrentSet) (m : StagedSet)
    (d : Circuit) :
    (s.cutover c cur m).route d =
      if d = c then
        { s.route c with standing := .routed m.asCurrent, moves := bump8 (s.route c).moves }
      else if s.inService cur.path.port && s.strandedHas d then
        { s.route d with standing := .displaced }
      else s.route d := by
  unfold cutover
  by_cases hd : d = c <;> simp [route_capacityIf, hd, hc]

theorem holder_cutover (c : Circuit) {cur : CurrentSet} {m : StagedSet} (q : PathSlot) :
    (s.cutover c cur m).holder q =
      if q = cur.path then none
      else if q = m.path then some { circuit := c, role := .current } else s.holder q := by
  unfold cutover
  simp [holder_releaseSlot, holder_makeCurrent]

theorem usedCount_cutover (c : Circuit) (cur : CurrentSet) (m : StagedSet) (p : Port) :
    (s.cutover c cur m).usedCount p =
      s.usedCount p - if p = cur.path.port then 1 else 0 := by
  unfold cutover
  simp only [settleSweep_usedCount, capacityIf_usedCount, setRoute_usedCount, usedCount_releaseSlot]
  rfl

theorem route_movePrompt {c : Circuit} (hc : s.strandedHas c = false) (old found : CurrentSet)
    (d : Circuit) :
    (s.movePrompt c old found).route d =
      if d = c then
        { s.route c with standing := .routed found, moves := bump8 (s.route c).moves }
      else if s.inService old.path.port && s.strandedHas d then
        { s.route d with standing := .displaced }
      else s.route d := by
  unfold movePrompt
  by_cases hd : d = c <;> simp [route_capacityIf, hd, hc]

/-! ## Review (R113) -/

theorem queued_reviewWhere (picks : CurrentSet → Bool) (c : Circuit) :
    (s.reviewWhere picks).queued c = true ↔
      s.queued c = true ∨ ∃ cur, (s.route c).standing = .routed cur ∧ picks cur = true := by
  simp only [reviewWhere, queued_settleSweep]
  cases h : (s.route c).standing <;> simp [queued, h]

@[simp] theorem strandedHas_reviewWhere (picks : CurrentSet → Bool) (c : Circuit) :
    (s.reviewWhere picks).strandedHas c = s.strandedHas c := by
  simp only [reviewWhere, strandedHas_settleSweep]
  simp [strandedHas]

/-! ## The departure of a port (R13, R134, R135) -/

theorem route_portDeparture (p : Port) (c : Circuit) :
    (s.portDeparture p).route c = departRoute p (s.route c) := by
  unfold portDeparture
  rw [route_congr (settleSweep_frame _).1]
  simp [route]

theorem holder_portDeparture (p : Port) (q : PathSlot) :
    (s.portDeparture p).holder q = s.departSlot p q := by
  unfold portDeparture
  rw [holder_congr (settleSweep_frame _).2.1]
  simp [holder]

theorem usedCount_portDeparture (p q : Port) :
    (s.portDeparture p).usedCount q = if q = p then 0 else s.usedCount q := by
  unfold portDeparture
  rw [usedCount_congr (settleSweep_frame _).2.2.1]
  simp [usedCount, Vector.getElem_set, Fin.ext_iff, eq_comm]

theorem queued_portDeparture (p : Port) (c : Circuit) :
    (s.portDeparture p).queued c = (s.queued c || departJoins p (s.route c)) := by
  unfold portDeparture
  rw [queued_settleSweep]
  simp [queued]

@[simp] theorem strandedHas_portDeparture (p : Port) (c : Circuit) :
    (s.portDeparture p).strandedHas c = s.strandedHas c := by
  unfold portDeparture
  rw [strandedHas_settleSweep]
  simp [strandedHas]

/-! ## The probe checker (R85, R89) -/

theorem takeProbe_of_busy (h : s.checker.state ≠ .idle) : s.takeProbe = s := by
  unfold takeProbe
  split
  · exact absurd ‹_› h
  · rfl

theorem takeProbe_of_empty (h : s.checker.queue = []) : s.takeProbe = s := by
  unfold takeProbe
  split
  · simp_all
  · rfl

/-- R85: what the IDLE checker does with the oldest entry. -/
theorem takeProbe_of_entry {e : ProbeEntry} {rest : List ProbeEntry}
    (hi : s.checker.state = .idle) (hq : s.checker.queue = e :: rest) :
    s.takeProbe =
      { s with
        checker :=
          { state := .seeding e, generator := Stages.ones, check := Stages.ones, seeds := []
            compared := 0, errors := 0, length := s.param .probeLen
            limit := s.param .probeMaxErr, queue := rest, started := false, returned := none }
        ports :=
          match e.kind with
          | .recovery => s.ports.set e.port { s.port e.port with state := .probing }
          | .demand => s.ports } := by
  unfold takeProbe
  rw [hi, hq]
  cases h : e.kind <;> simp [h, setChecker, setPort]

/-- The checker takes no port's score or counts with its entry. -/
@[simp] theorem takeProbe_port_score (p : Port) :
    (s.takeProbe.port p).h = (s.port p).h ∧ (s.takeProbe.port p).counts = (s.port p).counts ∧
    (s.takeProbe.port p).q = (s.port p).q ∧ (s.takeProbe.port p).losHold = (s.port p).losHold ∧
    (s.takeProbe.port p).ceiling = (s.port p).ceiling ∧
    (s.takeProbe.port p).failBack = (s.port p).failBack := by
  unfold takeProbe
  split
  · rename_i e rest _ _
    cases e.kind <;> simp only [port_setPort]
    · by_cases hp : p = e.port
      · subst hp; simp [port]
      · simp [hp, port]
    · simp [port]
  · simp

@[simp] theorem cancelProbe_port_score (p q : Port) :
    ((s.cancelProbe p).port q).h = (s.port q).h ∧
    ((s.cancelProbe p).port q).counts = (s.port q).counts ∧
    ((s.cancelProbe p).port q).q = (s.port q).q ∧
    ((s.cancelProbe p).port q).losHold = (s.port q).losHold ∧
    ((s.cancelProbe p).port q).ceiling = (s.port q).ceiling ∧
    ((s.cancelProbe p).port q).failBack = (s.port q).failBack := by
  unfold cancelProbe
  split_ifs
  · simp only [takeProbe_port_score]
    exact ⟨rfl, rfl, rfl, rfl, rfl, rfl⟩
  · exact ⟨rfl, rfl, rfl, rfl, rfl, rfl⟩

/-! ## The health monitor (R62 to R64) -/

@[simp] theorem latchIfLost_port (p : Port) : s.latchIfLost.port p = s.port p :=
  port_congr (by simp) p

@[simp] theorem portDeparture_port (p q : Port) : (s.portDeparture p).port q = s.port q :=
  port_congr (by simp) q

@[simp] theorem capacityEvent_port (p : Port) : s.capacityEvent.port p = s.port p :=
  port_congr (by simp) p

@[simp] theorem settleSweep_port (p : Port) : s.settleSweep.port p = s.port p :=
  port_congr (by simp) p

@[simp] theorem raise_port (o : Occurrence) (p : Port) : (s.raise o).port p = s.port p := rfl

@[simp] theorem handDownEntry_port (p q : Port) : (s.handDownEntry p).port q = s.port q := rfl

@[simp] theorem handUpEntry_port (p q : Port) : (s.handUpEntry p).port q = s.port q := rfl

@[simp] theorem handPortDrain_port (p q : Port) : (s.handPortDrain p).port q = s.port q := rfl

/-- A departure changes no score, and no count but `down`. -/
theorem leaveService_port_score (p : Port) (x : PortState) (q : Port) :
    ((s.leaveService p x).port q).h = (s.port q).h ∧
    ((s.leaveService p x).port q).counts.fae = (s.port q).counts.fae ∧
    ((s.leaveService p x).port q).counts.ccf = (s.port q).counts.ccf ∧
    ((s.leaveService p x).port q).counts.ferd = (s.port q).counts.ferd ∧
    ((s.leaveService p x).port q).counts.los = (s.port q).counts.los ∧
    ((s.leaveService p x).port q).counts.overrun = (s.port q).counts.overrun ∧
    ((s.leaveService p x).port q).losHold = (s.port q).losHold := by
  simp only [leaveService, latchIfLost_port, cancelProbe_port_score, portDeparture_port]
  by_cases h : x = .down <;> by_cases hq : q = p <;>
    simp [h, hq, departedRecord]

/-- An entry into SUSPECT changes the state and the fail-back timer of its port alone. -/
theorem enterSuspect_port (p q : Port) :
    (s.enterSuspect p).port q =
      if q = p then { s.port p with state := .suspect, failBack := none } else s.port q := by
  unfold enterSuspect
  dsimp only
  split_ifs with h hq <;> simp_all

/-- An entry into UP changes the state and the fail-back timer of its port alone. -/
theorem enterUp_port (p q : Port) :
    (s.enterUp p).port q =
      if q = p then
        { s.port p with
          state := .up
          failBack :=
            if s.isOn .failBackEnable then some (s.param .failBackDelay) else none }
      else s.port q := by
  unfold enterUp
  simp [port_setPort]

theorem setback_port_score (p q : Port) :
    ((s.setback p).port q).h = (s.port q).h ∧
    ((s.setback p).port q).counts = (s.port q).counts := by
  simp only [setback, cancelProbe_port_score]
  by_cases hq : q = p <;> simp [hq]

/-- R63: the comparison with the thresholds changes no score, and no count but `down`. -/
theorem compareScore_port_score (p q : Port) :
    ((s.compareScore p).port q).h = (s.port q).h ∧
    ((s.compareScore p).port q).counts.fae = (s.port q).counts.fae ∧
    ((s.compareScore p).port q).counts.ccf = (s.port q).counts.ccf ∧
    ((s.compareScore p).port q).counts.ferd = (s.port q).counts.ferd ∧
    ((s.compareScore p).port q).counts.los = (s.port q).counts.los ∧
    ((s.compareScore p).port q).counts.overrun = (s.port q).counts.overrun := by
  have hl := s.leaveService_port_score p .down q
  have hb := s.setback_port_score p q
  unfold compareScore
  dsimp only
  split
  · split_ifs
    · exact ⟨hl.1, hl.2.1, hl.2.2.1, hl.2.2.2.1, hl.2.2.2.2.1, hl.2.2.2.2.2.1⟩
    · rw [enterSuspect_port]
      split_ifs with hq <;> simp [hq]
    · simp
  · split_ifs
    · exact ⟨hl.1, hl.2.1, hl.2.2.1, hl.2.2.2.1, hl.2.2.2.2.1, hl.2.2.2.2.2.1⟩
    · simp
  · split_ifs
    · simp [hb.1, hb.2]
    · simp
  · split_ifs
    · simp [hb.1, hb.2]
    · simp
  all_goals simp

/-- R62: the score of the port of a weighted line event, and of every other. -/
theorem lineEvent_h (p q : Port) (e : LineEvent) :
    ((s.lineEvent p e).port q).h =
      if q = p then scored (s.port p).h (s.weight e) else (s.port q).h := by
  unfold lineEvent
  rw [(compareScore_port_score _ _ _).1]
  by_cases hq : q = p <;> simp [countEvent, addScore, hq, scored, satAdd]

/-- R75: the FAE, CCF and FERD counts after a weighted line event, `down` apart. -/
theorem lineEvent_counts (p q : Port) (e : LineEvent) :
    ((s.lineEvent p e).port q).counts.fae =
      (if q = p then (s.port p).counts.count e else (s.port q).counts).fae ∧
    ((s.lineEvent p e).port q).counts.ccf =
      (if q = p then (s.port p).counts.count e else (s.port q).counts).ccf ∧
    ((s.lineEvent p e).port q).counts.ferd =
      (if q = p then (s.port p).counts.count e else (s.port q).counts).ferd ∧
    ((s.lineEvent p e).port q).counts.los =
      (if q = p then (s.port p).counts.count e else (s.port q).counts).los ∧
    ((s.lineEvent p e).port q).counts.overrun =
      (if q = p then (s.port p).counts.count e else (s.port q).counts).overrun := by
  unfold lineEvent
  have h := compareScore_port_score ((s.addScore p (s.weight e)).countEvent p e) p q
  rw [h.2.1, h.2.2.1, h.2.2.2.1, h.2.2.2.2.1, h.2.2.2.2.2]
  by_cases hq : q = p <;> simp [countEvent, addScore, hq]

/-! ## The end of a record (R56, R161) -/

/-- A record that ends leaves the records behind it, and the receiver, as they are. -/
theorem ended_endRecord (p q : Port) (e : RecordEnd) :
    ((s.endRecord p e).control q).ended = (s.control q).ended ∧
    ((s.endRecord p e).control q).rx = (s.control q).rx := by
  have line : (s.lineEvent p .ccf).control q = s.control q := control_congr (by simp) q
  unfold endRecord
  split
  · rw [line]; exact ⟨rfl, rfl⟩
  · split
    · unfold acceptRecord
      dsimp only
      split
      · by_cases h : q = p <;> simp [h]
      · have keep : ∀ (u : State) (r : PortRecord), (u.setPort p r).control q = u.control q :=
          fun _ _ => rfl
        rw [keep]
        by_cases h : q = p <;> simp [h]
    · rw [line]; exact ⟨rfl, rfl⟩

theorem takeEnded_of_nil {p : Port} (h : (s.control p).ended = []) : s.takeEnded p = s := by
  simp [takeEnded, h]

theorem takeEnded_of_cons {p : Port} {e : RecordEnd} {rest : List RecordEnd}
    (h : (s.control p).ended = e :: rest) :
    s.takeEnded p = (s.setControl p { s.control p with ended := rest }).endRecord p e := by
  simp [takeEnded, h]

theorem ended_takeEnded {p : Port} {e : RecordEnd} {rest : List RecordEnd}
    (h : (s.control p).ended = e :: rest) : ((s.takeEnded p).control p).ended = rest := by
  rw [takeEnded_of_cons s h, (ended_endRecord _ p p e).1, control_setControl_self]

theorem takeAllEnded_of_nil {p : Port} (h : (s.control p).ended = []) : s.takeAllEnded p = s := by
  simp [takeAllEnded, h]

/-- Taking every ended record is taking the oldest and then the others. -/
theorem takeAllEnded_of_cons {p : Port} {e : RecordEnd} {rest : List RecordEnd}
    (h : (s.control p).ended = e :: rest) :
    s.takeAllEnded p = (s.takeEnded p).takeAllEnded p := by
  simp only [takeAllEnded, ended_takeEnded s h, h, List.foldl_cons]

/-- No record of the port is left once all have been taken. -/
theorem ended_takeAllEnded (p : Port) : ((s.takeAllEnded p).control p).ended = [] := by
  generalize hl : (s.control p).ended = l
  induction l generalizing s with
  | nil => rw [takeAllEnded_of_nil s hl, hl]
  | cons e rest ih =>
    rw [takeAllEnded_of_cons s hl]
    exact ih _ (ended_takeEnded s hl)

/-! ## The checker's octet (R86, R87) -/

/-- The octet of a frame period that the checker does not handle. -/
theorem stepChecker_of_waiting (h : s.checker.started = false ∨ s.checker.state = .idle) :
    s.stepChecker = s.setChecker { s.checker with returned := none } := by
  unfold stepChecker
  dsimp only
  split <;> simp_all

theorem stepChecker_of_seeding {e : ProbeEntry} (hs : s.checker.started = true)
    (h : s.checker.state = .seeding e) :
    s.stepChecker =
      s.setChecker
        { s.checker.seed e ((s.returnedOctet e.port).getD 0) with returned := none } := by
  simp [stepChecker, hs, h]

theorem stepChecker_of_counting {e : ProbeEntry} (hs : s.checker.started = true)
    (h : s.checker.state = .counting e) : s.stepChecker = s.countOctet e := by
  simp [stepChecker, hs, h]

/-- R87: an octet before the last is compared and counted, and nothing else happens. -/
theorem countOctet_of_more {e : ProbeEntry} (h : s.checker.state = .counting e)
    (more : s.checker.compared + 1 < s.checker.length) :
    s.countOctet e =
      s.setChecker { s.checker.compare (s.returnedOctet e.port) with returned := none } := by
  unfold countOctet
  rw [if_neg]
  simp [Checker.complete, Checker.compare, h, more]

/-- R87: the last octet is compared and completes the probe. -/
theorem countOctet_of_last {e : ProbeEntry} (h : s.checker.state = .counting e)
    (last : s.checker.compared + 1 = s.checker.length) :
    s.countOctet e =
      (s.setChecker
        { s.checker.compare (s.returnedOctet e.port) with returned := none }).finishProbe e := by
  unfold countOctet
  rw [if_pos]
  simp [Checker.complete, Checker.compare, h, last]

/-! ## The hunted frame period (R55) -/

/-- R55: a period hunted from end to end, judged by the line's measure as the period ends, is judged by the
measure before it and the transitions in it. -/
theorem huntedWhole_measureLines (a b : BitVec 8) (p : Port) :
    (s.measureLines a b).huntedWhole p = s.huntsThrough b p := by
  have h8 : ∀ m : LineMeasure, ∀ x : Bool,
      (!onsetDue (measureAfter m x)) = (x || decide (m.sinceTransition.val < 7)) := by
    rintro ⟨n, k⟩ x
    revert n k x
    decide
  have hf : ((s.measureLines a b).pathRx p) =
      { s.pathRx p with
        framer :=
          { (s.pathRx p).framer with
            measure := measureAfter (s.pathRx p).framer.measure (b.getLsbD p.val) } } :=
    Vector.getElem_ofFn p.isLt
  simp only [huntedWhole, huntsThrough, hf, h8]

/-! ## The resolver (R27 to R40) -/

/-- R29, R30, R34 to R36: what a pass may find. -/
theorem walk_result (pass : Pass) (c : Circuit) (n : Nat) (w : Walk) {q : PathSlot} {via : Desc}
    {first : Bool} (h : s.walk pass c n w = .result q via first) :
    s.usable pass c q = true ∧
    (∃ rule alternative, (s.desc via).kind = .path q.port rule alternative) ∧
    (s.desc via).withdrawn = false ∧ (s.desc via).tier ≤ (s.route c).fields.tier := by
  induction n generalizing w with
  | zero => simp [walk] at h
  | succ n ih =>
    unfold walk at h
    dsimp only at h
    split_ifs at h with hw ht
    split at h
    · exact ih _ h
    · rename_i p rule alternative hk
      split at h
      · rename_i m hm
        cases h
        refine ⟨(Option.filter_eq_some_iff.mp hm).2, ⟨rule, alternative, hk⟩, by simpa using hw, ?_⟩
        refine le_trans ?_ (not_lt.mp ht)
        unfold raiseTier
        split
        · exact le_refl _
        · exact le_max_right _ _
      · split at h
        · cases h
        · exact ih _ h

/-- R38 to R40: a result of a resolution is the result of one of its passes, preferred only in the first. -/
theorem resolve_result {c : Circuit} {found : CurrentSet} (h : s.resolve c = .result found) :
    ∃ pass first, s.runPass pass c = .result found.path found.via first ∧
      (found.preferred = true → pass = .first) := by
  unfold resolve at h
  split at h
  · rename_i path via first hp
    cases h
    exact ⟨.first, first, hp, fun _ => rfl⟩
  · split at h
    · rename_i path via first hp
      cases h
      exact ⟨.second, first, hp, fun hf => absurd hf (by simp)⟩
    · cases h
    · cases h

/-! ## Parameters (R68, R168) -/

/-- R168: a parameter that is no threshold is stored clamped, and no other changes. -/
theorem param_storeParam_plain {x : Param} (h : isThreshold x = false) (v : Nat) (y : Param) :
    (s.storeParam x v).param y = if y = x then clampParam x v else s.param y := by
  simp [storeParam, h, param_setParam]

/-- R68: the three thresholds after a threshold has been written. -/
theorem param_storeParam_threshold {x : Param} (h : isThreshold x = true) (v : Nat) :
    let u := s.setParam x (clampParam x v)
    let su := min (u.param .suspectAt) (u.param .downAt)
    (s.storeParam x v).param .downAt = u.param .downAt ∧
    (s.storeParam x v).param .suspectAt = su ∧
    (s.storeParam x v).param .recoverBelow =
      (if su ≤ u.param .recoverBelow then su - 1 else u.param .recoverBelow) ∧
    ∀ y, isThreshold y = false → (s.storeParam x v).param y = s.param y := by
  intro u su
  have hs : s.storeParam x v = u.capSuspectAt.capRecoverBelow := by simp [storeParam, h, u]
  have hsu : u.capSuspectAt.param .suspectAt = su := by
    unfold capSuspectAt
    split_ifs with hc
    · rw [param_setParam, if_pos rfl]; omega
    · omega
  have hdn : u.capSuspectAt.param .downAt = u.param .downAt := by
    unfold capSuspectAt; split_ifs <;> simp [param_setParam]
  have hrb : u.capSuspectAt.param .recoverBelow = u.param .recoverBelow := by
    unfold capSuspectAt; split_ifs <;> simp [param_setParam]
  have ho : ∀ y, isThreshold y = false → u.capSuspectAt.param y = s.param y := by
    intro y hy
    have h1 : y ≠ x := by rintro rfl; simp [h] at hy
    have h2 : y ≠ .suspectAt := by rintro rfl; simp [isThreshold] at hy
    unfold capSuspectAt; split_ifs <;> simp [param_setParam, u, h1, h2]
  rw [hs]
  unfold capRecoverBelow
  rw [hsu, hrb]
  split_ifs with hc
  · refine ⟨by simp [param_setParam, hdn], by simp [param_setParam, hsu], by simp [param_setParam], ?_⟩
    intro y hy
    have h3 : y ≠ .recoverBelow := by rintro rfl; simp [isThreshold] at hy
    simp [param_setParam, h3, ho y hy]
  · exact ⟨hdn, hsu, hrb, ho⟩

/-! ## The request engine (R163 to R166) -/

/-- R163: an engine that holds a request takes no other. -/
theorem takeRequest_of_held {h : HeldRequest} (hh : s.engine.held = some h)
    (serves : List Octet → Bool) : s.takeRequest serves = s := by
  simp [takeRequest, engineFree, hh]

/-- R163: the run phase executes the request that the engine holds, when the row serves it. -/
theorem serve_run_of_held {h : HeldRequest} (hh : s.engine.held = some h)
    {serves : List Octet → Bool} (hs : serves h.body = true)
    (act : State → Port → List Octet → Answer) :
    s.serve .run serves act = s.execute h act := by
  simp [serve, takeRequest_of_held s hh, hh, hs]

/-- R164, R165: forming a response is `answered`, with the loss that the engine's request then shows. -/
theorem giveResponse_eq_answered (p : Port) (kind : Octet) (r : Result) (data : List Octet) :
    s.giveResponse p (s.responseBody p kind r data) =
      s.answered p s.responseLost kind r data := by
  simp [giveResponse, answered, responseBody, setControl, setEngine, control]

/-- R166: a refused request changes nothing but the control slot and the engine. -/
theorem execute_refuse {h : HeldRequest} (hh : s.engine.held = some h)
    {act : State → Port → List Octet → Answer} {r : Result}
    (ha : act s h.port h.body = refuse s r) :
    s.execute h act = s.answered h.port h.orphaned (h.body.headD 0) r [] := by
  simp [execute, ha, refuse, giveResponse_eq_answered, responseLost, hh]

/-- R166: an executed request is answered DONE on the state that the execution left. -/
theorem execute_accept {h : HeldRequest} {act : State → Port → List Octet → Answer} {u : State}
    {data : List Octet} (hu : u.engine.held = some h)
    (ha : act s h.port h.body = accept u data) :
    s.execute h act = u.answered h.port h.orphaned (h.body.headD 0) .done data := by
  simp [execute, ha, accept, giveResponse_eq_answered, responseLost, hu]

end Sys2Proof.Machine.State
end

