-- ==== Sys2Proof/WellFormed.lean ====
section
/-! DEFINITION. The checks on a command's operands that their types do not make. -/

namespace Sys2Proof

/-- The values an occurrence's detail can take: errors 0 to 65535 (R84), counts 0 to 128 (R140). -/
def Occurrence.wf : Occurrence → Bool
  | .probeResult _ errors _ => decide (errors ≤ 65535)
  | .bulkDone _ written skipped => decide (written + skipped ≤ 128)
  | _ => true

/-- Whether a command is well formed: a frame has the octets of its line's format (R46), an order names
a port or a record at most once, and an occurrence's detail is in range. -/
def Instr.wf : Instr → Bool
  | .framePeriod order _ _ => decide order.Nodup
  | .stationFrame _ octets => octets.length == 17
  | .pathFrame _ octets => octets.length == 33
  | .decayTick order => decide order.Nodup
  | .occurrenceRecorded o => o.wf
  | _ => true

end Sys2Proof
end

