-- ==== Sys2Proof/Tests/Slice0.lean ====
section
/-! SUPPORT. Tests of the model: the checks on commands, a few values that the spec works out, and for every
statement with hypotheses a state and operands that meet them. -/

open Sys2Proof Sys2Proof.Machine

namespace Sys2Proof.Tests

set_option maxRecDepth 100000

/-! ## Well-formedness: each check refuses an ill-formed command -/

theorem test_wf_framePeriod :
    (Instr.framePeriod [3, 0] 0 0).wf = true ∧ (Instr.framePeriod [3, 0, 3] 0 0).wf = false := by decide

theorem test_wf_stationFrame :
    (Instr.stationFrame 7 (List.replicate 17 0x9B)).wf = true ∧
    (Instr.stationFrame 7 (List.replicate 16 0x9B)).wf = false := by decide

theorem test_wf_pathFrame :
    (Instr.pathFrame 7 (List.replicate 33 0x9B)).wf = true ∧
    (Instr.pathFrame 7 (List.replicate 34 0x9B)).wf = false := by decide

theorem test_wf_decayTick :
    (Instr.decayTick [.port 1, .group 1]).wf = true ∧
    (Instr.decayTick [.group 1, .group 1]).wf = false := by decide

theorem test_wf_probeResult :
    (Instr.occurrenceRecorded (.probeResult 0 65535 true)).wf = true ∧
    (Instr.occurrenceRecorded (.probeResult 0 65536 true)).wf = false := by decide

theorem test_wf_bulkDone :
    (Instr.occurrenceRecorded (.bulkDone true 100 28)).wf = true ∧
    (Instr.occurrenceRecorded (.bulkDone true 100 29)).wf = false := by decide

/-! ## Checkers of the laws, which the kernel evaluates on a concrete state -/

/-- SweepLaws as a computation. -/
def sweepCheck (s : State) : Bool :=
  allCircuits.all (fun c =>
    (!decide ((s.route c).standing = .displaced) || s.queued c) &&
    (!s.queued c || decide ((s.route c).standing = .displaced) ||
      ((s.route c).standing.currentPath.isSome && (s.route c).standing.stagedPath.isNone)) &&
    (s.strandedHas c == decide ((s.route c).standing = .stranded))) &&
  (decide (s.sweep.state = .running) == allCircuits.any s.queued)

theorem sweepLaws_of_check {s : State} (h : sweepCheck s = true) : SweepLaws s := by
  simp only [sweepCheck, Bool.and_eq_true, List.all_eq_true, beq_iff_eq] at h
  refine ⟨fun c => ?_, ?_⟩
  · obtain ⟨⟨h1, h2⟩, h3⟩ := h.1 c (List.mem_finRange c)
    refine ⟨fun hd => by simpa [hd] using h1, fun hq => ?_, by rw [h3]; simp⟩
    cases hst : (s.route c).standing <;>
      simp_all [Standing.currentPath, Standing.stagedPath]
  · have := h.2
    unfold RunningLaw
    constructor
    · intro hr
      obtain ⟨c, -, hc⟩ : ∃ x ∈ allCircuits, s.queued x = true := by
        simpa [hr, List.any_eq_true] using this.symm
      exact ⟨c, hc⟩
    · rintro ⟨c, hc⟩
      have : allCircuits.any s.queued = true := List.any_eq_true.mpr ⟨c, List.mem_finRange c, hc⟩
      simp_all

/-- SlotLaws as a computation. -/
def slotCheck (s : State) : Bool :=
  allCircuits.all (fun c =>
    (match (s.route c).standing.currentPath with
      | some q => s.holder q == some ⟨c, .current⟩
      | none => true) &&
    (match (s.route c).standing.stagedPath with
      | some q => s.holder q == some ⟨c, .staged⟩
      | none => true)) &&
  allPorts.all (fun p =>
    decide (s.usedCount p = heldSlots s p) &&
    (List.finRange 30).all fun n =>
      match s.holder ⟨p, n⟩ with
      | none => true
      | some ⟨c, .current⟩ =>
        (s.route c).standing.currentPath == some ⟨p, n⟩ && s.inService p
      | some ⟨c, .staged⟩ => (s.route c).standing.stagedPath == some ⟨p, n⟩ && s.inService p)

theorem slotLaws_of_check {s : State} (h : slotCheck s = true) : SlotLaws s := by
  simp only [slotCheck, Bool.and_eq_true, List.all_eq_true] at h
  obtain ⟨hc, hp⟩ := h
  have key := fun p n => (hp p (List.mem_finRange p)).2 n (List.mem_finRange n)
  refine ⟨fun c p n => ⟨⟨fun hh => ?_, fun hh => ?_⟩, fun hh => ?_, fun hh => ?_⟩, fun p => ?_,
    fun p n hh => ?_⟩
  · have := key p n; rw [hh] at this; simp_all
  · have := (hc c (List.mem_finRange c)).1; rw [hh] at this; simpa using this
  · have := key p n; rw [hh] at this; simp_all
  · have := (hc c (List.mem_finRange c)).2; rw [hh] at this; simpa using this
  · exact of_decide_eq_true (hp p (List.mem_finRange p)).1
  · have := key p n
    obtain ⟨⟨c, r⟩, hx⟩ := Option.isSome_iff_exists.mp hh
    rw [hx] at this
    cases r <;> simp_all

/-- ProbeLaws as a computation. -/
def probeCheck (s : State) : Bool :=
  decide (((probeEntries s.checker).map ProbeEntry.port).Nodup) &&
  allPorts.all (fun p =>
    (decide ((s.port p).state = .awaitProbe) ==
      decide ((⟨p, .recovery⟩ : ProbeEntry) ∈ s.checker.queue)) &&
    (decide ((s.port p).state = .probing) ==
      decide (s.checker.state.entry = some ⟨p, .recovery⟩)) &&
    (!decide ((⟨p, .demand⟩ : ProbeEntry) ∈ probeEntries s.checker) ||
      (s.port p).state.takesDemand)) &&
  (!decide (s.checker.state = .idle) || decide (s.checker.queue = []))

theorem probeLaws_of_check {s : State} (h : probeCheck s = true) : ProbeLaws s := by
  simp only [probeCheck, Bool.and_eq_true, List.all_eq_true, beq_iff_eq, decide_eq_true_eq,
    decide_eq_decide] at h
  refine ⟨h.1.1, fun p => ?_, fun p hd => ?_, fun hi => ?_⟩
  · exact (h.1.2 p (List.mem_finRange p)).1
  · have := (h.1.2 p (List.mem_finRange p)).2
    simpa [hd] using this
  · have := h.2
    simpa [hi] using this

/-- ControlLaws as a computation. -/
def controlCheck (s : State) : Bool :=
  allPorts.all (fun p =>
    let c := s.control p
    decide (c.requests.length ≤ 2) && decide (c.responses.length ≤ 2) &&
    (s.serving p || (decide (c.rx = .hunt) && decide (c.ended = []) && decide (c.requests = []) &&
      decide (c.responses = []) && decide (c.sent = 0))) &&
    c.responses.all (fun b => !isResetResponse b || decide (s.engine.resetPhase ≠ .none))) &&
  (match s.engine.held with
    | none => true
    | some h => h.orphaned ||
        (s.serving h.port && decide ((s.control h.port).responses.length < 2))) &&
  (decide (s.engine.resetPhase = .none) || decide (s.engine.held = none)) &&
  (match s.engine.resetPhase with
    | .waiting p => (s.control p).responses.getLast?.any isResetResponse
    | _ => true)

theorem controlLaws_of_check {s : State} (h : controlCheck s = true) : ControlLaws s := by
  simp only [controlCheck, Bool.and_eq_true, List.all_eq_true, decide_eq_true_eq] at h
  obtain ⟨⟨⟨hp, hh⟩, hr⟩, hw⟩ := h
  refine ⟨fun p => (hp p (List.mem_finRange p)).1.1, fun p hs => ?_, fun x hx ho => ?_,
    fun hne => ?_, fun p body hb hrr hn => ?_, fun p hpp => ?_⟩
  · have := (hp p (List.mem_finRange p)).1.2
    simpa [hs, and_assoc] using this
  · rw [hx] at hh
    simpa [ho] using hh
  · simpa [hne] using hr
  · have := (hp p (List.mem_finRange p)).2 body hb
    simp [hrr, hn] at this
  · rw [hpp] at hw
    simpa [Option.any_eq_true] using hw

/-! ## Small states -/

/-- After a reset with every port in a state given. -/
def allPortsIn (x : PortState) : State :=
  { State.reset with ports := Vector.replicate 8 { PortRecord.reset with state := x } }

/-- A port's state. -/
def withPort (p : Port) (x : PortState) (s : State) : State :=
  s.setPort p { s.port p with state := x }

/-- A port's score. -/
def withScore (p : Port) (h : Nat) (s : State) : State := s.setPort p { s.port p with h := h }

/-- A port's receiver, on a line that carries signal. -/
def withRx (p : Port) (x : RxState) (s : State) : State :=
  s.setPathRx p
    { s.pathRx p with
      framer :=
        { (s.pathRx p).framer with state := x, measure := { sinceTransition := 0, withoutGap := 8 } } }

/-- A trunk's receiver. -/
def withTrunk (k : Trunk) (x : RxState) (bad : Nat) (s : State) : State :=
  s.setTrunk k { s.trunk k with state := x, badRun := bad }

/-- The engine holds a request of PP0. -/
def holding (body : List Octet) (s : State) : State :=
  s.setEngine { s.engine with held := some ⟨0, body, false⟩ }

/-- Every host strapped to a tier. -/
def trust (t : Tier) (s : State) : State :=
  { s with straps := { s.straps with tier := Vector.replicate 4 t } }

/-- A current set on a slot. -/
def onSlot (p : Port) (n : Slot) : CurrentSet := ⟨⟨p, n⟩, 0, true⟩

/-- A staged set on a slot, its hold run out and a block end handed on. -/
def stagedOn (p : Port) (n : Slot) : StagedSet := ⟨⟨p, n⟩, 1, false, 0, true, true⟩

/-- A circuit's standing, with its head D0. -/
def withRoute (c : Circuit) (x : Standing) (s : State) : State :=
  s.setRoute c { s.route c with standing := x, fields := { (s.route c).fields with head := some 0 } }

/-- PP0 SUSPECT and PP1 to PP7 UP, C0 ROUTED on PP0 slot 1, C1 STAGED from PP0 slot 2 to PP1 slot 30, C2
DISPLACED, C127 STRANDED. -/
def demo : State :=
  ((((((((withRoute 0 (.routed (onSlot 0 0))
    (withRoute 1 (.staged (onSlot 0 1) (stagedOn 1 29))
    (withRoute 2 .displaced (withRoute 127 .stranded
      (withPort 0 .suspect (allPortsIn .up))))))
    ).holdSlot ⟨0, 0⟩ ⟨0, .current⟩).holdSlot ⟨0, 1⟩ ⟨1, .current⟩).holdSlot ⟨1, 29⟩ ⟨1, .staged⟩
    ).joinQueue 2).joinStranded 127).settleSweep)

/-- What a command answers, the state given where it stops (no command does). -/
def after (i : Instr) (s : State) : State :=
  match exec i s with
  | .next t => t
  | _ => s

theorem demo_slotLaws : SlotLaws demo := slotLaws_of_check (by decide)
theorem demo_sweepLaws : SweepLaws demo := sweepLaws_of_check (by decide)
theorem demo_probeLaws : ProbeLaws demo := probeLaws_of_check (by decide)
theorem demo_controlLaws : ControlLaws demo := controlLaws_of_check (by decide)
theorem demo_stationLaw : StationLaw demo := by unfold StationLaw; decide

/-- The parameters' laws hold of the defaults. -/
theorem paramLaws_default {s : State} (h : s.params = defaultParams) : ParamLaws s := by
  have e : ∀ x, s.param x = State.reset.param x := fun x => by simp only [State.param, h]; rfl
  refine ⟨fun x => ?_, ?_, ?_⟩
  · rw [e]; clear e h; cases x <;> decide
  · unfold IntervalLaw; rw [e]; decide
  · unfold ThresholdLaw; simp only [e]; decide

theorem demo_paramLaws : ParamLaws demo := paramLaws_default rfl

theorem demo_portLaws : PortLaws demo := by
  refine ⟨fun p => ?_, fun p => ?_⟩
  · unfold PortInRange
    have hf : (demo.port p).failBack = none := by revert p; decide
    rw [hf]
    refine ⟨?_, ?_, ?_, ?_, ?_, ?_, ?_, ?_, ?_, ?_, ?_, by simp⟩ <;> revert p <;> decide
  · have : (demo.port p).failBack = none := by revert p; decide
    simp [this]

theorem demo_groupLaws : GroupLaws demo := by
  have e : ∀ g, (demo.group g).hold = none := by decide
  intro g n h
  simp [e g] at h

theorem demo_walkLaws : WalkLaws demo := by
  refine ⟨fun h => absurd h (by decide), by decide, by decide⟩

theorem demo_countLaws : CountLaws demo := by
  have timers : ∀ c, (demo.route c).moves ≤ 255 ∧
      (match (demo.route c).standing with
        | .staged _ m => decide (m.timer ≤ 60000)
        | _ => true) = true := by decide
  refine ⟨fun c => ⟨(timers c).1, fun cur m h => ?_⟩, ?_, fun h => ?_, fun k => ?_, fun p => ?_⟩
  · have := (timers c).2
    rw [h] at this
    exact of_decide_eq_true this
  · unfold CheckerInRange; decide
  · unfold TalliesInRange; revert h; decide
  · unfold FramerInRange; revert k; decide
  · unfold FramerInRange; revert p; decide

/-- ROUTED, said of the two paths. -/
theorem routed_iff (x : Standing) :
    (∃ cur, x = .routed cur) ↔ x.currentPath.isSome = true ∧ x.stagedPath = none := by
  cases x <;> simp [Standing.currentPath, Standing.stagedPath]

/-! ## Values that the spec works out -/

/-- R83: the first octets of the pattern. -/
theorem test_pattern :
    (Stages.octet 0x7FF#11).1 = 0x00 ∧
    (Stages.octet (Stages.octet 0x7FF#11).2).1 = 0x60 ∧
    (Stages.octet (Stages.octet (Stages.octet 0x7FF#11).2).2).1 = 0x3C := by decide

/-- A loop late by one frame, after an idle fill whose last three bits are ones, and one late by two, after
0xFF or 0x00, seed the register from which the octets that follow were made (log 35). -/
theorem test_late_loop_seeds :
    (∀ idle ∈ ([0xFF, 0x07] : List Octet),
      seedRegister idle (Stages.octet 0x7FF#11).1 = (Stages.octet 0x7FF#11).2) ∧
    (∀ idle ∈ ([0xFF, 0x00] : List Octet), seedRegister idle idle = 0x7FF#11) ∧
    seedRegister 0xFE (Stages.octet 0x7FF#11).1 ≠ (Stages.octet 0x7FF#11).2 := by decide

/-- R66: the table of decays at the default factor. -/
theorem test_decay_table :
    State.decayed 4095 4 = 3840 ∧ State.decayed 2014 4 = 1889 ∧ State.decayed 880 4 = 825 ∧ State.decayed 825 4 = 774 ∧
    State.decayed 16 4 = 15 ∧ State.decayed 5 4 = 4 ∧ State.decayed 1 4 = 0 ∧ State.decayed 0 4 = 0 := by decide

/-- R142: the rectangle of trunks 6 to 1 and slots 14 to 2. -/
theorem test_rectangle :
    let o : WalkOrder :=
      { trunkFirst := 6, trunkLast := 1, slotFirst := 14, slotLast := 2
        template := ⟨.idle, none, 0, 0, .prompt, .keep, 0⟩, originator := 0, originatorTier := 0 }
    o.total = 20 ∧
    (List.range 9).map (fun i => (circuitAt (o.trunkOfStep i) (o.slotOfStep i)).val) =
      [110, 126, 14, 30, 111, 127, 15, 31, 96] := by decide

/-- R32: OFFSET base 11 with the offset 29 wraps to slot 10. -/
theorem test_offset_wraps : State.reset.offeredSlot 0 0 (.offset 10) 29 = some 9 := by decide

/-- R161, R162: the check of a READ ROUTE of C37. -/
theorem test_record_check :
    recordOctets [0x10, 0x25] = [0xC3, 0x02, 0x10, 0x25, 0xC9] ∧
    recordSum 2 [0x10, 0x25] 0xC9 = 0 := by decide

/-- R16: the rows of the tier test. -/
theorem test_tier_table :
    tierTest 1 3 1 = true ∧ tierTest 1 3 0 = false ∧ tierTest 1 0 2 = false ∧
    tierTest 2 2 3 = true ∧ tierTest 3 3 3 = true ∧ tierTest 3 2 3 = false := by decide

/-- An empty queue leaves the card as it is (log 2). -/
theorem test_idle (s : State) (h : s.pending = []) : step s = .next s := by simp [step, h]

/-- A disabled event changes nothing: no frame has ended a response (log 1). -/
theorem test_disabled_event : step { State.reset with pending := [.responseSent 0] } =
    .next State.reset := by rfl

/-! ## A state that meets the hypotheses of each statement -/

theorem test_witness_StepRunsFrontCommand :
    ({ State.reset with pending := [.resolution, .bulkStep] } : State).pending =
      .resolution :: [.bulkStep] := rfl

theorem test_witness_EveryResetRestoresCard :
    (State.reset.setEngine { State.reset.engine with resetPhase := .due }).engine.resetPhase = .due := rfl

theorem test_witness_ResetExchangeRequest :
    let long := holding [0x5F, 0] State.reset
    let low := trust 1 (holding [0x5F] State.reset)
    let ok := holding [0x5F] State.reset
    let lost := State.reset.setEngine { State.reset.engine with held := some ⟨0, [0x5F], true⟩ }
    (long.engine.held = some ⟨0, 0x5F :: [0], false⟩ ∧ long.engine.resetPhase = .none) ∧
    (low.engine.held = some ⟨0, 0x5F :: [], false⟩ ∧ low.engine.resetPhase = .none ∧
      low.tierOf (low.hostOf 0) ≠ 0) ∧
    (ok.engine.held = some ⟨0, 0x5F :: [], false⟩ ∧ ok.engine.resetPhase = .none ∧
      ok.tierOf (ok.hostOf 0) = 0) ∧
    (lost.engine.held = some ⟨0, 0x5F :: [], true⟩ ∧ lost.engine.resetPhase = .none ∧
      lost.tierOf (lost.hostOf 0) = 0) := by decide

/-- The checker at an entry, with an octet returned or none, every port UP. -/
def probing (x : CheckerState) (seeds : List Octet) (compared : Nat) (returned : Option Octet)
    (queue : List ProbeEntry) : State :=
  (allPortsIn .up).setChecker
    { Checker.reset with
      state := x, seeds := seeds, compared := compared, started := true, returned := returned
      queue := queue }

/-- PP7 serving, with a response of three octets of which some have been sent. -/
def sending (n : Nat) : State :=
  (withRx 7 .aligned State.reset).setControl 7
    { Control.reset with responses := [[0x10, 0x03, 0x00]], sent := n }

theorem test_witness_NextFrameBegins :
    (after (.framePeriod [] 0xFF 0xFF) State.reset).serving 7 = false ∧
    ((after (.framePeriod [] 0xFF 0xFF) (withRx 7 .aligned State.reset)).serving 7 = true ∧
      ((withRx 7 .aligned State.reset).control 7).responses = []) ∧
    ((after (.framePeriod [] 0xFF 0xFF) (sending 0)).serving 7 = true ∧
      ((sending 0).control 7).responses = [0x10, 0x03, 0x00] :: [] ∧
      ((sending 0).control 7).sent < 3 + 3) ∧
    ((after (.framePeriod [] 0xFF 0xFF) (sending 5)).serving 7 = true ∧
      ((sending 5).control 7).sent < 3 + 3) ∧
    ((after (.framePeriod [] 0xFF 0xFF) (sending 6)).serving 7 = true ∧
      3 + 3 ≤ ((sending 6).control 7).sent) := by decide

/-- The checker keeps its entry, or has completed it and taken the next one. -/
theorem test_witness_NextFrameBegins_pattern :
    (let s := probing (.seeding ⟨7, .demand⟩) [0x60] 0 (some 0x3C) [];
      let t := after (.framePeriod [] 0xFF 0xFF) s;
      probeCheck s = true ∧ t.checker.state.entry = some ⟨7, .demand⟩ ∧
      t.exch.heads[(7 : Port)].probe = some 0x00 ∧ t.exch.heads[(0 : Port)].probe = none) ∧
    (let s := probing (.counting ⟨0, .demand⟩) [] 3999 none [⟨7, .demand⟩];
      probeCheck s = true ∧
      (after (.framePeriod [] 0xFF 0xFF) s).checker.state.entry = some ⟨7, .demand⟩) ∧
    (after (.framePeriod [] 0xFF 0xFF) State.reset).checker.state.entry = none := by decide

/-- PP0 hunting since the period began, on a line silent for some periods. -/
def hunting (silent : Fin 9) : State :=
  State.reset.setPathRx 0
    { framer := { state := .hunting, badRun := 0, pos := 0, candidates := []
                  measure := { sinceTransition := silent, withoutGap := 0 } }
      farEndReady := false, formRun := 0, beganHunting := true }

theorem test_witness_HuntingPeriodIsFae :
    (((hunting 6).pathRx 0).beganHunting = true ∧ ((hunting 6).pathRx 0).framer.state = .hunting ∧
      ((0 : BitVec 8).getLsbD 0 = true ∨
        ((hunting 6).pathRx 0).framer.measure.sinceTransition.val < 7)) ∧
    ¬(((hunting 7).pathRx 0).beganHunting = true ∧ ((hunting 7).pathRx 0).framer.state = .hunting ∧
      ((0 : BitVec 8).getLsbD 0 = true ∨
        ((hunting 7).pathRx 0).framer.measure.sinceTransition.val < 7)) := by decide

/-- The comparison after an FAE, at the thresholds and one below them. -/
theorem test_witness_ScoreCompared :
    ∀ x ∈ ([(.up, 1960, .down), (.up, 760, .suspect), (.up, 759, .up), (.suspect, 1959, .suspect),
        (.suspect, 1960, .down), (.down, 1960, .down), (.disabled, 1960, .disabled)] :
        List (PortState × Nat × PortState)),
      let s := withScore 0 x.2.1 (withPort 0 x.1 (hunting 6));
      probeCheck s = true ∧ ((after (.framePeriod [] 0 0) s).port 0).h = x.2.1 + 40 ∧
        ((after (.framePeriod [] 0 0) s).port 0).state = x.2.2 := by decide

theorem test_witness_QuietFramePeriod :
    (∀ p : Port, (demo.pathRx p).beganHunting = false) ∧
    (demo.time.frames + 1) % 8 ≠ 0 ∧
    (let s := demo.setTime { frames := 7, sinceDecay := 30, decayDue := 0 };
      (s.time.frames + 1) % 8 = 0 ∧ s.time.sinceDecay + 1 < s.param .decayInterval ∧
      (s.route 1).standing = .staged (onSlot 0 1) (stagedOn 1 29)) ∧
    (let s := demo.setTime { frames := 7, sinceDecay := 31, decayDue := 0 };
      (s.time.frames + 1) % 8 = 0 ∧ s.param .decayInterval ≤ s.time.sinceDecay + 1) ∧
    (demo.checker.started = false ∨ demo.checker.state = .idle) ∧
    (∀ r ∈ ([none, some 0x60] : List (Option Octet)), ∀ l ∈ ([[], [0x60]] : List (List Octet)),
      (probing (.seeding ⟨0, .demand⟩) l 0 r []).checker.started = true ∧
      (probing (.seeding ⟨0, .demand⟩) l 0 r []).checker.state = .seeding ⟨0, .demand⟩ ∧
      (probing (.seeding ⟨0, .demand⟩) l 0 r []).checker.seeds = l ∧
      (probing (.counting ⟨0, .demand⟩) l 3998 r []).checker.state = .counting ⟨0, .demand⟩ ∧
      (probing (.counting ⟨0, .demand⟩) l 3998 r []).checker.compared + 1 <
        (probing (.counting ⟨0, .demand⟩) l 3998 r []).checker.length ∧
      (probing (.counting ⟨0, .demand⟩) l 3998 r []).returnedOctet 0 = r) ∧
    (demo.port 7).state.looped = false ∧
    ((withPort 7 (.loopback true .up) demo).port 7).state.looped = true := by decide

/-- A frame period that PP0 hunts, the order given naming it first; the eighth of a millisecond as well. -/
theorem test_witness_QuietFramePeriod_hunting :
    (hunting 6).huntsThrough 0 0 = true ∧ (hunting 7).huntsThrough 0 0 = false ∧
    (hunting 7).huntsThrough 1 0 = true ∧ ([0, 7] : List Port).Nodup ∧
    portOrder [0, 7] = [0, 7, 1, 2, 3, 4, 5, 6] ∧
    (let s := withPort 0 .up ((hunting 6).setTime { frames := 7, sinceDecay := 31, decayDue := 0 });
      ((after (.framePeriod [0, 7] 0 0) s).port 0).counts.fae = 1 ∧
      (after (.framePeriod [0, 7] 0 0) s).time.decayDue = 1) := by decide

/-- `demo` one frame on, with trunk 0 aligned. -/
def framed : State :=
  (withTrunk 0 .aligned 2 (after (.framePeriod [] 0xFF 0xFF) demo)).setStationLost 0 false

theorem test_witness_StationFrameDelivered :
    (framed.trunk 0).state = .aligned ∧ (framed.trunk 0).pos = 0 ∧
    (framed.exch.view[(0 : Circuit)] = .carried ⟨0, 0⟩ ∧ trunkOf 0 = 0 ∧
      (framed.route 0).stationLost = false) ∧
    (framed.exch.view[(1 : Circuit)] = .carried ⟨0, 1⟩ ∧ trunkOf 1 = 0 ∧
      (framed.route 1).standing = .staged (onSlot 0 1) { stagedOn 1 29 with timer := 0 } ∧
      octetAt (List.replicate 16 0x03) (stationSlotOf 1).val = framed.codeOctet .blockEndCode ∧
      octetAt (List.replicate 16 0x55) (stationSlotOf 1).val ≠ framed.codeOctet .blockEndCode) ∧
    framed.exch.view[(2 : Circuit)] = .engaged := by decide

/-- R51, R52: the frame of a bad octet that does not end the run, and the first aligned frame after a
confirmation, are delivered; the frame of the third bad octet is not. -/
theorem test_trunk_deliveries :
    (let s := framed.setTrunk 0 { framed.trunk 0 with badRun := 1 };
      (after (.stationFrame 0 (0x00 :: List.replicate 16 0x55)) s).exch.toHost[(0 : Circuit)] =
        some 0x55) ∧
    (after (.stationFrame 0 (0x00 :: List.replicate 16 0x55)) framed).exch.toHost[(0 : Circuit)] =
      none ∧
    (let s := framed.setTrunk 0
        { framed.trunk 0 with state := .hunting, candidates := List.replicate 16 false ++ [true] };
      (after (.stationFrame 0 (0x9B :: List.replicate 16 0x55)) s).exch.toHost[(0 : Circuit)] =
        some 0x55) := by decide

theorem test_witness_TrunkAlignmentLostAndFound :
    (∀ n : Fin 3, ((withTrunk 7 .aligned n State.reset).trunk 7).state = .aligned ∧
      ((withTrunk 7 .aligned n State.reset).trunk 7).pos = 0 ∧
      ((withTrunk 7 .aligned n State.reset).trunk 7).badRun = n.val) ∧
    (let f : Framer :=
      { state := .hunting, badRun := 0, pos := 0, candidates := List.replicate 16 false ++ [true]
        measure := { sinceTransition := 0, withoutGap := 8 } };
      ((State.reset.setTrunk 7 f).trunk 7).state = .hunting ∧
      ((State.reset.setTrunk 7 f).trunk 7).candidates[16]? = some true) := by decide

/-- PP7 aligned, its form run and far-end ready given, with a bad run. -/
def alignedRx (ready : Bool) (run bad : Nat) : State :=
  State.reset.setPathRx 7
    { framer := { state := .aligned, badRun := bad, pos := 0, candidates := []
                  measure := { sinceTransition := 0, withoutGap := 8 } }
      farEndReady := ready, formRun := run, beganHunting := false }

theorem test_witness_PathFrameDelivered :
    (∀ b : Bool, ((alignedRx b 3 2).pathRx 7).framer.state = .aligned ∧
      ((alignedRx b 3 2).pathRx 7).framer.pos = 0 ∧ ((alignedRx b 3 2).port 7).state.looped = false ∧
      ((alignedRx b 3 2).pathRx 7).farEndReady = b ∧ (alignedRx b 3 2).checker.runsOn 7 = false) ∧
    (probing (.counting ⟨0, .demand⟩) [] 0 none []).checker.runsOn 0 = true ∧
    framed.exch.map[(⟨0, 0⟩ : PathSlot).index] = some ⟨0, .current⟩ ∧
    (∀ n' : Slot, framed.exch.map[(⟨0, n'⟩ : PathSlot).index] = some ⟨0, .current⟩ → n' = 0) ∧
    (∀ n : Slot, framed.exch.map[(⟨0, n⟩ : PathSlot).index] ≠ some ⟨2, .current⟩) := by
  decide

theorem test_witness_AlignmentOctetJudged :
    (∀ b : Bool, ((alignedRx b 3 0).pathRx 7).framer.state = .aligned ∧
      ((alignedRx b 3 0).pathRx 7).framer.pos = 0 ∧ ((alignedRx b 3 0).port 7).state.looped = false ∧
      ((alignedRx b 3 0).pathRx 7).formRun = 3 ∧ ((alignedRx b 3 0).pathRx 7).farEndReady = b) ∧
    ((alignedRx true 0 1).pathRx 7).framer.badRun < 2 ∧
    2 ≤ ((alignedRx true 0 2).pathRx 7).framer.badRun ∧
    (let s := (alignedRx true 0 2).setEngine { Engine.reset with held := some ⟨7, [0x10, 0], false⟩ };
      s.engine.held = some ⟨7, [0x10, 0], false⟩) ∧
    (∀ b : Bool, probeCheck (alignedRx b 3 2) = true) := by decide

/-- A form run below 3 and a form opposite to the flag; and a hunting receiver whose candidate of one frame ago
is confirmed, in a state that meets the laws of the control slots, and one without. -/
theorem test_witness_formRun_and_confirmation :
    (∀ b : Bool, ∀ n : Fin 3, ((alignedRx b n 1).pathRx 7).formRun < 3 ∧
      (decide ((if b then 0x9A else 0x9B : Octet) = 0x9B) == ((alignedRx b n 1).pathRx 7).farEndReady) =
        false) ∧
    (let s := State.reset.setPathRx 7
        { framer :=
            { state := .hunting, badRun := 0, pos := 0
              candidates := List.replicate 32 false ++ [true]
              measure := { sinceTransition := 0, withoutGap := 8 } }
          farEndReady := true, formRun := 0, beganHunting := true };
      controlCheck s = true ∧ (s.pathRx 7).framer.candidates[32]? = some true ∧
      (s.pathRx 7).framer.state = .hunting ∧ (s.port 7).state.looped = false ∧
      (after (.pathFrame 7 (0x9A :: 0xC3 :: List.replicate 31 0x00)) s).serving 7 = true ∧
      ((after (.pathFrame 7 (0x9A :: 0xC3 :: List.replicate 31 0x00)) s).pathRx 7).formRun = 1 ∧
      ((after (.pathFrame 7 (0x9A :: 0xC3 :: List.replicate 31 0x00)) s).control 7).rx ≠ .hunt) ∧
    ((hunting 6).pathRx 0).framer.candidates[32]? ≠ some true := by decide

/-- A record with its length refused, which ended before the octet judged, is taken first: one CCF, then the
third FAE in a row. -/
theorem test_ended_record_before_alignment_loss :
    let s := (alignedRx true 0 2).setControl 7 { Control.reset with ended := [.lengthRefused] }
    let t := after (.pathFrame 7 (List.replicate 33 0x00)) s
    ((s.takeAllEnded 7).port 7).h = 24 ∧ (t.port 7).h = 24 + 40 ∧ (t.port 7).counts.ccf = 1 ∧
    (t.port 7).counts.fae = 1 ∧ t.control 7 = Control.reset := by decide

/-- PP0 on a line silent for 1 ms, its receiver aligned. -/
def silentPort (x : PortState) (s : State) : State :=
  withPort 0 x (s.setPathRx 0
    { s.pathRx 0 with
      framer :=
        { (s.pathRx 0).framer with
          state := .aligned, measure := { sinceTransition := 8, withoutGap := 0 } } })

theorem test_witness_PathLosOnset :
    (∀ x ∈ ([.up, .suspect, .down, .disabled] : List PortState),
      probeCheck (silentPort x (allPortsIn .up)) = true ∧
      ((silentPort x (allPortsIn .up)).pathRx 0).framer.measure.sinceTransition = 8 ∧
      ((silentPort x (allPortsIn .up)).pathRx 0).framer.state ≠ .noSignal ∧
      ((silentPort x (allPortsIn .up)).port 0).state = x) ∧
    (let s := (silentPort .awaitProbe (allPortsIn .up)).setChecker
        { Checker.reset with
          state := .seeding ⟨1, .demand⟩, queue := [⟨0, .recovery⟩] };
      probeCheck s = true ∧ (s.port 0).state = .awaitProbe) ∧
    (let s := (silentPort .probing (allPortsIn .up)).setChecker
        { Checker.reset with state := .seeding ⟨0, .recovery⟩ };
      probeCheck s = true ∧ (s.port 0).state = .probing) ∧
    (let s := silentPort .up State.reset;
      s.inService 0 = true ∧ (∀ q : Port, q ≠ 0 → s.inService q = false) ∧
      ∀ h : HostId, ((after (.losOnset (.path 0)) s).hostRecord h).latch = true) := by decide

theorem test_witness_TrunkLosAndLosEnd :
    (let f : Framer :=
      { state := .aligned, badRun := 2, pos := 0, candidates := []
        measure := { sinceTransition := 8, withoutGap := 0 } };
      ((State.reset.setTrunk 7 f).trunk 7).measure.sinceTransition = 8 ∧
      ((State.reset.setTrunk 7 f).trunk 7).state ≠ .noSignal) ∧
    ((withRx 7 .noSignal State.reset).pathRx 7).framer.measure.withoutGap = 8 ∧
    ((withRx 7 .noSignal State.reset).pathRx 7).framer.state = .noSignal ∧
    ((withRx 7 .noSignal State.reset).port 7).state.looped = false ∧
    (let f : Framer :=
      { state := .noSignal, badRun := 0, pos := 0, candidates := []
        measure := { sinceTransition := 0, withoutGap := 8 } };
      ((State.reset.setTrunk 7 f).trunk 7).measure.withoutGap = 8 ∧
      ((State.reset.setTrunk 7 f).trunk 7).state = .noSignal) := by decide

/-- `demo` with C3 STAGED within PP0 and C4 STAGED towards it. -/
def departing : State :=
  withRoute 3 (.staged (onSlot 0 2) (stagedOn 0 3))
    (withRoute 4 (.staged (onSlot 1 2) (stagedOn 0 4))
      (withRoute 5 (.routed (onSlot 1 5)) (silentPort .suspect demo)))

theorem test_witness_DepartureDisplacesCircuits :
    (departing.pathRx 0).framer.measure.sinceTransition = 8 ∧
    (departing.pathRx 0).framer.state ≠ .noSignal ∧ departing.inService 0 = true ∧
    (departing.takeAllEnded 0).inService 0 = true ∧
    (departing.route 0).standing = .routed (onSlot 0 0) ∧
    (departing.route 5).standing = .routed (onSlot 1 5) ∧
    (departing.route 1).standing = .staged (onSlot 0 1) (stagedOn 1 29) ∧
    (departing.route 3).standing = .staged (onSlot 0 2) (stagedOn 0 3) ∧
    (departing.route 4).standing = .staged (onSlot 1 2) (stagedOn 0 4) ∧
    (departing.route 127).standing = .stranded := by decide

/-- PP0's control slot in a state of its receiver, with records ended and requests waiting. -/
def receiving (x : ControlRx) (ended : List RecordEnd) (requests : List (List Octet)) : State :=
  State.reset.setControl 0 { Control.reset with rx := x, ended := ended, requests := requests }

theorem test_witness_ControlRecords :
    ((receiving .hunt [] []).control 0).rx = .hunt ∧
    ((receiving .length [] []).control 0).rx = .length ∧
    (1 ≤ (0x01#8).toNat ∧ (0x28#8).toNat ≤ 40) ∧ ((0x00#8).toNat = 0 ∨ 40 < (0x29#8).toNat) ∧
    ((receiving (.body 2 [0x10]) [] []).control 0).rx = .body 2 [0x10] ∧
    ((receiving (.check 1 [0x33]) [] []).control 0).rx = .check 1 [0x33] ∧
    (let e : RecordEnd := .whole 2 [0x10, 0x25] 0xC9;
      (2 + ([0x10#8, 0x25#8].map BitVec.toNat).sum + (0xC9#8).toNat) % 256 = 0 ∧
      (((receiving .hunt [e] [[0x33]]).control 0).ended = e :: [] ∧
        ((receiving .hunt [e] [[0x33]]).control 0).requests.length < 2) ∧
      2 ≤ ((receiving .hunt [e] [[0x33], [0x33]]).control 0).requests.length) ∧
    (let e : RecordEnd := .whole 2 [0x10, 0x25] 0xC8;
      ((receiving .hunt [e] []).control 0).ended = e :: [] ∧
      (2 + ([0x10#8, 0x25#8].map BitVec.toNat).sum + (0xC8#8).toNat) % 256 ≠ 0) ∧
    ((receiving .hunt [.lengthRefused] []).control 0).ended = .lengthRefused :: [] ∧
    probeCheck (receiving .hunt [.lengthRefused] []) = true ∧
    ((receiving .hunt [.lengthRefused] []).port 0).state.looped = false ∧
    ((receiving .hunt [] []).control 0).ended = [] := by decide

theorem test_witness_ResponseLeavesQueue :
    (((sending 6).control 7).responses = [0x10, 0x03, 0x00] :: [] ∧
      ((sending 6).control 7).sent = [(0x10 : Octet), 0x03, 0x00].length + 3 ∧
      isResetResponse [0x10, 0x03, 0x00] = false) ∧
    (let s := (sending 6).setControl 7
        { (sending 6).control 7 with responses := [[0x5F, 0x00, 0x00]] };
      (s.control 7).responses = [0x5F, 0x00, 0x00] :: [] ∧
      (s.control 7).sent = [(0x5F : Octet), 0x00, 0x00].length + 3 ∧
      isResetResponse [0x5F, 0x00, 0x00] = true ∧
      (after (.responseSent 7) s).engine.resetPhase = .due) := by decide

theorem test_witness_EngineTakesInTurn :
    let s := ((State.reset.setControl 3 { Control.reset with requests := [[0x33]] }).setControl 5
      { Control.reset with requests := [[0x20, 0], [0x40]], responses := [[0x20, 0, 0]] }).setEngine
        { Engine.reset with pointer := some 3 }
    s.engine.held = none ∧ s.engine.resetPhase = .none ∧
    (s.control 5).requests = [0x20, 0] :: [[0x40]] ∧ (s.control 5).responses.length < 2 ∧
    (∀ q : Port, (s.control q).requests ≠ [] → (s.control q).responses.length < 2 →
      roundDistance s.engine.pointer 5 ≤ roundDistance s.engine.pointer q) := by decide

/-- A tick due, PP0 in a state with a score and a quiet count, far-end ready present. -/
def ticking (x : PortState) (h q : Nat) : State :=
  let s := (withRx 0 .aligned (allPortsIn .up)).setPort 0
    { PortRecord.reset with state := x, h := h, q := q }
  (s.setPathRx 0 { s.pathRx 0 with farEndReady := true }).setTime
    { State.reset.time with decayDue := 1 }

theorem test_witness_DecayTickLowersScores :
    0 < (ticking .up 1 0).time.decayDue ∧ 0 < ((ticking .up 1 0).port 0).h ∧
    ((ticking .up 0 0).port 0).h = 0 := by decide

theorem test_witness_DecayTickMovesPorts :
    (∀ x ∈ ([.up, .suspect, .down, .disabled] : List PortState), ∀ h ∈ [0, 100, 106, 853, 2133],
      probeCheck (ticking x h 15) = true ∧ 0 < (ticking x h 15).time.decayDue ∧
      ((ticking x h 15).port 0).state = x ∧ ((ticking x h 15).port 0).h = h) ∧
    (2133 - max 1 (2133 * 4 / 64) = 2000 ∧ 853 - max 1 (853 * 4 / 64) = 800 ∧
      106 - max 1 (106 * 4 / 64) = 100) ∧
    (((ticking .down 106 15).pathRx 0).farEndReady = true ∧
      ((ticking .down 106 15).port 0).losHold = false ∧
      ((ticking .down 106 15).pathRx 0).framer.state ≠ .noSignal ∧
      (ticking .down 106 15).param .recoverTicks ≤ ((ticking .down 106 15).port 0).q + 1) ∧
    ((ticking .down 106 14).port 0).q + 1 < (ticking .down 106 14).param .recoverTicks ∧
    (ticking .down 106 15).param .probeRequired ≠ 0 ∧
    ((ticking .down 106 15).setParam .probeRequired 0).param .probeRequired = 0 := by decide

/-- What the changes of a tick hand on, and the ports in AWAIT PROBE and PROBING. -/
theorem test_witness_DecayTickMovesPorts_handed :
    (let t := after (.decayTick []) (ticking .up 2133 0);
      t.handed.downEntries = [0] ∧ (t.port 0).counts.down = 1) ∧
    (after (.decayTick []) (ticking .up 853 0)).handed.portDrains = [0] ∧
    (let s := { (ticking .suspect 106 0) with
          routes := demo.routes, occ := demo.occ, used := demo.used, sweep := demo.sweep };
      sweepCheck s = true ∧ s.strandedHas 127 = true ∧
      (after (.decayTick []) s).handed.upEntries = [0] ∧
      ((after (.decayTick []) s).route 127).standing = .displaced) ∧
    (let s := (ticking .awaitProbe 106 0).setChecker
        { Checker.reset with state := .seeding ⟨1, .demand⟩, queue := [⟨0, .recovery⟩] };
      probeCheck s = true ∧ ((after (.decayTick []) s).port 0).state = .awaitProbe ∧
      ((after (.decayTick []) (withScore 1 2133 s)).port 0).state = .probing) ∧
    (let s := (ticking .probing 2133 0).setChecker
        { Checker.reset with state := .seeding ⟨0, .recovery⟩ };
      probeCheck s = true ∧ ((after (.decayTick []) s).port 0).state = .probing) ∧
    (∀ q : Port, ((after (.decayTick []) (ticking .up 2133 0)).port q).state = .up →
      ((ticking .up 2133 0).port q).state = .up) := by decide

theorem test_witness_DecayTickOfLoopedPort :
    ∀ v ∈ ([.up, .suspect, .down] : List Verdict), ∀ h ∈ [0, 106, 853, 2133],
      probeCheck (ticking (.loopback true v) h 15) = true ∧
      0 < (ticking (.loopback true v) h 15).time.decayDue ∧
      ((ticking (.loopback true v) h 15).port 0).state = .loopback true v ∧
      ((ticking (.loopback true v) h 15).pathRx 0).farEndReady = true := by decide

theorem test_witness_StagedCircuitCutOver :
    SweepLaws demo ∧ (demo.route 1).standing = .staged (onSlot 0 1) (stagedOn 1 29) ∧
    (onSlot 0 1).path ≠ (stagedOn 1 29).path ∧ (stagedOn 1 29).blockEndPassed = true ∧
    (stagedOn 1 29).timer = 0 ∧ demo.inService (onSlot 0 1).path.port = true :=
  ⟨demo_sweepLaws, by decide⟩

theorem test_witness_ResolutionOfDisplaced :
    (demo.sweepQueue = 2 :: [] ∧ (demo.route 2).standing = .displaced ∧
      demo.resolve 2 = .failure (some (.withdrawn, 0))) ∧
    (demo.sweep.state = .running ∧ ∀ c : Circuit, (after .resolution demo).queued c = false) ∧
    (after .resolution (demo.joinQueue 0)).queued 0 = true ∧
    (let s := demo.setDesc 0 ⟨.path 1 (.fixed 0) none, 3, false⟩;
      s.sweepQueue = 2 :: [] ∧ s.resolve 2 = .result ⟨⟨1, 0⟩, 0, true⟩) := by decide

/-- `demo` with C0 alone in the sweep queue, of a discipline, its head a FIXED slot of PP1. -/
def reviewing (d : Discipline) (n : Slot) (withdrawn : Bool) : State :=
  let s := ((demo.leaveQueue 2).joinQueue 0).setDesc 0 ⟨.path 1 (.fixed n) none, 3, withdrawn⟩
  s.setRoute 0 { s.route 0 with fields := { (s.route 0).fields with discipline := d } }

theorem test_witness_ResolutionOfRouted :
    (∀ d ∈ ([.prompt, .clean] : List Discipline),
      (reviewing d 7 false).sweepQueue = 0 :: [] ∧
      ((reviewing d 7 false).route 0).standing = .routed (onSlot 0 0) ∧
      (reviewing d 7 false).strandedHas 0 = false ∧
      (reviewing d 7 false).resolve 0 = .result ⟨⟨1, 7⟩, 0, true⟩ ∧
      ((reviewing d 7 false).route 0).fields.discipline = d) ∧
    (reviewing .prompt 7 true).resolve 0 = .failure (some (.withdrawn, 0)) ∧
    (let s := (reviewing .prompt 7 false).setDesc 0 ⟨.path 0 (.fixed 0) none, 3, false⟩;
      s.sweepQueue = 0 :: [] ∧ s.resolve 0 = .result ⟨⟨0, 0⟩, 0, false⟩) := by decide

theorem test_witness_ResolverOffersUsableSlots :
    demo.offeredSlot 5 0 .pool 0 = some 2 ∧
    (let s := { demo with occ := Vector.replicate 240 (some ⟨9, .current⟩) };
      s.offeredSlot 5 0 .pool 0 = none) ∧
    (reviewing .prompt 7 false).resolve 0 = .result ⟨⟨1, 7⟩, 0, true⟩ := by decide

/-- C0 of tier 3 with the offset 29 at the head D0, a descriptor given, D1 a POOL of PP1 and D2 a DIVERT to
itself. -/
def chained (d : Descriptor) : State :=
  let s := ((demo.setDesc 0 d).setDesc 1 ⟨.path 1 .pool none, 3, false⟩).setDesc 2
    ⟨.divert 2 29, 3, false⟩
  s.setRoute 0 { s.route 0 with fields := { (s.route 0).fields with offset := 29 } }

/-- A start of C0's walk. -/
def atHead : Walk := { effectiveTier := none, offset := 29, firstPath := none, position := 0 }

/-- The clauses of the walk: a fault of each kind, a DIVERT, a PATH with a usable slot, one that goes on and
one that ends; and the two passes: a head found, its alternative, the second pass alone (PP0 is SUSPECT), and
chains that find nothing. -/
theorem test_witness_ResolverOffersUsableSlots_walk :
    ((chained ⟨.divert 1 29, 3, true⟩).desc 0).withdrawn = true ∧
    ((chained ⟨.divert 1 29, 3, false⟩).route 0).fields.head = some 0 ∧
    (chained ⟨.divert 1 29, 3, false⟩).walk .first 0 8 atHead = .result ⟨1, 0⟩ 1 true ∧
    (chained ⟨.path 1 (.offset 29) none, 3, false⟩).resolve 0 = .result ⟨⟨1, 28⟩, 0, true⟩ ∧
    (chained ⟨.path 1 (.fixed 29) (some 1), 3, false⟩).resolve 0 = .result ⟨⟨1, 0⟩, 1, false⟩ ∧
    (chained ⟨.path 0 .pool (some 2), 3, false⟩).walk .first 0 8 atHead = .fault .depth 2 ∧
    (chained ⟨.path 0 .pool (some 2), 3, false⟩).resolve 0 = .result ⟨⟨0, 0⟩, 0, false⟩ ∧
    (chained ⟨.path 1 (.fixed 29) none, 3, false⟩).resolve 0 = .failure none ∧
    (chained ⟨.divert 2 0, 3, false⟩).resolve 0 = .failure (some (.depth, 2)) ∧
    (let s := chained ⟨.divert 1 29, 3, false⟩;
      (s.setRoute 0 { s.route 0 with fields := { (s.route 0).fields with tier := 2 } }).resolve 0 =
        .failure (some (.tier, 0))) := by decide

/-- A DOWN entry of PP1 handed on, its group last entered by PP0 some milliseconds before. -/
def entering (x : GroupState) (ago : Nat) : State :=
  ((State.reset.setTime { State.reset.time with frames := 8 * ago }).setGroup 0
    { state := x, lastDown := some (0, 0), hold := none }).handDownEntry 1

theorem test_witness_DownEntryTaken :
    (∀ x ∈ ([.clear, .suspect] : List GroupState),
      (entering x 500).groupOf 1 = 0 ∧ 1 ∈ (entering x 500).handed.downEntries ∧
      0 < (entering x 500).param .groupWindow ∧
      ((entering x 500).group 0).lastDown = some (0, 0) ∧
      (entering x 500).now - 0 ≤ (entering x 500).param .groupWindow ∧
      ((entering x 500).group 0).state = x) ∧
    ¬((entering .clear 501).now - 0 ≤ (entering .clear 501).param .groupWindow) := by decide

theorem test_witness_SuspectGroupClears :
    (let s := State.reset.setGroup 0 { state := .suspect, lastDown := none, hold := some 0 };
      (s.group 0).state = .suspect ∧ (s.group 0).hold = some 0) ∧
    (let s := (State.reset.setGroup 0 { state := .suspect, lastDown := none, hold := none }
        ).handUpEntry 7;
      0 = s.groupOf 7 ∧ 7 ∈ s.handed.upEntries ∧ (s.group 0).state = .suspect) := by decide

/-- A tick with PP0's group SUSPECT and its hold stopped, the other members UP. -/
def groupTick (x : PortState) (q : Nat) : State :=
  (ticking x 106 q).setGroup 0 { state := .suspect, lastDown := none, hold := none }

/-- A member that stays DOWN holds the group; none out clears it; a record reached before the member recovers
holds it. -/
theorem test_witness_SuspectGroupClears_tick :
    probeCheck (groupTick .down 14) = true ∧
    ((groupTick .down 14).port 0).state.recovering = true ∧
    ((after (.decayTick []) (groupTick .down 14)).port 0).state.recovering = true ∧
    ((after (.decayTick []) (groupTick .down 14)).group 0).state = .suspect ∧
    (∀ p : Port, ((groupTick .suspect 0).port p).state.recovering = false ∧
      ((after (.decayTick []) (groupTick .suspect 0)).port p).state.recovering = false) ∧
    ((after (.decayTick []) (groupTick .suspect 0)).group 0).state = .clear ∧
    ((after (.decayTick [.group 0]) ((groupTick .down 15).setParam .probeRequired 0)).group 0).state =
      .suspect := by decide

theorem test_witness_ReviewsJoinQueue :
    SweepLaws demo ∧ 7 ∈ (demo.handPortDrain 7).handed.portDrains ∧
    3 ∈ (demo.handGroupDrain 3).handed.groupDrains ∧
    ((demo.setPort 7 { demo.port 7 with failBack := some 0 }).port 7).failBack = some 0 :=
  ⟨demo_sweepLaws, by decide⟩

/-- A walk of C15 and C31, which C0 of tier 0 has not met, at its first or its last step. -/
def walking (written : Nat) (originator : Tier) : State :=
  demo.setWalker
    { state := .walking
      order := some
        { trunkFirst := 0, trunkLast := 1, slotFirst := 15, slotLast := 15
          template := ⟨.inService, some 255, 3, 0, .clean, .value 29, 29⟩, originator := 0
          originatorTier := originator }
      total := 2, cursor := none, written := written, skipped := 0, stepsDue := 1 }

theorem test_witness_ResponseLayouts :
    (demo.route 2).standing.currentPath = none ∧ (demo.route 0).standing = .routed (onSlot 0 0) ∧
    (demo.route 1).standing = .staged (onSlot 0 1) (stagedOn 1 29) ∧
    (demo.route 0).standing.stagedPath = none ∧
    ((withPort 7 (.loopback false .down) demo).port 7).state = .loopback false .down ∧
    demo.walker.order = none ∧
    ((walking 0 0).walker.order.map fun o => o.template.mode) = some (.value 29) := by decide

/-- An entry more trusted than the originator of the walk. -/
def guarded : State :=
  let s := walking 0 1
  s.setRoute 15 { s.route 15 with fields := { (s.route 15).fields with tier := 0 } }

theorem test_witness_BulkStepTreatsEntry :
    (walking 0 0).walker.state = .walking ∧ 0 < (walking 0 0).walker.stepsDue ∧
    (walking 0 0).walker.written + (walking 0 0).walker.skipped + 1 ≠ (walking 0 0).walker.total ∧
    (walking 1 0).walker.written + (walking 1 0).walker.skipped + 1 = (walking 1 0).walker.total ∧
    (∀ o, (walking 0 0).walker.order = some o →
      (o.trunkOfStep 0, o.slotOfStep 0) = (0, 15) ∧
      o.originatorTier ≤ ((walking 0 0).route 15).fields.tier ∧
      o.originatorTier ≤ o.template.tier) ∧
    (∀ o, guarded.walker.order = some o → ¬ o.originatorTier ≤ (guarded.route 15).fields.tier) := by
  refine ⟨rfl, by decide, by decide, by decide, ?_, ?_⟩
  · intro o h
    obtain rfl := Option.some.inj h
    decide
  · intro o h
    obtain rfl := Option.some.inj h
    decide

/-- R141: a value v above 29 with KEEP, and a body of another length, are no encodings that fit. -/
theorem test_witness_BulkWalkStartsAndAborts_range :
    (∀ b : BulkOrder, [0, 7, 0, 15, 2, 0xFF, 0xFF, 3, 3, 1, 0, 30] = b.octets →
      headAllowed b.template.service b.template.head = false ∨ ¬b.template.ValueFits) ∧
    (∀ b : BulkOrder, [] ≠ b.octets) ∧
    bulkOrderOf [0x30, 0, 7, 0, 15, 2, 0xFF, 0xFF, 3, 3, 1, 0, 30] = none ∧
    bulkOrderOf [0x30, 0, 7, 0, 15, 2, 0xFF, 0xFF, 3, 3, 1, 0, 29] ≠ none := by
  refine ⟨fun b h => .inr fun fits => ?_, fun b h => ?_, by decide, by decide⟩
  · have last := congrArg List.getLast? h
    simp [BulkOrder.octets] at last
    have := fits.1
    rw [← last] at this
    exact absurd this (by decide)
  · simpa [BulkOrder.octets] using congrArg List.getLast? h

theorem test_witness_BulkWalkStartsAndAborts :
    (let b : BulkOrder := ⟨7, 0, 15, 0, ⟨.idle, none, 3, 3, .clean, .value 29, 29⟩⟩;
      (holding (0x30 :: b.octets) demo).engine.held = some ⟨0, 0x30 :: b.octets, false⟩ ∧
      headAllowed b.template.service b.template.head = true ∧ b.template.ValueFits) ∧
    demo.walker.state = .idle ∧
    ((holding [0x31] (trust 2 (walking 0 1))).walker.state = .walking ∧
      (1 : Tier) < (holding [0x31] (trust 2 (walking 0 1))).tierOf 0) ∧
    (holding [0x31] (trust 1 (walking 0 1))).tierOf 0 ≤ (1 : Tier) := by
  refine ⟨⟨rfl, by decide, by decide, fun v h => ?_⟩, by decide, by decide,
    by decide⟩
  cases h
  decide

/-- The circuits that a REVIEW RANGE of C126 to C1 picks in `demo`. -/
def pickedInDemo (c : Circuit) : Bool := c == 0 || c == 127

/-- R147: a first or last circuit above 127, and a body of another length. -/
theorem test_witness_ReviewRangeQueues_range :
    (∀ args ∈ ([[128, 0], [0, 128], [0], []] : List (List Octet)), ∀ first last : Circuit,
      args ≠ one first.val ++ one last.val) ∧
    (holding [0x32, 128, 0] demo).engine.held = some ⟨0, 0x32 :: [128, 0], false⟩ := by
  refine ⟨?_, rfl⟩
  have big : ∀ c : Circuit, (128 : Octet) ≠ BitVec.ofNat 8 c.val := by decide
  intro args hm first last h
  have h1 := big first
  have h2 := big last
  simp only [List.mem_cons, List.not_mem_nil, or_false] at hm
  obtain rfl | rfl | rfl | rfl := hm <;> simp_all [one]

theorem test_witness_ReviewRangeQueues :
    SweepLaws (holding [0x32, 126, 1] demo) ∧
    (holding [0x32, 126, 1] demo).engine.held =
      some ⟨0, [0x32] ++ one (126 : Circuit).val ++ one (1 : Circuit).val, false⟩ ∧
    ∀ c : Circuit, pickedInDemo c = true ↔
      ((126 : Circuit) ≤ 1 ∧ 126 ≤ c ∧ c ≤ 1 ∨ (1 : Circuit) < 126 ∧ (126 ≤ c ∨ c ≤ 1)) ∧
      (0 : Tier) ≤ (demo.route c).fields.tier ∧
      ((demo.route c).standing = .stranded ∨ ∃ cur, (demo.route c).standing = .routed cur) := by
  refine ⟨sweepLaws_of_check (by decide), by decide, ?_⟩
  simp only [routed_iff]
  decide

/-- A probe at its last octet, which agrees with the prediction, with errors at the limit or above it. -/
def verdictDue (x : PortState) (k : ProbeKind) (errors : Nat) (queue : List ProbeEntry) : State :=
  (withPort 0 x (allPortsIn .up)).setChecker
    { Checker.reset with
      state := .counting ⟨0, k⟩, compared := 3999, errors := errors, started := true, queue := queue
      returned := some 0x00 }

theorem test_witness_ProbeVerdict :
    (∀ n ∈ [4, 5],
      probeCheck (verdictDue .probing .recovery n []) = true ∧
      probeCheck (verdictDue .up .demand n [⟨7, .demand⟩]) = true ∧
      probeCheck (verdictDue (.loopback true .up) .demand n []) = true ∧
      (verdictDue .up .demand n []).checker.compared + 1 =
        (verdictDue .up .demand n []).checker.length ∧
      ((verdictDue .up .demand n []).returnedOctet 0).isSome = true) ∧
    ((after .probeComplete (verdictDue .probing .recovery 4 [])).port 0).state = .up ∧
    ((after .probeComplete (verdictDue .probing .recovery 5 [])).port 0).state = .down ∧
    ((after .probeComplete (verdictDue .up .demand 5 [])).port 0).state = .suspect ∧
    ((verdictDue .up .demand 4 []).stepChecker.port 0).state = .up ∧
    (verdictDue .up .demand 4 [⟨7, .demand⟩]).stepChecker.checker.state = .seeding ⟨7, .demand⟩ := by
  decide

/-- Without the last octet the frame period's end completes the probe, with 8 errors more (log 20). -/
theorem test_probe_ends_with_the_period :
    let s := probing (.counting ⟨0, .demand⟩) [] 3999 none []
    after .probeComplete s = s ∧
    (after (.framePeriod [] 0xFF 0xFF) s).handed.occurrences =
      [.probeResult 0 8 false, .pathSuspect 0 false] := by decide

theorem test_witness_ProbePortRequest :
    (∀ q : Port, ([8] : List Octet) ≠ one q.val) ∧ ([7] : List Octet) = one (7 : Port).val ∧
    (let s := holding [0x22, 7] (trust 2 demo);
      s.engine.held = some ⟨0, 0x22 :: [7], false⟩ ∧ 1 < s.tierOf (s.hostOf 0)) ∧
    (let s := holding [0x22, 7] (trust 1 (withPort 7 .down demo));
      s.tierOf (s.hostOf 0) ≤ 1 ∧ (s.port 7).state = .down) ∧
    (let s := holding [0x22, 7] demo;
      s.checker.runsOn 7 = false ∧ (∀ x ∈ s.checker.queue, x.port ≠ 7) ∧
      (s.port 7).state.takesDemand = true ∧ s.checker.state = .idle ∧ s.checker.queue = []) ∧
    (let k : Checker :=
      { Checker.reset with state := .seeding ⟨0, .demand⟩, queue := [⟨1, .demand⟩, ⟨7, .demand⟩] };
      let s := holding [0x22, 7] (demo.setChecker k);
      s.checker.runsOn 0 = true ∧ s.checker.state ≠ .idle ∧
      s.checker.queue = [⟨1, .demand⟩] ++ ⟨7, .demand⟩ :: [] ∧
      (∀ x ∈ ([⟨1, .demand⟩] : List ProbeEntry), x.port ≠ 7) ∧
      (∀ x ∈ s.checker.queue, x.port ≠ 2)) := by decide

theorem test_witness_InjectFeedsLoopedPort :
    (∀ b ∈ ([[8, 0, 1], [7, 5, 1], [7, 4, 0]] : List (List Octet)),
      7 < (b.getD 0 0).toNat ∨ 4 < (b.getD 1 0).toNat ∨ b.getD 2 0 = 0) ∧
    ([7] : List Octet) = one (7 : Port).val ∧ lineEventOf 4 = some .losEnd ∧
    (let s := holding [0x23, 7, 4, 255] (trust 1 demo);
      s.engine.held = some ⟨0, [0x23, 7, 4, 255], false⟩ ∧ s.tierOf (s.hostOf 0) ≠ 0) ∧
    (let s := holding [0x23, 7, 4, 255] demo;
      s.tierOf (s.hostOf 0) = 0 ∧ (s.port 7).state.looped = false) ∧
    (let s := holding [0x23, 7, 4, 255] (withPort 7 (.loopback true .up) demo);
      s.tierOf (s.hostOf 0) = 0 ∧ (s.port 7).state = .loopback true .up) ∧
    (let s := withScore 7 1960 (withPort 7 (.loopback true .up) demo);
      s.param .downAt ≤ ((s.loopEvent 7 .fae).port 7).h) ∧
    (let s := withScore 7 760 (withPort 7 (.loopback true .up) demo);
      ((s.loopEvent 7 .fae).port 7).h < s.param .downAt ∧
      s.param .suspectAt ≤ ((s.loopEvent 7 .fae).port 7).h) ∧
    (let s := withScore 7 759 (withPort 7 (.loopback true .up) demo);
      ((s.loopEvent 7 .fae).port 7).h < s.param .suspectAt) := by decide

theorem test_witness_OccurrenceReachesEveryHost :
    Occurrence.sweepIdle ∈ (demo.raise .sweepIdle).handed.occurrences := by decide

/-- A host record with CHAIN FAULT and PATH UP at one urgency, BULK DONE at a lower one, and a mask. -/
def noticed (mask : Urgency) (latch : Bool) : State :=
  holding [0x40] (demo.setHostRecord 0
    { HostRecord.reset with
      mask := mask, latch := latch
      urgency := ((HostRecord.reset.urgency.set 2 7).set 8 7).set 9 6
      chainFault := ⟨some (0, 0, .depth), 1⟩
      pathUp := HostRecord.reset.pathUp.set 15 true
      bulkDone := some (true, 1, 0) })

theorem test_witness_TakeEventAnswers :
    (noticed 6 false).engine.held = some ⟨0, 0x40 :: [], false⟩ ∧ 0 = (noticed 6 false).hostOf 0 ∧
    ((noticed 7 true).hostRecord 0).latch = true ∧
    (((noticed 7 false).hostRecord 0).latch = false ∧
      ∀ x ∈ allSources, (noticed 7 false).raised 0 x = true →
        (noticed 7 false).urgency 0 x ≤ ((noticed 7 false).hostRecord 0).mask) ∧
    ((noticed 6 false).raised 0 .chainFault = true ∧
      ((noticed 6 false).hostRecord 0).mask < (noticed 6 false).urgency 0 .chainFault ∧
      ∀ y ∈ allSources, (noticed 6 false).raised 0 y = true →
        ((noticed 6 false).hostRecord 0).mask < (noticed 6 false).urgency 0 y → y ≠ .chainFault →
        (noticed 6 false).urgency 0 y < (noticed 6 false).urgency 0 .chainFault ∨
          (noticed 6 false).urgency 0 y = (noticed 6 false).urgency 0 .chainFault ∧
            Source.number .chainFault < Source.number y) := by decide

/-- A host record with something pending at every edge source, and the first members of its sets. -/
def allPending : HostRecord :=
  { HostRecord.reset with
    pathDown := HostRecord.reset.pathDown.set 15 true
    pathSuspect := (HostRecord.reset.pathSuspect.set 1 true).set 2 true
    pathUp := HostRecord.reset.pathUp.set 0 true
    groupSuspect := HostRecord.reset.groupSuspect.set 3 true
    chainFault := ⟨some (127, 255, .tier), 255⟩
    forcedCutover := ⟨some 127, 1⟩
    probeResult := ⟨some (7, 65535, false), 2⟩
    bulkDone := some (false, 1, 127), sweepIdle := true }

theorem test_witness_TakeEventAnswers_sources :
    FirstOf allPending.pathDown (memberIndex 7 true) ∧
    FirstOf allPending.pathSuspect (memberIndex 0 true) ∧
    FirstOf allPending.pathUp (memberIndex 0 false) ∧ FirstOf allPending.groupSuspect 3 ∧
    (let s := demo.setHostRecord 0 allPending;
      (∀ x ∈ allSources, s.raised 0 x = true) ∧
      s.detailOctets 0 .pathDown = [7, 1] ∧ s.detailOctets 0 .stranded = [1, 127] ∧
      s.detailOctets 0 .chainFault = [127, 0, 255, 2, 255] ∧
      s.detailOctets 0 .probeResult = [7, 255, 255, 1, 2] ∧
      s.detailOctets 0 .bulkDone = [1, 1, 127] ∧
      s.strandedHas 127 = true ∧ ∀ d : Circuit, d < 127 → s.strandedHas d = false) ∧
    (∀ c : Circuit, State.reset.strandedHas c = false) := by
  unfold FirstOf
  decide

theorem test_witness_HostRecordRequests :
    (holding [0x41, 8] demo).engine.held = some ⟨0, 0x41 :: [8], false⟩ ∧
    ((7 : Urgency).val = min 7 (8#8).toNat) ∧
    (holding [0x42, 11, 7] demo).engine.held = some ⟨0, 0x42 :: [11, 7], false⟩ ∧
    ([11, 7] : List Octet) = one ((10 : Fin 11).val + 1) ++ [7] ∧
    (0x00#8).toNat = 0 ∧ 11 < (0x0C#8).toNat ∧
    (holding [0x43] demo).engine.held = some ⟨0, 0x43 :: [], false⟩ := by decide

theorem test_witness_Reads :
    (∀ k : Trunk, ([8] : List Octet) ≠ one k.val) ∧ ([7] : List Octet) = one (7 : Trunk).val ∧
    (∀ g : Group, ([4] : List Octet) ≠ one g.val) ∧ ([3] : List Octet) = one (3 : Group).val ∧
    (∀ i : Fin 22, ([22] : List Octet) ≠ one i.val) ∧ ([21] : List Octet) = one (21 : Fin 22).val ∧
    (holding [0x25, 7] demo).engine.held = some ⟨0, 0x25 :: [7], false⟩ ∧
    (holding [0x24, 3] demo).engine.held = some ⟨0, 0x24 :: [3], false⟩ ∧
    (holding [0x50, 21] demo).engine.held = some ⟨0, 0x50 :: [21], false⟩ ∧
    (holding [0x10, 127] demo).engine.held = some ⟨0, [0x10] ++ one (127 : Circuit).val, false⟩ ∧
    127 < (0x80#8).toNat ∧
    (holding [0x14, 0, 255] demo).engine.held = some ⟨0, [0x14] ++ two (255 : Desc).val, false⟩ ∧
    (holding [0x20, 7] demo).engine.held = some ⟨0, [0x20] ++ one (7 : Port).val, false⟩ ∧
    7 < (0x08#8).toNat ∧
    (holding [0x33] demo).engine.held = some ⟨0, [0x33], false⟩ := by decide

/-- A write of C127 at the greatest value of every operand. -/
def greatWrite (v : Service) : RouteWrite := ⟨127, v, ⟨some 255, 3, 3, .clean, 29⟩⟩

theorem test_witness_WriteRouteRequest :
    (holding (0x11 :: (greatWrite .inService).octets) demo).engine.held =
      some ⟨0, 0x11 :: (greatWrite .inService).octets, false⟩ ∧
    ((greatWrite .inService).service = .inService → (greatWrite .inService).fields.head ≠ none) ∧
    (let s := trust 3 demo;
      s.tierOf (s.hostOf 0) ≤ (s.route 127).fields.tier ∧
      s.tierOf (s.hostOf 0) ≤ (greatWrite .idle).fields.tier) ∧
    (let w : RouteWrite := ⟨127, .idle, ⟨none, 0, 0, .prompt, 0⟩⟩;
      w.fields.tier < (trust 1 demo).tierOf ((trust 1 demo).hostOf 0)) ∧
    routeWriteOf [0x11, 128, 0, 0, 0, 0, 0, 0, 0] = none ∧
    routeWriteOf (0x11 :: (greatWrite .inService).octets) = some (greatWrite .inService) := by
  decide

theorem test_witness_TierTestOfRouteWrites :
    (holding (0x11 :: (greatWrite .barred).octets) (trust 3 demo)).engine.held =
      some ⟨0, 0x11 :: (greatWrite .barred).octets, false⟩ ∧
    (walking 0 0).walker.state = .walking ∧ 0 < (walking 0 0).walker.stepsDue ∧
    guarded.walker.state = .walking ∧ 0 < guarded.walker.stepsDue := by decide

theorem test_witness_RouteWriteByState :
    SweepLaws demo ∧ (demo.route 126).standing = .idle ∧ (demo.route 127).standing = .stranded ∧
    (demo.route 2).standing = .displaced ∧ (demo.route 0).standing = .routed (onSlot 0 0) ∧
    (demo.route 1).standing = .staged (onSlot 0 1) (stagedOn 1 29) ∧
    demo.inService (stagedOn 1 29).path.port = true ∧
    (∀ q ∈ (demo.route 126).standing.slots, demo.inService q.port = false) :=
  ⟨demo_sweepLaws, by decide⟩

theorem test_witness_WriteDescriptorRequest :
    SweepLaws demo ∧
    (let w : DescWrite := ⟨255, ⟨.path 7 .pool none, 3, true⟩⟩;
      (holding (0x15 :: w.octets 0xAA) demo).engine.held = some ⟨0, 0x15 :: w.octets 0xAA, false⟩ ∧
      descWriteOf (0x15 :: w.octets 0xAA) = some w ∧
      (trust 3 demo).tierOf 0 ≤ (demo.desc 255).tier ∧ (trust 3 demo).tierOf 0 ≤ w.record.tier) ∧
    (let w : DescWrite := ⟨0, ⟨.divert 255 29, 2, false⟩⟩;
      w.record.tier < (trust 3 demo).tierOf ((trust 3 demo).hostOf 0) ∧
      descWriteOf (0x15 :: w.octets 0) = some w) ∧
    descWriteOf [0x15, 1, 0, 1, 0, 0, 0, 0, 0] = none :=
  ⟨demo_sweepLaws, by decide⟩

theorem test_witness_SetPortRefused :
    (holding [0x21, 8, 0] demo).engine.held = some ⟨0, 0x21 :: [8, 0], false⟩ ∧
    (∀ q : Port, ([8, 0] : List Octet) ≠ one q.val ++ [0]) ∧
    1 < (trust 2 demo).tierOf ((trust 2 demo).hostOf 0) ∧
    (let s := { trust 1 demo with
        straps := { (trust 1 demo).straps with host := (trust 1 demo).straps.host.set 7 3 } };
      s.tierOf (s.hostOf 0) = 1 ∧ s.hostOf 7 ≠ s.hostOf 0) ∧
    demo.tierOf (demo.hostOf 0) = 0 ∧
    ((trust 1 demo).tierOf ((trust 1 demo).hostOf 0) = 1 ∧
      (trust 1 demo).hostOf 7 = (trust 1 demo).hostOf 0) ∧
    (demo.port 7).state ≠ .disabled ∧ (demo.port 7).state.looped = false ∧
    ((withPort 7 .disabled demo).port 7).state = .disabled := by decide

theorem test_witness_SetPortSimpleActions :
    SweepLaws (withPort 7 .disabled demo) ∧
    ((withPort 7 .disabled demo).port 7).state = .disabled ∧
    (holding [0x21, 7, 4, 31] demo).engine.held =
      some ⟨0, 0x21 :: (one (7 : Port).val ++ [4, 31]), false⟩ ∧
    (let s := demo.setPort 7 { demo.port 7 with ceiling := 29 };
      (s.port 7).ceiling < max 1 (min 30 (31#8).toNat)) ∧
    max 1 (min 30 (0#8).toNat) ≤ (demo.port 7).ceiling :=
  ⟨sweepLaws_of_check (by decide), by decide⟩

theorem test_witness_SetPortDisableAndLoopback :
    ProbeLaws demo ∧ ProbeLaws (withPort 7 (.loopback false .down) demo) ∧
    (holding [0x21, 7, 1] demo).engine.held = some ⟨0, 0x21 :: (one (7 : Port).val ++ [1]), false⟩ ∧
    demo.inService 7 = true ∧
    ((withPort 7 (.loopback false .down) demo).port 7).state.looped = true ∧
    (∀ ready : Bool, ([7, 2, if ready then 0 else 1] : List Octet) =
      one (7 : Port).val ++ [2, if ready then 0 else 1]) ∧
    ([7, 3] : List Octet) = one (7 : Port).val ++ [3] ∧ (demo.control 7).ended = [] :=
  ⟨demo_probeLaws, probeLaws_of_check (by decide), by decide⟩

theorem test_witness_WriteParameterStores :
    (holding [0x51, 21, 1, 2, 3] demo).engine.held = some ⟨0, [0x51, 21, 1, 2, 3], false⟩ ∧
    (21#8).toNat = Param.idleFill.id.val ∧ 21 < (22#8).toNat ∧
    (trust 1 demo).tierOf ((trust 1 demo).hostOf 0) ≠ 0 ∧ demo.tierOf (demo.hostOf 0) = 0 := by
  decide

theorem test_witness_UnknownKindsAndWrongLengths :
    (holding [0x60, 1] demo).engine.held = some ⟨0, 0x60 :: [1], false⟩ ∧
    (0x60 : Octet) ∉ kindCodes ∧ lengthAllowed 0x10 (([] : List Octet).length + 1) = false ∧
    lengthAllowed 0x5F ([0#8].length + 1) = false := by decide

/-- A state that meets every law at once, and from which a step goes on. -/
theorem test_witness_StepKeepsLaws :
    SlotLaws demo ∧ SweepLaws demo ∧ ProbeLaws demo ∧ ControlLaws demo ∧ StationLaw demo ∧
    ParamLaws demo ∧ PortLaws demo ∧ GroupLaws demo ∧ WalkLaws demo ∧ CountLaws demo ∧
    ∃ s', step { demo with pending := [.blockEndPassage 1] } = .next s' :=
  ⟨demo_slotLaws, demo_sweepLaws, demo_probeLaws, demo_controlLaws, demo_stationLaw, demo_paramLaws,
    demo_portLaws, demo_groupLaws, demo_walkLaws, demo_countLaws, _, rfl⟩

end Sys2Proof.Tests
end

