-- ==== Sys2Proof/Proofs/RouteWrites.lean ====
section
/-! The tier test of R16 in WRITE ROUTE and in a step of a bulk walk: what the octets of a WRITE ROUTE are read
back as, what a write of an entry leaves in its programmed fields, and what the two commands do with the test. -/

namespace Sys2Proof.Machine

/-! ## The operands of WRITE ROUTE read back (R15) -/

theorem octetFin_ofNat {n : Nat} (hn : n ≤ 256) (i : Fin n) :
    octetFin n (BitVec.ofNat 8 i.val) = some i := by
  have hi : i.val % 256 = i.val := Nat.mod_eq_of_lt (i.isLt.trans_le hn)
  simp [octetFin, hi]

theorem serviceOf_code (v : Service) : serviceOf (BitVec.ofNat 8 v.code) = some v := by
  cases v <;> rfl

theorem disciplineOf_code (d : Discipline) : disciplineOf (BitVec.ofNat 8 d.code) = some d := by
  cases d <;> rfl

/-- R165: a number of two octets is read back. -/
theorem pairValue_two {n : Nat} (hn : n < 65536) :
    pairValue (BitVec.ofNat 8 (n / 256)) (BitVec.ofNat 8 n) = n := by
  simp only [pairValue, BitVec.toNat_ofNat]
  omega

/-- A descriptor number, or 0xFFFF for an absent one, is two octets that are read back. -/
theorem descOrAbsent_descOctets (head : Option Desc) :
    ∃ hi lo, descOctets head = [hi, lo] ∧ descOrAbsent hi lo = some head := by
  cases head with
  | none => exact ⟨0xFF, 0xFF, rfl, rfl⟩
  | some d =>
    have value := pairValue_two (n := d.val) (by omega)
    have present : d.val ≠ 0xFFFF := by omega
    refine ⟨_, _, rfl, ?_⟩
    simp only [descOrAbsent, descOf, value, present, d.isLt, if_false, dif_pos, Option.map_some]

theorem headAllowed_iff (v : Service) (head : Option Desc) :
    headAllowed v head = true ↔ (v = .inService → head ≠ none) := by
  cases head <;> simp [headAllowed]

/-- A WRITE ROUTE whose service and head go together passes the checks of R15 and is read back whole. -/
theorem routeWriteOf_octets (k : Octet) (w : RouteWrite)
    (hw : w.service = .inService → w.fields.head ≠ none) :
    routeWriteOf (k :: w.octets) = some w := by
  obtain ⟨hi, lo, octets, readBack⟩ := descOrAbsent_descOctets w.fields.head
  simp [routeWriteOf, RouteWrite.octets, one, octets, readBack, octetFin_ofNat, serviceOf_code,
    disciplineOf_code, (headAllowed_iff _ _).mpr hw]

/-! ## The tier test (R16) -/

theorem tierTest_iff (requester present new : Tier) :
    tierTest requester present new = true ↔ requester ≤ present ∧ requester ≤ new := by
  simp [tierTest]

namespace State

variable (s : State)

/-! ## The programmed fields of an entry -/

@[simp] theorem joinQueue_route (c d : Circuit) : (s.joinQueue c).route d = s.route d := rfl

@[simp] theorem leaveQueue_route (c d : Circuit) : (s.leaveQueue c).route d = s.route d := rfl

@[simp] theorem leaveStranded_route (c d : Circuit) : (s.leaveStranded c).route d = s.route d := rfl

@[simp] theorem answered_route (p : Port) (lost : Bool) (k : Octet) (r : Result) (l : List Octet)
    (c : Circuit) : (s.answered p lost k r l).route c = s.route c := rfl

/-- R12: a capacity event changes no programmed field. -/
@[simp] theorem capacityIf_route_fields (b : Bool) (c : Circuit) :
    ((s.capacityIf b).route c).fields = (s.route c).fields := by
  rw [route_capacityIf]
  split <;> rfl

/-- R17, R18: a write IN SERVICE leaves the fields that it carries. -/
theorem writeInService_route_fields (c : Circuit) (f : RouteFields) :
    ((s.writeInService c f).route c).fields = f := by
  unfold writeInService
  dsimp only
  split <;> simp

/-- R19: a write BARRED or IDLE leaves the fields that it carries. -/
theorem writeOutOfService_route_fields (c : Circuit) (f : RouteFields) (x : Standing) (n : Nat) :
    ((s.writeOutOfService c f x n).route c).fields = f := by
  simp [writeOutOfService]

/-- R17 to R19: whatever its service, a write of an entry leaves the fields that it carries. -/
@[simp] theorem writeEntry_route_fields (c : Circuit) (v : Service) (f : RouteFields) :
    ((s.writeEntry c v f).route c).fields = f := by
  cases v with
  | inService => exact s.writeInService_route_fields c f
  | barred => exact s.writeOutOfService_route_fields c f .barred _
  | idle => exact s.writeOutOfService_route_fields c f .idle 0

/-! ## WRITE ROUTE (R15, R16) -/

/-- R163: the run of a WRITE ROUTE executes the request that the engine holds. -/
theorem exec_writeRoute_run {h : HeldRequest} (hh : s.engine.held = some h)
    (hk : kindIs 0x11 h.body = true) :
    exec (.writeRoute .run) s = .next (s.execute h answerWriteRoute) :=
  congrArg Host.Outcome.next (serve_run_of_held s hh hk answerWriteRoute)

variable {s} {p : Port} {k : Octet} {w : RouteWrite}

theorem answerWriteRoute_of_pass (hw : w.service = .inService → w.fields.head ≠ none)
    (pass : tierTest (s.tierOf (s.hostOf p)) (s.route w.circuit).fields.tier w.fields.tier = true) :
    answerWriteRoute s p (k :: w.octets) =
      accept (s.writeEntry w.circuit w.service w.fields)
        ((s.writeEntry w.circuit w.service w.fields).routeReport w.circuit) := by
  simp [answerWriteRoute, routeWriteOf_octets k w hw, pass]

theorem answerWriteRoute_of_fail (hw : w.service = .inService → w.fields.head ≠ none)
    (fail : ¬ tierTest (s.tierOf (s.hostOf p)) (s.route w.circuit).fields.tier w.fields.tier = true) :
    answerWriteRoute s p (k :: w.octets) = refuse s .denied := by
  simp [answerWriteRoute, routeWriteOf_octets k w hw, fail]

/-- R16: a WRITE ROUTE that passes the tier test is answered DONE, with the route report, on the entry
written. -/
theorem exec_writeRoute_of_pass {lost : Bool}
    (hh : s.engine.held = some ⟨p, 0x11 :: w.octets, lost⟩)
    (hw : w.service = .inService → w.fields.head ≠ none)
    (pass : tierTest (s.tierOf (s.hostOf p)) (s.route w.circuit).fields.tier w.fields.tier = true) :
    exec (.writeRoute .run) s =
      .next ((s.writeEntry w.circuit w.service w.fields).answered p lost 0x11 .done
        ((s.writeEntry w.circuit w.service w.fields).routeReport w.circuit)) := by
  rw [exec_writeRoute_run s hh rfl,
    execute_accept s (by simpa using hh) (answerWriteRoute_of_pass hw pass)]
  rfl

/-- R16: a WRITE ROUTE that fails the tier test is DENIED, and writes nothing. -/
theorem exec_writeRoute_of_fail {lost : Bool}
    (hh : s.engine.held = some ⟨p, 0x11 :: w.octets, lost⟩)
    (hw : w.service = .inService → w.fields.head ≠ none)
    (fail : ¬ tierTest (s.tierOf (s.hostOf p)) (s.route w.circuit).fields.tier w.fields.tier = true) :
    exec (.writeRoute .run) s = .next (s.answered p lost 0x11 .denied []) := by
  rw [exec_writeRoute_run s hh rfl, execute_refuse s hh (answerWriteRoute_of_fail hw fail)]
  rfl

/-! ## A step of a bulk walk (R143) -/

variable {o : WalkOrder} {c : Circuit} {i : StationSlot}

theorem applyStep_of_pass
    (pass : tierTest o.originatorTier (s.route c).fields.tier o.template.tier = true) :
    s.applyStep o c i =
      s.writeEntry c o.template.service (o.template.fields (s.route c).fields.offset i) := by
  simp [applyStep, pass]

theorem applyStep_of_fail
    (fail : ¬ tierTest o.originatorTier (s.route c).fields.tier o.template.tier = true) :
    s.applyStep o c i = s := by
  simp [applyStep, fail]

/-- R143, R144: beyond the write or the skip, a step leaves the route table as it is, at the end of the walk
too. -/
theorem walkStep_routes (s : State) (o : WalkOrder) :
    (s.walkStep o).routes =
      (s.applyStep o
        (circuitAt (o.trunkOfStep (s.walker.written + s.walker.skipped))
          (o.slotOfStep (s.walker.written + s.walker.skipped)))
        (o.slotOfStep (s.walker.written + s.walker.skipped))).routes := by
  unfold walkStep
  dsimp only
  split <;> simp

/-- R143: a step that passes the test leaves its entry with the fields of the template. -/
theorem walkStep_route_fields_of_pass
    (hc : c = circuitAt (o.trunkOfStep (s.walker.written + s.walker.skipped))
      (o.slotOfStep (s.walker.written + s.walker.skipped)))
    (pass : tierTest o.originatorTier (s.route c).fields.tier o.template.tier = true) :
    ((s.walkStep o).route c).fields =
      o.template.fields (s.route c).fields.offset
        (o.slotOfStep (s.walker.written + s.walker.skipped)) := by
  rw [route_congr (walkStep_routes s o), ← hc, applyStep_of_pass pass, writeEntry_route_fields]

/-- R143: a step that fails the test leaves the route table as it is. -/
theorem walkStep_routes_of_fail
    (hc : c = circuitAt (o.trunkOfStep (s.walker.written + s.walker.skipped))
      (o.slotOfStep (s.walker.written + s.walker.skipped)))
    (fail : ¬ tierTest o.originatorTier (s.route c).fields.tier o.template.tier = true) :
    (s.walkStep o).routes = s.routes := by
  rw [walkStep_routes, ← hc, applyStep_of_fail fail]

/-- R143: a BULK_STEP that is due makes a step of the walk. -/
theorem exec_bulkStep_of_due (hs : s.walker.state = .walking) (ho : s.walker.order = some o)
    (due : 0 < s.walker.stepsDue) : exec .bulkStep s = .next (s.walkStep o) := by
  change execBulkStep s = _
  simp [execBulkStep, hs, ho, due]

end State

/-! ## The two users of the test -/

/-- Settles O46: the test of the model is the comparison of the three tiers, and each of the two commands goes
by its outcome alone. -/
theorem tierTestOfRouteWrites : Obligations.TierTestOfRouteWrites := by
  unfold Obligations.TierTestOfRouteWrites
  simp only [← tierTest_iff]
  constructor
  · intro s p lost w hh hw
    constructor
    · intro pass
      exact ⟨_, State.exec_writeRoute_of_pass hh hw pass, by simp⟩
    · exact State.exec_writeRoute_of_fail hh hw
  · intro s o c hs ho due hc
    constructor
    · intro pass
      have written := State.walkStep_route_fields_of_pass hc pass
      exact ⟨_, State.exec_bulkStep_of_due hs ho due,
        congrArg RouteFields.tier written, congrArg RouteFields.head written⟩
    · intro fail
      exact ⟨_, State.exec_bulkStep_of_due hs ho due, State.walkStep_routes_of_fail hc fail⟩

end Sys2Proof.Machine
end

