-- ==== Sys2Proof/Proofs/Reads.lean ====
section
/-! READ TRUNK and READ GROUP (R60, R108): which bodies of one number are read and which are refused, what a
kind that reports one member of a numbering answers, and what a set of eight says as an octet. -/

namespace Sys2Proof.Machine

/-! ## The body of a kind that names one member of a numbering (R166) -/

theorem toNat_of_octetFin {n : Nat} {o : Octet} {i : Fin n} (h : octetFin n o = some i) :
    o.toNat = i.val := by
  simp only [octetFin, Option.dite_none_right_eq_some, Option.some.injEq] at h
  obtain ⟨_, rfl⟩ := h
  rfl

theorem oneNumber_one {n : Nat} (hn : n ≤ 256) (kind : Octet) (i : Fin n) :
    oneNumber n (kind :: one i.val) = some i :=
  octetFin_ofNat hn i

/-- A body is read as a number exactly when its data are that number's octet: a body of any other length, or
with a greater number, names none. -/
theorem oneNumber_eq_some_iff {n : Nat} (hn : n ≤ 256) (kind : Octet) (args : List Octet)
    (i : Fin n) : oneNumber n (kind :: args) = some i ↔ args = one i.val := by
  constructor
  · intro h
    match args, h with
    | [a], h =>
      have value : a.toNat = i.val := toNat_of_octetFin h
      rw [one, ← value, BitVec.ofNat_toNat, BitVec.setWidth_eq]
  · rintro rfl
    exact oneNumber_one hn kind i

theorem oneNumber_eq_none {n : Nat} (hn : n ≤ 256) (kind : Octet) {args : List Octet}
    (h : ∀ i : Fin n, args ≠ one i.val) : oneNumber n (kind :: args) = none :=
  Option.eq_none_iff_forall_ne_some.mpr fun i hi =>
    h i ((oneNumber_eq_some_iff hn kind args i).mp hi)

/-! ## A set of eight as an octet -/

/-- The powers of 2 of a set's members add up to the number whose bits are the set. -/
theorem sum_powers_eq_ofBits {n : Nat} (member : Fin n → Bool) :
    ((List.finRange n).map fun i => if member i then 2 ^ i.val else 0).sum = Nat.ofBits member := by
  induction n with
  | zero => rfl
  | succ n ih =>
    have doubled (i : Fin n) :
        (if member i.succ then 2 ^ i.succ.val else 0) =
          2 * (if (member ∘ Fin.succ) i then 2 ^ i.val else 0) := by
      simp [Nat.pow_succ, Nat.mul_comm]
    simp only [List.finRange_succ, List.map_cons, List.map_map, List.sum_cons, Function.comp_def,
      doubled, List.sum_map_mul_left]
    rw [Nat.ofBits_succ, ← ih (member ∘ Fin.succ), Nat.add_comm]
    cases member 0 <;> rfl

/-- Member i of a set of eight is bit i of its octet. -/
theorem octetOfSet_getLsbD (member : Fin 8 → Bool) (i : Fin 8) :
    (octetOfSet member).getLsbD i.val = member i := by
  rw [octetOfSet, sum_powers_eq_ofBits, BitVec.getLsbD_ofNat, Nat.testBit_ofBits_lt member i i.isLt]
  simp

/-! ## A kind that reports one member of a numbering -/

/-- What a kind answers that names one member of a numbering of `n` and reports it: RANGE for a body that names
none, else DONE with the member's report, on the state as it stands. -/
structure ReadsOne (n : Nat) (act : State → Port → List Octet → Answer)
    (report : State → Fin n → List Octet) : Prop where
  range : ∀ {s p body}, oneNumber n body = none → act s p body = refuse s .range
  done : ∀ {s p body i}, oneNumber n body = some i → act s p body = accept s (report s i)

theorem kindIs_cons (kind : Octet) (args : List Octet) : kindIs kind (kind :: args) = true := by
  simp [kindIs]

section

variable {n : Nat} {act : State → Port → List Octet → Answer} {report : State → Fin n → List Octet}
  {s : State} {p : Port} {lost : Bool} {kind : Octet} {args : List Octet}

/-- R166: a request that names no member is refused with RANGE, and changes nothing. -/
theorem ReadsOne.serve_of_none_named (reads : ReadsOne n act report) (hn : n ≤ 256)
    (hh : s.engine.held = some ⟨p, kind :: args, lost⟩)
    (none_named : ∀ i : Fin n, args ≠ one i.val) :
    s.serve .run (kindIs kind) act = s.answered p lost kind .range [] :=
  calc
    _ = s.execute ⟨p, kind :: args, lost⟩ act :=
      State.serve_run_of_held s hh (kindIs_cons kind args) act
    _ = _ := State.execute_refuse s hh (reads.range (oneNumber_eq_none hn kind none_named))

/-- R163: a request that names a member is answered DONE with its report, and changes nothing. -/
theorem ReadsOne.serve_of_named (reads : ReadsOne n act report) (hn : n ≤ 256)
    (hh : s.engine.held = some ⟨p, kind :: args, lost⟩) {i : Fin n} (named : args = one i.val) :
    s.serve .run (kindIs kind) act = s.answered p lost kind .done (report s i) :=
  calc
    _ = s.execute ⟨p, kind :: args, lost⟩ act :=
      State.serve_run_of_held s hh (kindIs_cons kind args) act
    _ = _ := State.execute_accept s hh
      (reads.done ((oneNumber_eq_some_iff hn kind args i).mpr named))

end

/-! ## The two kinds (R60, R108) -/

/-- R60: READ TRUNK reports one of the 8 trunks. -/
theorem readsOne_trunk : ReadsOne 8 answerReadTrunk State.trunkReport where
  range h := by simp [answerReadTrunk, h]
  done h := by simp [answerReadTrunk, h]

/-- R108: READ GROUP reports one of the 4 groups. -/
theorem readsOne_group : ReadsOne 4 answerReadGroup State.groupReport where
  range h := by simp [answerReadGroup, h]
  done h := by simp [answerReadGroup, h]

theorem exec_readTrunk (phase : EnginePhase) (s : State) :
    exec (.readTrunk phase) s = .next (s.serve phase (kindIs 0x25) answerReadTrunk) := rfl

theorem exec_readGroup (phase : EnginePhase) (s : State) :
    exec (.readGroup phase) s = .next (s.serve phase (kindIs 0x24) answerReadGroup) := rfl

/-- Settles O41: the two kinds report one member of a numbering, the receiver state and the alarm by the state
of the trunk's receiver, the group by its record and the member ports by the straps. -/
theorem readTrunkAndReadGroup : Obligations.ReadTrunkAndReadGroup := by
  unfold Obligations.ReadTrunkAndReadGroup
  simp only [exec_readTrunk, exec_readGroup, Host.Outcome.next.injEq]
  constructor
  · intro s p lost args hh
    refine ⟨readsOne_trunk.serve_of_none_named (by decide) hh, fun k named => ?_⟩
    rw [readsOne_trunk.serve_of_named (by decide) hh named, State.trunkReport, State.inAlarm]
    cases (s.trunk k).state <;> rfl
  · intro s p lost args hh
    refine ⟨readsOne_group.serve_of_none_named (by decide) hh, fun g named =>
      ⟨octetOfSet fun q => s.groupOf q == g, fun q => ?_, ?_⟩⟩
    · rw [octetOfSet_getLsbD, beq_eq_decide, State.groupOf]
    · rw [readsOne_group.serve_of_named (by decide) hh named, State.groupReport]
      cases (s.group g).state <;> cases (s.group g).hold <;> rfl

end Sys2Proof.Machine
end

section
/-! The decay of the scores at a DECAY_TICK (R65, R66): the order that the command makes of its operand reaches
every record once, and each record decays its own port's score alone, whatever the comparison that follows
does with the port's state. -/

namespace Sys2Proof.Machine

/-! ## An order that takes the members it names first (log 13) -/

section

variable {α : Type*} [DecidableEq α] {named all : List α}

/-- The members named come first, and the rest are the ones not named: none comes twice. -/
theorem nodup_namedFirst (nodup : all.Nodup) :
    (named.dedup ++ all.filter fun a => !named.contains a).Nodup := by
  refine List.Nodup.append named.nodup_dedup (nodup.filter _) fun a isNamed isOther => ?_
  simp_all

/-- Named or not, a member of the whole stands in the order. -/
theorem mem_namedFirst {a : α} (member : a ∈ all) :
    a ∈ named.dedup ++ all.filter fun a => !named.contains a := by
  by_cases isNamed : a ∈ named <;> simp [isNamed, member]

end

theorem nodup_allDecayRecords : allDecayRecords.Nodup := by decide

theorem mem_allDecayRecords (r : DecayRecord) : r ∈ allDecayRecords := by
  cases r <;> simp [allDecayRecords]

theorem nodup_decayOrder (named : List DecayRecord) : (decayOrder named).Nodup :=
  nodup_namedFirst nodup_allDecayRecords

theorem mem_decayOrder (named : List DecayRecord) (r : DecayRecord) : r ∈ decayOrder named :=
  mem_namedFirst (mem_allDecayRecords r)

namespace State

variable (s : State)

/-! ## The score through a port's tick (R66, R67) -/

theorem decayed_zero (k : Nat) : decayed 0 k = 0 := Nat.zero_sub _

@[simp] theorem joinProbeQueue_port_h (e : ProbeEntry) (q : Port) :
    ((s.joinProbeQueue e).port q).h = (s.port q).h :=
  (takeProbe_port_score _ q).1

@[simp] theorem leaveService_port_h (p : Port) (x : PortState) (q : Port) :
    ((s.leaveService p x).port q).h = (s.port q).h :=
  (s.leaveService_port_score p x q).1

/-- A port record written with its own score leaves every score as it was. -/
theorem setPort_port_h_of_same {p : Port} {r : PortRecord} (same : r.h = (s.port p).h) (q : Port) :
    ((s.setPort p r).port q).h = (s.port q).h := by
  rw [port_setPort]
  split_ifs with hq
  · rw [same, hq]
  · rfl

@[simp] theorem setVerdict_port_h (p : Port) (ready : Bool) (v : Verdict) (n : Nat) (q : Port) :
    ((s.setVerdict p ready v n).port q).h = (s.port q).h := by
  simp [setVerdict, setPort_port_h_of_same]

@[simp] theorem enterSuspect_port_h (p q : Port) :
    ((s.enterSuspect p).port q).h = (s.port q).h := by
  by_cases hq : q = p <;> simp [enterSuspect_port, hq]

@[simp] theorem enterUp_port_h (p q : Port) : ((s.enterUp p).port q).h = (s.port q).h := by
  by_cases hq : q = p <;> simp [enterUp_port, hq]

/-- R70: a port that leaves DOWN, for AWAIT PROBE or for UP, takes its score with it. -/
@[simp] theorem endQuiet_port_h (p q : Port) : ((s.endQuiet p).port q).h = (s.port q).h := by
  unfold endQuiet
  split
  · simp [setPort_port_h_of_same]
  · exact s.enterUp_port_h p q

/-- R67, R69, R93: in every state, the comparison of a tick moves the port and changes no score. -/
@[simp] theorem compareTick_port_h (p q : Port) : ((s.compareTick p).port q).h = (s.port q).h := by
  cases state : (s.port p).state with
  | up | suspect =>
    simp only [compareTick, state]
    split_ifs <;> simp
  | down =>
    simp only [compareTick, state]
    split_ifs <;> simp [setPort_port_h_of_same]
  | awaitProbe | probing | disabled => simp only [compareTick, state]
  | loopback ready v =>
    cases v <;> simp only [compareTick, state] <;> split_ifs <;> simp

/-- R66: a tick at a port's record decays the score of that port, and of no other. -/
theorem decayPort_port_h (p q : Port) :
    ((s.decayPort p).port q).h =
      if q = p then decayed (s.port q).h (s.param .decayFactor) else (s.port q).h := by
  rw [decayPort, compareTick_port_h, port_setPort]
  split_ifs with hq
  · rw [hq]
  · rfl

/-! ## The score through the whole tick (R65) -/

@[simp] theorem examineGroup_port (g : Group) (p : Port) : (s.examineGroup g).port p = s.port p :=
  port_congr (by simp) p

/-- R65: a record's tick decays a port's score exactly when the record is that port's. -/
theorem decayRecord_port_h (r : DecayRecord) (p : Port) :
    ((s.decayRecord r).port p).h =
      if r = .port p then decayed (s.port p).h (s.param .decayFactor) else (s.port p).h := by
  cases r with
  | port q => simp [decayRecord, decayPort_port_h, eq_comm]
  | group g => simp [decayRecord]

@[simp] theorem decayRecord_param (r : DecayRecord) (x : Param) :
    (s.decayRecord r).param x = s.param x :=
  param_congr (by simp) x

@[simp] theorem setTime_port (x : Timebase) (p : Port) : (s.setTime x).port p = s.port p := rfl

@[simp] theorem setTime_param (x : Timebase) (y : Param) : (s.setTime x).param y = s.param y := rfl

/-- A tick that reaches each of its records once decays the scores of the ports among them, each once and by the
factor that stands at the tick. -/
theorem foldl_decayRecord_port_h {records : List DecayRecord} (nodup : records.Nodup) (p : Port) :
    ((records.foldl decayRecord s).port p).h =
      if .port p ∈ records then decayed (s.port p).h (s.param .decayFactor) else (s.port p).h := by
  induction records generalizing s with
  | nil => rfl
  | cons r rest ih =>
    obtain ⟨fresh, nodup⟩ := List.nodup_cons.mp nodup
    rw [List.foldl_cons, ih _ nodup, decayRecord_param, decayRecord_port_h]
    by_cases reached : r = .port p
    · subst reached
      simp [fresh]
    · simp [reached, Ne.symm reached]

variable {s}

/-- R65: a tick that is due is taken from the count and reaches every record in the order. -/
theorem exec_decayTick_of_due (due : 0 < s.time.decayDue) (order : List DecayRecord) :
    exec (.decayTick order) s =
      .next ((decayOrder order).foldl decayRecord
        (s.setTime { s.time with decayDue := s.time.decayDue - 1 })) := by
  change execDecayTick order s = _
  rw [execDecayTick, if_pos due]

end State

/-- Settles O19: the order of the tick holds every port's record once, so the one decay of that record is what
the tick does to the port's score. -/
theorem decayTickLowersScores : Obligations.DecayTickLowersScores := by
  unfold Obligations.DecayTickLowersScores
  intro s order due
  refine ⟨_, State.exec_decayTick_of_due due order, fun p => ?_⟩
  rw [State.foldl_decayRecord_port_h _ (nodup_decayOrder order), if_pos (mem_decayOrder order _),
    State.setTime_port, State.setTime_param]
  exact ⟨fun _ => rfl, fun zero => by rw [zero, State.decayed_zero]⟩

end Sys2Proof.Machine
end

section
/-! PROBE PORT (R90): the order of its checks, the standing of a port with the checker, and what a request that
passes the checks makes of that standing. -/

namespace Sys2Proof.Machine

theorem refusesProbe_iff (x : PortState) : x.refusesProbe = true ↔ x = .down ∨ x = .disabled := by
  cases x <;> simp [PortState.refusesProbe]

namespace State

variable {s : State} {p q : Port}

/-! ## The standing of a port with the checker -/

theorem hasStanding_iff (s : State) (q : Port) :
    s.hasStanding q = true ↔ s.checker.runsOn q = true ∨ ∃ x ∈ s.checker.queue, x.port = q := by
  simp [hasStanding]

theorem hasStanding_eq_false (unserved : s.checker.runsOn q = false)
    (unqueued : ∀ x ∈ s.checker.queue, x.port ≠ q) : s.hasStanding q = false := by
  simpa [hasStanding, unserved] using unqueued

theorem standing_of_runsOn (served : s.checker.runsOn q = true) : s.standing q = 0 := by
  simp [standing, served]

/-- A port that waits stands at the position of its first entry, counted from 1. -/
theorem standing_of_queued {before after : List ProbeEntry} {e : ProbeEntry}
    (unserved : s.checker.runsOn q = false) (queue : s.checker.queue = before ++ e :: after)
    (mine : e.port = q) (ahead : ∀ x ∈ before, x.port ≠ q) :
    s.standing q = before.length + 1 := by
  have passed : before.findIdx (fun x => x.port == q) = before.length :=
    List.findIdx_eq_length.mpr fun x hx => beq_false_of_ne (ahead x hx)
  simp [standing, unserved, queue, List.findIdx_append, passed, List.findIdx_cons, mine]

/-! ## Joining the probe queue (R85, R90) -/

/-- While the checker serves another entry, an entry that joins the queue waits. -/
theorem joinProbeQueue_of_busy (busy : s.checker.state ≠ .idle) (e : ProbeEntry) :
    s.joinProbeQueue e =
      { s with checker := { s.checker with queue := s.checker.queue ++ [e] } } :=
  takeProbe_of_busy _ busy

/-- A DEMAND entry that finds the checker IDLE and the queue empty is taken at once. -/
theorem joinProbeQueue_demand_of_idle (idle : s.checker.state = .idle)
    (empty : s.checker.queue = []) (q : Port) :
    s.joinProbeQueue ⟨q, .demand⟩ =
      { s with
        checker :=
          { state := .seeding ⟨q, .demand⟩, generator := Stages.ones, check := Stages.ones
            seeds := [], compared := 0, errors := 0, length := s.param .probeLen
            limit := s.param .probeMaxErr, queue := [], started := false, returned := none } } := by
  have queue : s.checker.queue ++ [⟨q, .demand⟩] = [⟨q, .demand⟩] := by simp [empty]
  exact takeProbe_of_entry
    (s.setChecker { s.checker with queue := s.checker.queue ++ [⟨q, .demand⟩] }) idle queue

theorem demandProbe_of_standing (standing : s.hasStanding q = true) : s.demandProbe q = s := by
  simp [demandProbe, standing]

theorem demandProbe_of_no_standing (takes : (s.port q).state.takesDemand = true)
    (none_held : s.hasStanding q = false) :
    s.demandProbe q = s.joinProbeQueue ⟨q, .demand⟩ := by
  simp [demandProbe, takes, none_held]

/-! ## The checks and the answer (R90) -/

theorem trusted_iff (limit : Tier) :
    s.trusted p limit = true ↔ s.tierOf (s.hostOf p) ≤ limit := by
  simp [trusted]

theorem answerProbePort_of_none_named {k : Octet} {args : List Octet}
    (none_named : ∀ i : Port, args ≠ one i.val) :
    answerProbePort s p (k :: args) = refuse s .range := by
  simp [answerProbePort, oneNumber_eq_none (by decide) k none_named]

/-- R90: a request that names a port is decided by the requester's tier, then by the port's state. -/
theorem answerProbePort_of_named (s : State) (p : Port) (k : Octet) (q : Port) :
    answerProbePort s p (k :: one q.val) =
      if ¬ s.tierOf (s.hostOf p) ≤ 1 then refuse s .denied
      else if (s.port q).state = .down ∨ (s.port q).state = .disabled then refuse s .state
      else accept (s.demandProbe q) ((s.demandProbe q).standingReport q) := by
  simp only [answerProbePort, oneNumber_one (n := 8) (by decide), Bool.not_eq_true',
    ← Bool.not_eq_true, trusted_iff, refusesProbe_iff]

section

variable {lost : Bool} {args : List Octet}

/-- R163: the run of a PROBE PORT executes the request that the engine holds. -/
theorem exec_probePort_run (hh : s.engine.held = some ⟨p, 0x22 :: args, lost⟩) :
    exec (.probePort .run) s = .next (s.execute ⟨p, 0x22 :: args, lost⟩ answerProbePort) :=
  congrArg Host.Outcome.next (serve_run_of_held s hh (kindIs_cons 0x22 args) answerProbePort)

/-- R90, R166: a refused PROBE PORT changes nothing. -/
theorem exec_probePort_of_refuse {r : Result}
    (hh : s.engine.held = some ⟨p, 0x22 :: args, lost⟩)
    (refused : answerProbePort s p (0x22 :: args) = refuse s r) :
    exec (.probePort .run) s = .next (s.answered p lost 0x22 r []) := by
  rw [exec_probePort_run hh, execute_refuse s hh refused]
  rfl

/-- R90: a PROBE PORT that passes its checks is answered DONE, with the port's standing after its effect. -/
theorem exec_probePort_of_pass {u : State} {n : Nat}
    (hh : s.engine.held = some ⟨p, 0x22 :: one q.val, lost⟩)
    (tier : s.tierOf (s.hostOf p) ≤ 1) (down : (s.port q).state ≠ .down)
    (disabled : (s.port q).state ≠ .disabled)
    (effect : s.demandProbe q = u) (standing : u.standing q = n) :
    exec (.probePort .run) s =
      .next (u.answered p lost 0x22 .done (one q.val ++ one n)) := by
  have held : u.engine.held = some ⟨p, 0x22 :: one q.val, lost⟩ := by
    simpa [← effect] using hh
  have passed :
      answerProbePort s p (0x22 :: one q.val) = accept u (one q.val ++ one n) := by
    simp [answerProbePort_of_named, tier, down, disabled, effect, standingReport, standing]
  rw [exec_probePort_run hh, execute_accept s held passed]
  rfl

end

end State

/-- Settles O36: the checks in their order decide a refusal; a request that passes them leaves a port that has a
standing as it is, and gives one to a port that has none, at the tail of the queue or at the checker itself. -/
theorem probePortRequest : Obligations.ProbePortRequest := by
  unfold Obligations.ProbePortRequest
  intro s p lost args hh
  refine ⟨fun none_named =>
    State.exec_probePort_of_refuse hh (State.answerProbePort_of_none_named none_named), ?_⟩
  rintro q rfl
  refine ⟨fun untrusted => ?denied, fun tier refusing => ?state, fun tier down disabled => ?passed⟩
  case denied =>
    apply State.exec_probePort_of_refuse hh
    rw [State.answerProbePort_of_named, if_pos (not_le.mpr untrusted)]
  case state =>
    apply State.exec_probePort_of_refuse hh
    rw [State.answerProbePort_of_named, if_neg (not_not.mpr tier), if_pos refusing]
  case passed =>
    have pass {u : State} {n : Nat} (effect : s.demandProbe q = u) (standing : u.standing q = n) :=
      State.exec_probePort_of_pass hh tier down disabled effect standing
    refine ⟨fun served => ?served, fun before e after unserved queue mine ahead => ?queued,
      fun unserved unqueued takes => ?fresh⟩
    case served =>
      have standing := (s.hasStanding_iff q).mpr (.inl served)
      exact pass (State.demandProbe_of_standing standing) (State.standing_of_runsOn served)
    case queued =>
      have standing := (s.hasStanding_iff q).mpr (.inr ⟨e, by simp [queue], mine⟩)
      exact pass (State.demandProbe_of_standing standing)
        (State.standing_of_queued unserved queue mine ahead)
    case fresh =>
      have joins := State.demandProbe_of_no_standing takes
        (State.hasStanding_eq_false unserved unqueued)
      constructor
      · intro busy
        exact pass (joins.trans (State.joinProbeQueue_of_busy busy _))
          (State.standing_of_queued unserved rfl rfl unqueued)
      · intro idle empty
        exact pass (joins.trans (State.joinProbeQueue_demand_of_idle idle empty q))
          (State.standing_of_runsOn (by simp [Checker.runsOn, CheckerState.entry]))

end Sys2Proof.Machine
end

section
/-! The rectangle of a bulk walk (R142): an extent as the members at distances from its first, counted around the
numbering, and the step numbers of a walk as pairs of such distances in slot-major order. -/

namespace Sys2Proof.Machine

/-! ## One extent -/

section

variable {n first last : Nat}

theorem extentSize_pos (hf : first < n) : 0 < extentSize n first last := by
  unfold extentSize
  split_ifs <;> omega

theorem extentSize_le (hl : last < n) : extentSize n first last ≤ n := by
  unfold extentSize
  split_ifs <;> omega

/-- Up to the top of the numbering, counting on from `first` does not wrap. -/
theorem range'_eq_map_mod {k : Nat} (fits : first + k ≤ n) :
    List.range' first k = (List.range k).map fun i => (first + i) % n := by
  rw [List.range'_eq_map_range]
  refine List.map_congr_left fun i hi => (Nat.mod_eq_of_lt ?_).symm
  rw [List.mem_range] at hi
  omega

/-- Counting on from `first` around the numbering comes to the members of the extent in their order, in an extent
that wraps too. -/
theorem extent_eq_map_mod (hf : first < n) (hl : last < n) :
    extent n first last =
      (List.range (extentSize n first last)).map fun i => (first + i) % n := by
  unfold extent extentSize
  split_ifs with upward
  · exact range'_eq_map_mod (by omega)
  · have toTop : List.range' first (n - first) =
        (List.range (n - first)).map fun i => (first + i) % n := range'_eq_map_mod (by omega)
    have fromZero : List.range (last + 1) = (List.range (last + 1)).map fun i => (0 + i) % n :=
      List.range_eq_range'.trans (range'_eq_map_mod (by omega))
    have around (i : Nat) : (first + (n - first + i)) % n = (0 + i) % n := by
      rw [← Nat.add_assoc, Nat.add_sub_of_le hf.le, Nat.add_mod_left, Nat.zero_add]
    have size : last + n + 1 - first = (n - first) + (last + 1) := by omega
    rw [size, List.range_add (n := n - first), List.map_append, List.map_map, toTop]
    simp only [Function.comp_def, around, ← fromZero]

/-- Counting on from `first` meets no member twice within one round of the numbering. -/
theorem add_mod_left_inj {i j : Nat} (hi : i < n) (hj : j < n)
    (same : (first + i) % n = (first + j) % n) : i = j :=
  (Nat.ModEq.add_left_cancel' first same).eq_of_lt_of_lt hi hj

end

/-! ## Two counts in one -/

/-- Counting up to a product, by remainder and quotient, is counting the one within the other. -/
theorem range_mul_map_mod_div {α : Type*} (f : Nat → Nat → α) {a : Nat} (ha : 0 < a) (b : Nat) :
    (List.range (a * b)).map (fun i => f (i % a) (i / a)) =
      (List.range b).flatMap fun j => (List.range a).map fun i => f i j := by
  induction b with
  | zero => rfl
  | succ b ih =>
    rw [Nat.mul_succ, List.range_add, List.map_append, ih, List.map_map, List.range_succ,
      List.flatMap_append, List.flatMap_singleton]
    congr 1
    refine List.map_congr_left fun i hi => ?_
    rw [List.mem_range] at hi
    rw [Function.comp_apply, Nat.mul_add_mod, Nat.mod_eq_of_lt hi, Nat.mul_add_div ha,
      Nat.div_eq_of_lt hi, Nat.add_zero]

/-! ## The rectangle of a walk -/

namespace WalkOrder

variable (o : WalkOrder)

theorem trunks_pos : 0 < o.trunks := extentSize_pos o.trunkFirst.isLt

theorem trunks_le : o.trunks ≤ 8 := extentSize_le o.trunkLast.isLt

theorem slots_pos : 0 < o.slots := extentSize_pos o.slotFirst.isLt

theorem slots_le : o.slots ≤ 16 := extentSize_le o.slotLast.isLt

theorem trunks_eq :
    o.trunks =
      if o.trunkFirst ≤ o.trunkLast then o.trunkLast.val + 1 - o.trunkFirst.val
      else o.trunkLast.val + 9 - o.trunkFirst.val := by
  simp only [trunks, extentSize, Fin.le_def]
  split_ifs <;> omega

theorem slots_eq :
    o.slots =
      if o.slotFirst ≤ o.slotLast then o.slotLast.val + 1 - o.slotFirst.val
      else o.slotLast.val + 17 - o.slotFirst.val := by
  simp only [slots, extentSize, Fin.le_def]
  split_ifs <;> omega

theorem total_pos : 1 ≤ o.total := Nat.mul_pos o.trunks_pos o.slots_pos

theorem total_le : o.total ≤ 128 := Nat.mul_le_mul o.trunks_le o.slots_le

/-- The circuit of a step, by the trunk's and the slot's distances from the first of each. -/
theorem circuitAt_step (i : Nat) :
    circuitAt (o.trunkOfStep i) (o.slotOfStep i) =
      Fin.ofNat 128
        (16 * ((o.trunkFirst.val + i % o.trunks) % 8) + (o.slotFirst.val + i / o.trunks) % 16) := by
  have inTable := (circuitAt (o.trunkOfStep i) (o.slotOfStep i)).isLt
  exact Fin.ext (Nat.mod_eq_of_lt inTable).symm

/-- R142: the steps of a walk take, for each slot of its extent in turn, every trunk of its extent in turn. -/
theorem map_circuitAt_step :
    (List.range o.total).map (fun i => circuitAt (o.trunkOfStep i) (o.slotOfStep i)) =
      (extent 16 o.slotFirst.val o.slotLast.val).flatMap fun sl =>
        (extent 8 o.trunkFirst.val o.trunkLast.val).map fun tr => Fin.ofNat 128 (16 * tr + sl) := by
  rw [extent_eq_map_mod o.slotFirst.isLt o.slotLast.isLt,
    extent_eq_map_mod o.trunkFirst.isLt o.trunkLast.isLt, List.flatMap_map]
  simp only [List.map_map, Function.comp_def, circuitAt_step]
  exact range_mul_map_mod_div
    (fun t s => Fin.ofNat 128 (16 * ((o.trunkFirst.val + t) % 8) + (o.slotFirst.val + s) % 16))
    o.trunks_pos o.slots

theorem mod_trunks_eq_of_trunkOfStep_eq {i j : Nat} (same : o.trunkOfStep i = o.trunkOfStep j) :
    i % o.trunks = j % o.trunks :=
  have within (k : Nat) : k % o.trunks < 8 := (Nat.mod_lt k o.trunks_pos).trans_le o.trunks_le
  add_mod_left_inj (within i) (within j) (Fin.val_eq_of_eq same)

theorem div_trunks_eq_of_slotOfStep_eq {i j : Nat} (hi : i < o.total) (hj : j < o.total)
    (same : o.slotOfStep i = o.slotOfStep j) : i / o.trunks = j / o.trunks :=
  have within {k : Nat} (hk : k < o.total) : k / o.trunks < 16 :=
    (Nat.div_lt_of_lt_mul hk).trans_le o.slots_le
  add_mod_left_inj (within hi) (within hj) (Fin.val_eq_of_eq same)

/-- R142: no two steps of one walk have the same circuit, since its trunk gives the step's remainder and its
station slot the quotient. -/
theorem circuitAt_step_inj {i j : Nat} (hi : i < o.total) (hj : j < o.total)
    (same : circuitAt (o.trunkOfStep i) (o.slotOfStep i) =
      circuitAt (o.trunkOfStep j) (o.slotOfStep j)) : i = j := by
  have trunk : o.trunkOfStep i = o.trunkOfStep j := by simpa using congrArg trunkOf same
  have slot : o.slotOfStep i = o.slotOfStep j := by simpa using congrArg stationSlotOf same
  calc
    i = o.trunks * (i / o.trunks) + i % o.trunks := (Nat.div_add_mod i o.trunks).symm
    _ = o.trunks * (j / o.trunks) + j % o.trunks := by
      rw [o.div_trunks_eq_of_slotOfStep_eq hi hj slot, o.mod_trunks_eq_of_trunkOfStep_eq trunk]
    _ = j := Nat.div_add_mod j o.trunks

end WalkOrder

/-- Settles O30: the steps of a walk are the pairs of a member of each extent, slot-major, and none comes twice
because neither extent goes more than once around its numbering. -/
theorem walkCoversRectangle : Obligations.WalkCoversRectangle := by
  unfold Obligations.WalkCoversRectangle
  intro o
  refine ⟨o.map_circuitAt_step, ?once, ?product, o.total_pos, o.total_le⟩
  case once =>
    refine List.nodup_range.map_on fun i hi j hj same => ?_
    exact o.circuitAt_step_inj (List.mem_range.mp hi) (List.mem_range.mp hj) same
  case product =>
    rw [← o.trunks_eq, ← o.slots_eq, WalkOrder.total]

end Sys2Proof.Machine
end

section
/-! SET MASK, SET URGENCY and CLEAR ALARM (R158): which bodies are read and which are refused, and what a request
that writes the record of its own host leaves. -/

namespace Sys2Proof.Machine

/-! ## The operands -/

/-- R158: a value above 7 is stored as 7, and any other as it is. -/
theorem urgencyOf_eq {v : Octet} {u : Urgency} (stored : u.val = min 7 v.toNat) : urgencyOf v = u :=
  Fin.ext stored.symm

theorem maskOf_value (k v : Octet) : maskOf [k, v] = some (urgencyOf v) := rfl

theorem maskOf_eq_none (k : Octet) {args : List Octet} (length : args.length ≠ 1) :
    maskOf (k :: args) = none :=
  match args, length with
  | [], _ => rfl
  | _ :: _ :: _, _ => rfl

/-- The octet of a source number is read back as the source's index. -/
theorem urgencyWriteOf_source (k : Octet) (n : Fin 11) (v : Octet) :
    urgencyWriteOf (k :: (one (n.val + 1) ++ [v])) = some (n, urgencyOf v) := by
  have value : (n.val + 1) % 256 = n.val + 1 := by omega
  have within : n.val + 1 ≤ 11 := n.isLt
  simp [urgencyWriteOf, one, value, within]

/-- R158: source 0 and the numbers above 11 name no urgency. -/
theorem urgencyWriteOf_eq_none_of_source (k v : Octet) {n : Octet}
    (outside : n.toNat = 0 ∨ 11 < n.toNat) : urgencyWriteOf [k, n, v] = none := by
  have unnamed : ¬ (1 ≤ n.toNat ∧ n.toNat ≤ 11) := by omega
  simp only [urgencyWriteOf, dif_neg unnamed]

theorem urgencyWriteOf_eq_none_of_length (k : Octet) {args : List Octet} (length : args.length ≠ 2) :
    urgencyWriteOf (k :: args) = none :=
  match args, length with
  | [], _ => rfl
  | [_], _ => rfl
  | _ :: _ :: _ :: _, _ => rfl

theorem bareBody_kind (k : Octet) : bareBody [k] = some () := rfl

theorem bareBody_eq_none (k : Octet) {args : List Octet} (nonempty : args ≠ []) :
    bareBody (k :: args) = none :=
  match args, nonempty with
  | _ :: _, _ => rfl

/-! ## A kind that writes the record of the requesting host -/

/-- What a kind answers whose only effect is on the record of the requesting host: RANGE for a body that is not
read, else DONE on the state in which that one record is written. -/
structure WritesOwnRecord {α : Type} (read : List Octet → Option α)
    (act : State → Port → List Octet → Answer) (record : HostRecord → α → HostRecord)
    (data : State → α → List Octet) : Prop where
  range : ∀ {s p body}, read body = none → act s p body = refuse s .range
  done : ∀ {s p body x}, read body = some x →
    act s p body =
      accept (s.setHostRecord (s.hostOf p) (record (s.hostRecord (s.hostOf p)) x)) (data s x)

namespace WritesOwnRecord

variable {α : Type} {read : List Octet → Option α} {act : State → Port → List Octet → Answer}
  {record : HostRecord → α → HostRecord} {data : State → α → List Octet}
  {s : State} {p : Port} {lost : Bool} {kind : Octet} {args : List Octet}

/-- R166: a request whose body is not read is refused with RANGE, and changes nothing. -/
theorem serve_of_unread (writes : WritesOwnRecord read act record data)
    (hh : s.engine.held = some ⟨p, kind :: args, lost⟩) (unread : read (kind :: args) = none) :
    s.serve .run (kindIs kind) act = s.answered p lost kind .range [] :=
  calc
    _ = s.execute ⟨p, kind :: args, lost⟩ act :=
      State.serve_run_of_held s hh (kindIs_cons kind args) act
    _ = _ := State.execute_refuse s hh (writes.range unread)

/-- R158: a request whose body is read is answered DONE, with the record of its own host written. -/
theorem serve_of_read (writes : WritesOwnRecord read act record data)
    (hh : s.engine.held = some ⟨p, kind :: args, lost⟩) {x : α}
    (reads : read (kind :: args) = some x) :
    s.serve .run (kindIs kind) act =
      (s.setHostRecord (s.hostOf p) (record (s.hostRecord (s.hostOf p)) x)).answered
        p lost kind .done (data s x) :=
  calc
    _ = s.execute ⟨p, kind :: args, lost⟩ act :=
      State.serve_run_of_held s hh (kindIs_cons kind args) act
    _ = _ := State.execute_accept s (by simpa using hh) (writes.done reads)

end WritesOwnRecord

/-! ## The three kinds (R158) -/

/-- R158: SET MASK writes the mask. -/
theorem writesOwnRecord_setMask :
    WritesOwnRecord maskOf answerSetMask (fun r m => { r with mask := m })
      (fun _ m => one m.val) where
  range unread := by simp [answerSetMask, unread]
  done read := by simp [answerSetMask, read, State.storeMask]

/-- R158: SET URGENCY writes the urgency of one source. -/
theorem writesOwnRecord_setUrgency :
    WritesOwnRecord urgencyWriteOf answerSetUrgency
      (fun r x => { r with urgency := r.urgency.set x.1 x.2 })
      (fun _ x => one (x.1.val + 1) ++ one x.2.val) where
  range unread := by simp [answerSetUrgency, unread]
  done read := by simp [answerSetUrgency, read, State.storeUrgency]

/-- R155, R158: CLEAR ALARM clears the latch. -/
theorem writesOwnRecord_clearAlarm :
    WritesOwnRecord bareBody answerClearAlarm (fun r _ => { r with latch := false })
      (fun s _ => yesNo s.exchangeLost) where
  range unread := by simp [answerClearAlarm, unread]
  done read := by simp [answerClearAlarm, read, State.clearLatch]

theorem exec_setMask (phase : EnginePhase) (s : State) :
    exec (.setMask phase) s = .next (s.serve phase (kindIs 0x41) answerSetMask) := rfl

theorem exec_setUrgency (phase : EnginePhase) (s : State) :
    exec (.setUrgency phase) s = .next (s.serve phase (kindIs 0x42) answerSetUrgency) := rfl

theorem exec_clearAlarm (phase : EnginePhase) (s : State) :
    exec (.clearAlarm phase) s = .next (s.serve phase (kindIs 0x43) answerClearAlarm) := rfl

/-- Settles O40: each of the three kinds reads its body or refuses it with RANGE, and what it then does is one
write of the record of the host to which the arrival port is strapped. -/
theorem hostRecordRequests : Obligations.HostRecordRequests := by
  unfold Obligations.HostRecordRequests
  simp only [exec_setMask, exec_setUrgency, exec_clearAlarm, Host.Outcome.next.injEq]
  rintro s p lost args _ rfl
  refine ⟨fun hh => ?setMask, fun hh => ?setUrgency, fun hh => ?clearAlarm⟩
  case setMask =>
    refine ⟨fun length => writesOwnRecord_setMask.serve_of_unread hh (maskOf_eq_none _ length), ?_⟩
    rintro v m rfl stored
    obtain rfl := urgencyOf_eq stored
    exact writesOwnRecord_setMask.serve_of_read hh (maskOf_value _ v)
  case setUrgency =>
    refine ⟨fun length => writesOwnRecord_setUrgency.serve_of_unread hh
      (urgencyWriteOf_eq_none_of_length _ length), ?outside, ?written⟩
    case outside =>
      rintro n v rfl outside
      exact writesOwnRecord_setUrgency.serve_of_unread hh
        (urgencyWriteOf_eq_none_of_source _ v outside)
    case written =>
      rintro n v u rfl stored
      obtain rfl := urgencyOf_eq stored
      exact writesOwnRecord_setUrgency.serve_of_read hh (x := (n, urgencyOf v))
        (urgencyWriteOf_source _ n v)
  case clearAlarm =>
    refine ⟨fun nonempty => writesOwnRecord_clearAlarm.serve_of_unread hh
      (bareBody_eq_none _ nonempty), ?_⟩
    rintro rfl
    exact writesOwnRecord_clearAlarm.serve_of_read hh (bareBody_kind _)

end Sys2Proof.Machine
end

section
/-! READ PARAMETERS (R170): the stored values of a response are a run of the parameter set in the order of its
identifiers, and each stands in it at three octets for each value before it. -/

namespace Sys2Proof.Machine

/-! ## Pieces of one length -/

section

variable {α β : Type*} {f : α → List β} {n : Nat}

theorem length_flatMap_of_length (uniform : ∀ a, (f a).length = n) (l : List α) :
    (l.flatMap f).length = n * l.length := by
  simp [List.length_flatMap, uniform, Nat.mul_comm]

/-- Of pieces that are all of length n, laid end to end, the piece numbered k stands at n times k. -/
theorem take_drop_flatMap_of_length (uniform : ∀ a, (f a).length = n) {l : List α} {k : Nat} {a : α}
    (at_k : l[k]? = some a) : ((l.flatMap f).drop (n * k)).take n = f a := by
  induction l generalizing k with
  | nil => simp at at_k
  | cons b l ih =>
    cases k with
    | zero =>
      obtain rfl : b = a := by simpa using at_k
      exact List.take_left' (uniform b)
    | succ k =>
      have after_first : ((b :: l).flatMap f).drop (n * (k + 1)) = (l.flatMap f).drop (n * k) := by
        rw [List.flatMap_cons, Nat.mul_succ, Nat.add_comm, ← List.drop_drop,
          List.drop_left' (uniform b)]
      rw [after_first, ih (by simpa using at_k)]

end

theorem length_three (v : Nat) : (three v).length = 3 := rfl

/-! ## The stored values from an identifier on -/

theorem map_id_all_params : Param.all.map Param.id = List.finRange 22 := by decide

namespace State

variable (s : State) (first : Fin 22)

/-- R168: read in the order of their identifiers, the parameters have the values of the stored set. -/
theorem map_param_all : Param.all.map s.param = s.params.toList :=
  calc
    _ = (Param.all.map Param.id).map fun j => s.params[j] := by rw [List.map_map]; rfl
    _ = s.params.toList := by
      rw [map_id_all_params]
      exact List.ext_getElem (by simp) (by simp)

/-- R170: the data of a READ PARAMETERS response after the first identifier. -/
def storedValues : List Octet :=
  ((s.params.toList.drop first.val).take 12).flatMap three

theorem paramReport_eq : s.paramReport first = one first.val ++ s.storedValues first := by
  rw [paramReport, storedValues, ← map_param_all, ← List.map_drop, ← List.map_take,
    List.flatMap_map]

/-- R170: up to 12 values or up to identifier 21, whichever comes first. -/
theorem length_storedValues : (s.storedValues first).length = 3 * min 12 (22 - first.val) := by
  rw [storedValues, length_flatMap_of_length length_three, List.length_take, List.length_drop,
    Vector.length_toList]

/-- R170: the values stand in the order of their identifiers, three octets each. -/
theorem storedValues_at {k : Nat} {j : Fin 22} (at_k : j.val = first.val + k) (in_run : k < 12) :
    ((s.storedValues first).drop (3 * k)).take 3 = three s.params[j] := by
  refine take_drop_flatMap_of_length length_three ?_
  rw [List.getElem?_take_of_lt in_run, List.getElem?_drop, ← at_k]
  simp

end State

/-! ## The kind -/

/-- R170: READ PARAMETERS reports from one of the 22 identifiers on. -/
theorem readsOne_parameters : ReadsOne 22 answerReadParameters State.paramReport where
  range h := by simp [answerReadParameters, h]
  done h := by simp [answerReadParameters, h]

theorem exec_readParameters (phase : EnginePhase) (s : State) :
    exec (.readParameters phase) s = .next (s.serve phase (kindIs 0x50) answerReadParameters) := rfl

/-- Settles O42: the kind reports from one member of a numbering on, and its report is that identifier and the
run of the stored set that begins there. -/
theorem readParametersReports : Obligations.ReadParametersReports := by
  unfold Obligations.ReadParametersReports
  simp only [exec_readParameters, Host.Outcome.next.injEq]
  intro s p lost args hh
  refine ⟨readsOne_parameters.serve_of_none_named (by decide) hh, fun i named =>
    ⟨s.storedValues i, ?_, s.length_storedValues i, fun k j => s.storedValues_at i⟩⟩
  rw [readsOne_parameters.serve_of_named (by decide) hh named, State.paramReport_eq]

end Sys2Proof.Machine
end

section
/-! What the health monitor and the checker can do, said once: every event there is a sequence of moves of a port or
of the checker, and a law that each move keeps is kept by the event. -/

namespace Sys2Proof.Machine

/-! ## The moves of the health monitor (chapters 4 and 5) -/

/-- R72 less the cancelled probe and the latches: a port leaves service, with what its departure does to the route
table and the map. -/
def State.departed (s : State) (p : Port) (target : PortState) : State :=
  let s₁ := (s.setPort p (State.departedRecord (s.port p) target)).raise (.pathDown p false)
  (if target = .down then s₁.handDownEntry p else s₁).portDeparture p

theorem State.leaveService_eq (s : State) (p : Port) (x : PortState) :
    s.leaveService p x = ((s.departed p x).cancelProbe p).latchIfLost := rfl

/-- A new record of a port that is in range whenever the old one is. -/
def RecordFits (s : State) (p : Port) (r : PortRecord) : Prop :=
  ParamLaws s → PortInRange (s.port p) → PortInRange r

/-- R85: the oldest entry, when it is RECOVERY, is of a port that awaits its probe. -/
def OldestAwaits (s : State) : Prop :=
  ∀ e rest, s.checker.queue = e :: rest → e.kind = .recovery → (s.port e.port).state = .awaitProbe

/-- A move of a port or of the checker, of which the events at the health monitor are made. `guarded` says that the
laws of the probes held before the event, `looping` that the event may take a port into LOOPBACK. -/
inductive Move (guarded looping : Prop) (s : State) : State → Prop where
  /-- the record of a port, in the state that it has -/
  | record {p : Port} {r : PortRecord} (state : r.state = (s.port p).state)
      (timer : r.failBack = (s.port p).failBack) (fits : RecordFits s p r) :
      Move guarded looping s (s.setPort p r)
  /-- a change of state out of service -/
  | change {p : Port} {r : PortRecord} (before : s.inService p = false)
      (after : r.state.inService = false)
      (loops : r.state.looped = true → looping ∨ (s.port p).state.looped = true)
      (timer : r.failBack = (s.port p).failBack) (fits : RecordFits s p r) :
      Move guarded looping s (s.setPort p r)
  | depart {p : Port} {x : PortState} (before : s.inService p = true) (after : x.inService = false)
      (counts : x ≠ .down → x.countsQuiet = false) (loops : x.looped = true → looping) :
      Move guarded looping s (s.departed p x)
  | enterSuspect {p : Port} (before : (s.port p).state = .up) :
      Move guarded looping s (s.enterSuspect p)
  /-- an entry into UP, with the quiet count that the tick has left -/
  | enterUp {p : Port} {q : Nat} (range : ParamLaws s → PortInRange (s.port p) → q ≤ 255) :
      Move guarded looping s ((s.setPort p { s.port p with q := q }).enterUp p)
  | checker {k : Checker} (fits : CheckerInRange s.checker → CheckerInRange k) :
      Move guarded looping s (s.setChecker k)
  | takeProbe (guard : guarded → OldestAwaits s) : Move guarded looping s s.takeProbe
  | latches : Move guarded looping s s.latchIfLost
  | handed (h : Handed) : Move guarded looping s (s.setHanded h)

/-- A sequence of moves. -/
def Moves (guarded looping : Prop) : State → State → Prop :=
  Relation.ReflTransGen (Move guarded looping)

end Sys2Proof.Machine
end

section
/-! The laws of the probes (R84, R85, R89): what they say of the entries, and that the shared operations of the
checker and of the health monitor keep them. -/

namespace Sys2Proof.Machine

/-- The laws of the probes less the one that an IDLE checker leaves no entry waiting: what holds before the checker
takes its next entry. -/
def ProbeCore (s : State) : Prop := PortsOnce s ∧ RecoveryLaw s ∧ DemandLaw s

theorem ProbeLaws.core {s : State} (laws : ProbeLaws s) : ProbeCore s :=
  ⟨laws.1, laws.2.1, laws.2.2.1⟩

theorem runsOn_iff (k : Checker) (p : Port) :
    k.runsOn p = true ↔ ∃ e, k.state.entry = some e ∧ e.port = p := by
  unfold Checker.runsOn
  cases k.state.entry <;> simp

/-- A port that the checker serves has no entry in the queue. -/
theorem PortsOnce.not_mem_queue {s : State} {p : Port} (once : PortsOnce s)
    (served : s.checker.runsOn p = true) : ∀ e ∈ s.checker.queue, e.port ≠ p := by
  obtain ⟨e', entry, rfl⟩ := (runsOn_iff _ _).mp served
  intro e queued same
  simp only [PortsOnce, probeEntries, entry, Option.toList_some, List.singleton_append,
    List.map_cons, List.nodup_cons, List.mem_map, not_exists, not_and] at once
  exact once.1 e queued same

theorem takesDemand_ne_awaitProbe {x : PortState} (h : x.takesDemand = true) : x ≠ .awaitProbe := by
  rintro rfl; cases h

theorem takesDemand_ne_probing {x : PortState} (h : x.takesDemand = true) : x ≠ .probing := by
  rintro rfl; cases h

theorem inService_takesDemand {x : PortState} (h : x.inService = true) : x.takesDemand = true := by
  cases x <;> first | rfl | cases h

namespace ProbeCore

variable {s t : State}

/-- A port that the checker serves awaits no probe. -/
theorem not_awaiting_of_runsOn {p : Port} (core : ProbeCore s)
    (served : s.checker.runsOn p = true) : (s.port p).state ≠ .awaitProbe := fun awaits =>
  core.1.not_mem_queue served _ ((core.2.1 p).1.mp awaits) rfl

/-- The oldest entry, when it is RECOVERY, awaits its probe. -/
theorem oldestAwaits (core : ProbeCore s) : OldestAwaits s := by
  rintro ⟨q, kind⟩ rest front rfl
  exact (core.2.1 q).1.mpr (by simp [front])

/-- A port that neither awaits a probe nor is probed, nor takes a DEMAND probe, has no entry. -/
theorem no_entry {p : Port} (core : ProbeCore s) (await : (s.port p).state ≠ .awaitProbe)
    (probing : (s.port p).state ≠ .probing) (demand : (s.port p).state.takesDemand = false) :
    ∀ e ∈ probeEntries s.checker, e.port ≠ p := by
  rintro ⟨q, kind⟩ member rfl
  obtain ⟨-, recovery, demands⟩ := core
  cases kind with
  | demand => rw [demands q member] at demand; cases demand
  | recovery =>
    rcases List.mem_append.mp member with entry | queued
    · exact probing ((recovery q).2.mpr (by simpa using entry))
    · exact await ((recovery q).1.mpr queued)

/-- The laws speak of the entries and of whether each port awaits a probe, is probed or takes a DEMAND probe. -/
theorem of_same (core : ProbeCore s)
    (await : ∀ q, (t.port q).state = .awaitProbe ↔ (s.port q).state = .awaitProbe)
    (probing : ∀ q, (t.port q).state = .probing ↔ (s.port q).state = .probing)
    (demand : ∀ q, (s.port q).state.takesDemand = true → (t.port q).state.takesDemand = true)
    (entry : t.checker.state.entry = s.checker.state.entry)
    (queue : t.checker.queue = s.checker.queue) : ProbeCore t := by
  obtain ⟨once, recovery, demands⟩ := core
  have entries : probeEntries t.checker = probeEntries s.checker := by
    rw [probeEntries, probeEntries, entry, queue]
  refine ⟨by rwa [PortsOnce, entries], fun q => ?_, fun q member => ?_⟩
  · rw [await, probing, entry, queue]; exact recovery q
  · exact demand q (demands q (by rwa [← entries]))

/-- A port whose entry is cancelled, and which then neither awaits a probe nor is probed, leaves the laws of the
other ports. -/
theorem without (core : ProbeCore s) {p : Port}
    (others : ∀ q, q ≠ p → (t.port q).state = (s.port q).state)
    (await : (t.port p).state ≠ .awaitProbe) (probing : (t.port p).state ≠ .probing)
    (entry : t.checker.state.entry = s.checker.state.entry.filter fun e => decide (e.port ≠ p))
    (queue : t.checker.queue = s.checker.queue.filter fun e => decide (e.port ≠ p)) :
    ProbeCore t := by
  obtain ⟨once, recovery, demands⟩ := core
  have entries : probeEntries t.checker =
      (probeEntries s.checker).filter fun e => decide (e.port ≠ p) := by
    rw [probeEntries, probeEntries, entry, queue, List.filter_append]
    congr 1
    cases s.checker.state.entry with
    | none => rfl
    | some e => by_cases h : e.port = p <;> simp [Option.filter, h]
  refine ⟨?_, fun q => ?_, fun q member => ?_⟩
  · rw [PortsOnce, entries]
    exact once.sublist (List.filter_sublist.map _)
  · by_cases hq : q = p
    · subst hq
      simp [await, probing, queue, entry, Option.filter_eq_some_iff]
    · rw [others q hq, queue, entry]
      simp only [List.mem_filter, Option.filter_eq_some_iff, hq, ne_eq, not_false_eq_true,
        decide_true, and_true]
      exact recovery q
  · rw [entries, List.mem_filter] at member
    obtain ⟨member, hq⟩ := member
    rw [others q (by simpa using hq)]
    exact demands q member

/-- An entry joins the queue, of a port that had none. -/
theorem joins (core : ProbeCore s) {e : ProbeEntry}
    (fresh : ∀ x ∈ probeEntries s.checker, x.port ≠ e.port)
    (others : ∀ q, q ≠ e.port → (t.port q).state = (s.port q).state)
    (recovers : e.kind = .recovery → (t.port e.port).state = .awaitProbe)
    (demanded : e.kind = .demand → (t.port e.port).state.takesDemand = true)
    (entry : t.checker.state.entry = s.checker.state.entry)
    (queue : t.checker.queue = s.checker.queue ++ [e]) : ProbeCore t := by
  obtain ⟨once, recovery, demands⟩ := core
  obtain ⟨p, kind⟩ := e
  have entries : probeEntries t.checker = probeEntries s.checker ++ [⟨p, kind⟩] := by
    rw [probeEntries, probeEntries, entry, queue, List.append_assoc]
  refine ⟨?_, fun q => ?_, fun q member => ?_⟩
  · rw [PortsOnce, entries, List.map_append, List.nodup_append]
    refine ⟨once, by simp, ?_⟩
    simpa using fresh
  · rw [queue, entry]
    by_cases hq : q = p
    · subst hq
      have unqueued : (⟨q, .recovery⟩ : ProbeEntry) ∉ s.checker.queue := fun h =>
        fresh _ (List.mem_append_right _ h) rfl
      have unserved : s.checker.state.entry ≠ some ⟨q, .recovery⟩ := fun h =>
        fresh ⟨q, .recovery⟩ (List.mem_append_left _ (by simp [h])) rfl
      cases kind with
      | recovery => simp [recovers rfl, unserved]
      | demand =>
        have takes := demanded rfl
        simp [takesDemand_ne_awaitProbe takes, takesDemand_ne_probing takes, unqueued, unserved]
    · rw [others q hq]
      simpa [hq] using recovery q
  · rw [entries, List.mem_append] at member
    rcases member with old | new
    · rw [others q (fresh _ old)]
      exact demands q old
    · obtain ⟨rfl, rfl⟩ : q = p ∧ ProbeKind.demand = kind := by simpa using new
      exact demanded rfl

/-- R85: once the checker has taken what it can, every law of the probes holds. -/
theorem takeProbe (core : ProbeCore s) : ProbeLaws s.takeProbe := by
  cases idle : s.checker.state with
  | seeding | counting =>
    rw [State.takeProbe_of_busy s (by simp [idle])]
    exact ⟨core.1, core.2.1, core.2.2, by simp [CheckerBusy, idle]⟩
  | idle =>
    cases queue : s.checker.queue with
    | nil =>
      rw [State.takeProbe_of_empty s queue]
      exact ⟨core.1, core.2.1, core.2.2, fun _ => queue⟩
    | cons e rest =>
      obtain ⟨once, recovery, demands⟩ := core
      obtain ⟨p, kind⟩ := e
      have nodup : (p :: rest.map ProbeEntry.port).Nodup := by
        simpa [PortsOnce, probeEntries, idle, CheckerState.entry, queue] using once
      have gone (kind : ProbeKind) : (⟨p, kind⟩ : ProbeEntry) ∉ rest := fun h =>
        (List.nodup_cons.mp nodup).1 (List.mem_map.mpr ⟨_, h, rfl⟩)
      simp only [RecoveryLaw, DemandLaw, probeEntries, idle, CheckerState.entry, queue,
        Option.toList_none, List.nil_append, List.mem_cons] at recovery demands
      rw [State.takeProbe_of_entry s idle queue]
      cases kind with
      | demand =>
        refine ⟨by simpa [PortsOnce, probeEntries, CheckerState.entry] using nodup, fun q => ?_,
          fun q member => ?_, by simp [CheckerBusy]⟩
        · simpa [CheckerState.entry, State.port] using recovery q
        · exact demands q (by simpa [probeEntries, CheckerState.entry] using member)
      | recovery =>
        refine ⟨by simpa [PortsOnce, probeEntries, CheckerState.entry] using nodup, fun q => ?_,
          fun q member => ?_, by simp [CheckerBusy]⟩
        · by_cases hq : q = p
          · subst hq
            simp [State.port, CheckerState.entry, gone]
          · have := recovery q
            have hv : ¬p.val = q.val := fun h => hq (Fin.ext h.symm)
            simp only [hq, ProbeEntry.mk.injEq, false_and, false_or, reduceCtorEq, iff_false] at this
            simpa [State.port, CheckerState.entry, Vector.getElem_set, hv, Ne.symm hq] using this
        · have other : q ≠ p := by
            rintro rfl
            simp [probeEntries, CheckerState.entry, gone] at member
          have hv : ¬p.val = q.val := fun h => other (Fin.ext h.symm)
          have := demands q (by simpa [probeEntries, CheckerState.entry] using member)
          simpa [State.port, Vector.getElem_set, hv] using this

/-- R89: a port that changes its state so that it neither awaits a probe nor is probed, its entry cancelled. -/
theorem cancelProbe (core : ProbeCore s) {p : Port}
    (others : ∀ q, q ≠ p → (t.port q).state = (s.port q).state)
    (await : (t.port p).state ≠ .awaitProbe) (probing : (t.port p).state ≠ .probing)
    (checker : t.checker = s.checker) :
    ProbeCore (t.cancelProbe p) ∧ (CheckerBusy s → CheckerBusy (t.cancelProbe p)) := by
  unfold State.cancelProbe
  rw [checker]
  split
  case isTrue served =>
    have laws : ProbeLaws (t.setChecker s.checker.toIdle).takeProbe := by
      refine (core.without (t := t.setChecker s.checker.toIdle) (p := p) others await probing
        ?_ ?_).takeProbe
      · obtain ⟨e, entry, rfl⟩ := (runsOn_iff _ _).mp served
        rw [entry]
        simp [State.setChecker, Checker.toIdle, CheckerState.entry, Option.filter]
      · refine (List.filter_eq_self.mpr fun e member => ?_).symm
        simpa using core.1.not_mem_queue served e member
    exact ⟨laws.core, fun _ => laws.2.2.2⟩
  case isFalse unserved =>
    constructor
    · refine core.without (p := p) others await probing ?_ rfl
      cases entry : s.checker.state.entry with
      | none => simp [State.setChecker, entry]
      | some e =>
        have other : e.port ≠ p := fun same => unserved ((runsOn_iff _ _).mpr ⟨e, entry, same⟩)
        simp [State.setChecker, entry, Option.filter, other]
    · intro busy idle
      have := busy idle
      simp [State.setChecker, this]

end ProbeCore

end Sys2Proof.Machine
end

section
/-! The events at the health monitor and at the checker keep the laws of the probes (chapters 4 and 5). -/

namespace Sys2Proof.Machine

/-- An operation that keeps the laws of the probes, and the one of the IDLE checker when that holds as well. -/
def ProbeKept (s t : State) : Prop :=
  ProbeCore s → ProbeCore t ∧ (CheckerBusy s → CheckerBusy t)

namespace ProbeKept

variable {s t u : State}

theorem laws (kept : ProbeKept s t) (h : ProbeLaws s) : ProbeLaws t := by
  obtain ⟨⟨once, recovery, demands⟩, busy⟩ := kept h.core
  exact ⟨once, recovery, demands, busy h.2.2.2⟩

theorem refl (s : State) : ProbeKept s s := fun core => ⟨core, id⟩

theorem trans (kept : ProbeKept s t) (kept' : ProbeKept t u) : ProbeKept s u := fun core => by
  obtain ⟨core, busy⟩ := kept core
  obtain ⟨core, busy'⟩ := kept' core
  exact ⟨core, busy' ∘ busy⟩

/-- The laws speak of whether each port awaits a probe, is probed or takes a DEMAND probe, and of the checker's
state and queue. -/
theorem of_states (await : ∀ q, (t.port q).state = .awaitProbe ↔ (s.port q).state = .awaitProbe)
    (probing : ∀ q, (t.port q).state = .probing ↔ (s.port q).state = .probing)
    (demand : ∀ q, (s.port q).state.takesDemand = true → (t.port q).state.takesDemand = true)
    (serves : t.checker.state = s.checker.state) (queue : t.checker.queue = s.checker.queue) :
    ProbeKept s t := fun core =>
  ⟨core.of_same await probing demand (by rw [serves]) queue,
    fun busy idle => by rw [queue]; exact busy (by rwa [← serves])⟩

theorem of_same (states : ∀ q, (t.port q).state = (s.port q).state)
    (serves : t.checker.state = s.checker.state) (queue : t.checker.queue = s.checker.queue) :
    ProbeKept s t :=
  of_states (fun q => by rw [states]) (fun q => by rw [states]) (fun q => by rw [states]; exact id)
    serves queue

/-- The state of one port changes between two that neither await a probe nor are probed, and no DEMAND probe is
lost. -/
theorem of_change {p : Port} (others : ∀ q, q ≠ p → (t.port q).state = (s.port q).state)
    (before : (s.port p).state ≠ .awaitProbe ∧ (s.port p).state ≠ .probing)
    (after : (t.port p).state ≠ .awaitProbe ∧ (t.port p).state ≠ .probing)
    (demand : (s.port p).state.takesDemand = true → (t.port p).state.takesDemand = true)
    (serves : t.checker.state = s.checker.state) (queue : t.checker.queue = s.checker.queue) :
    ProbeKept s t := by
  refine of_states (fun q => ?_) (fun q => ?_) (fun q => ?_) serves queue <;> by_cases hq : q = p
  · subst hq; simp [before, after]
  · rw [others q hq]
  · subst hq; simp [before, after]
  · rw [others q hq]
  · subst hq; exact demand
  · rw [others q hq]; exact id

end ProbeKept

namespace State

variable (s : State)

/-! ## What the operations do to the records of the ports -/

@[simp] theorem setChecker_port (k : Checker) (q : Port) : (s.setChecker k).port q = s.port q := rfl

@[simp] theorem setHanded_port (h : Handed) (q : Port) : (s.setHanded h).port q = s.port q := rfl

@[simp] theorem departed_port (p q : Port) (x : PortState) :
    (s.departed p x).port q = if q = p then departedRecord (s.port p) x else s.port q := by
  unfold departed
  dsimp only
  split <;> simp [port_setPort]

@[simp] theorem departed_checker (p : Port) (x : PortState) :
    (s.departed p x).checker = s.checker := by
  unfold departed
  dsimp only
  split <;> simp [portDeparture]

@[simp] theorem departedRecord_state (r : PortRecord) (x : PortState) :
    (departedRecord r x).state = x := by
  unfold departedRecord
  split <;> simp_all

theorem setPort_port_state_ne {p q : Port} (h : q ≠ p) (r : PortRecord) :
    ((s.setPort p r).port q).state = (s.port q).state := by rw [port_setPort_ne _ h]

/-- A record that keeps its state. -/
theorem setPort_port_state_of_same {p : Port} {r : PortRecord} (state : r.state = (s.port p).state)
    (q : Port) : ((s.setPort p r).port q).state = (s.port q).state := by
  rw [port_setPort]
  split_ifs with h
  · rw [state, h]
  · rfl

theorem setPort_probeKept {p : Port} {r : PortRecord} (state : r.state = (s.port p).state) :
    ProbeKept s (s.setPort p r) :=
  .of_same (s.setPort_port_state_of_same state) rfl rfl

theorem addScore_probeKept (p : Port) (w : Nat) : ProbeKept s (s.addScore p w) := by
  apply setPort_probeKept; rfl

theorem countEvent_probeKept (p : Port) (e : LineEvent) : ProbeKept s (s.countEvent p e) := by
  apply setPort_probeKept; rfl

theorem losEndHealth_probeKept (p : Port) : ProbeKept s (s.losEndHealth p) := by
  apply setPort_probeKept; rfl

/-- R64: the record of a port that LOS onset has reached, before its state follows. -/
def onsetRecord (r : PortRecord) : PortRecord :=
  { r with h := 4095, counts := r.counts.count .losOnset, losHold := true }

theorem onsetRecord_state (r : PortRecord) : (onsetRecord r).state = r.state := rfl

/-- R64: LOS onset at the record of a port. -/
def onsetAt (p : Port) : State := s.setPort p (onsetRecord (s.port p))

theorem onsetAt_probeKept (p : Port) : ProbeKept s (s.onsetAt p) :=
  s.setPort_probeKept (onsetRecord_state _)

/-! ## The changes of state (section 4.5) -/

/-- R72: a port leaves service. -/
theorem leaveService_probeKept (p : Port) {x : PortState} (await : x ≠ .awaitProbe)
    (probing : x ≠ .probing) : ProbeKept s (s.leaveService p x) := fun core => by
  have kept := core.cancelProbe (t := s.departed p x) (p := p) (fun q hq => by simp [hq])
    (by simpa using await) (by simpa using probing) (by simp)
  have same : ProbeKept ((s.departed p x).cancelProbe p) (s.leaveService p x) :=
    .of_same (fun q => by rw [leaveService_eq, latchIfLost_port])
      (by rw [leaveService_eq]; simp) (by rw [leaveService_eq]; simp)
  exact ⟨(same kept.1).1, fun busy => (same kept.1).2 (kept.2 busy)⟩

/-- A port changes its state so that it neither awaits a probe nor is probed, and its entry is cancelled. -/
theorem setPort_cancelProbe_probeKept (p : Port) {r : PortRecord} (await : r.state ≠ .awaitProbe)
    (probing : r.state ≠ .probing) : ProbeKept s ((s.setPort p r).cancelProbe p) := fun core =>
  core.cancelProbe (t := s.setPort p r) (p := p) (fun q hq => s.setPort_port_state_ne hq r)
    (by simpa using await) (by simpa using probing) rfl

theorem setback_probeKept (p : Port) : ProbeKept s (s.setback p) :=
  s.setPort_cancelProbe_probeKept p (by simp) (by simp)

theorem enterSuspect_probeKept {p : Port} (up : (s.port p).state = .up) :
    ProbeKept s (s.enterSuspect p) :=
  .of_change (p := p) (fun q hq => by simp [enterSuspect_port, hq]) (by simp [up])
    (by simp [enterSuspect_port]) (fun _ => by simp [enterSuspect_port, PortState.takesDemand])
    (by simp) (by simp)

theorem enterUp_probeKept {p : Port} (await : (s.port p).state ≠ .awaitProbe)
    (probing : (s.port p).state ≠ .probing) : ProbeKept s (s.enterUp p) :=
  .of_change (p := p) (fun q hq => by simp [enterUp_port, hq]) ⟨await, probing⟩
    (by simp [enterUp_port]) (fun _ => by simp [enterUp_port, PortState.takesDemand])
    (by simp) (by simp)

/-! ## Line events (R62 to R64) -/

theorem compareScore_probeKept (p : Port) : ProbeKept s (s.compareScore p) := by
  cases state : (s.port p).state with
  | up =>
    simp only [compareScore, state]
    split_ifs
    · exact s.leaveService_probeKept p (by simp) (by simp)
    · exact s.enterSuspect_probeKept state
    · exact .refl s
  | suspect =>
    simp only [compareScore, state]
    split_ifs
    · exact s.leaveService_probeKept p (by simp) (by simp)
    · exact .refl s
  | awaitProbe | probing =>
    simp only [compareScore, state]
    split_ifs
    · exact s.setback_probeKept p
    · exact .refl s
  | down | disabled | loopback =>
    simp only [compareScore, state]
    exact .refl s

theorem lineEvent_probeKept (p : Port) (e : LineEvent) : ProbeKept s (s.lineEvent p e) :=
  ((s.addScore_probeKept p _).trans (countEvent_probeKept _ p e)).trans (compareScore_probeKept _ p)

theorem losOnsetHealth_eq (p : Port) : s.losOnsetHealth p =
    match (s.port p).state with
    | .up | .suspect => (s.onsetAt p).leaveService p .down
    | .awaitProbe | .probing => (s.onsetAt p).setback p
    | .down | .disabled | .loopback _ _ => s.onsetAt p := rfl

theorem losOnsetHealth_probeKept (p : Port) : ProbeKept s (s.losOnsetHealth p) := by
  have first : ProbeKept s (s.onsetAt p) := s.onsetAt_probeKept p
  rw [losOnsetHealth_eq]
  split
  · exact first.trans (leaveService_probeKept _ p (by simp) (by simp))
  · exact first.trans (leaveService_probeKept _ p (by simp) (by simp))
  · exact first.trans (setback_probeKept _ p)
  · exact first.trans (setback_probeKept _ p)
  all_goals exact first

/-- R91, R92: a looped port that stays looped. -/
theorem setVerdict_probeKept {p : Port} {ready : Bool} {v : Verdict}
    (looped : (s.port p).state = .loopback ready v) (v' : Verdict) (q : Nat) :
    ProbeKept s (s.setVerdict p ready v' q) :=
  .of_change (p := p) (fun q' hq => s.setPort_port_state_ne hq _) (by simp [looped])
    (by simp [setVerdict]) (fun _ => by simp [setVerdict, PortState.takesDemand]) rfl rfl

theorem raise_probeKept (o : Occurrence) : ProbeKept s (s.raise o) := .of_same (fun _ => rfl) rfl rfl

theorem compareVerdict_probeKept {p : Port} {ready : Bool} {v : Verdict} (onset : Bool)
    (looped : (s.port p).state = .loopback ready v) :
    ProbeKept s (s.compareVerdict p ready v onset) := by
  unfold compareVerdict
  dsimp only
  cases v with
  | up =>
    dsimp only
    split_ifs
    · exact (s.setVerdict_probeKept looped _ _).trans (raise_probeKept _ _)
    · exact (s.setVerdict_probeKept looped _ _).trans (raise_probeKept _ _)
    · exact .refl s
  | suspect =>
    dsimp only
    split_ifs
    · exact (s.setVerdict_probeKept looped _ _).trans (raise_probeKept _ _)
    · exact .refl s
  | down => exact .refl s

/-- R92: what a line event does to a looped port. -/
theorem loopEvent_of_looped {p : Port} {ready : Bool} {v : Verdict}
    (looped : (s.port p).state = .loopback ready v) (e : LineEvent) :
    s.loopEvent p e =
      match e with
      | .losEnd => s.losEndHealth p
      | .losOnset => (s.onsetAt p).compareVerdict p ready v true
      | .fae | .ccf | .ferd =>
        ((s.addScore p (s.weight e)).countEvent p e).compareVerdict p ready v false := by
  cases e <;> simp [loopEvent, onsetAt, onsetRecord, looped]

theorem loopEvent_of_line {p : Port} (line : (s.port p).state.looped = false) (e : LineEvent) :
    s.loopEvent p e = s := by
  unfold loopEvent
  split
  · simp_all [PortState.looped]
  · rfl

theorem looped_iff {x : PortState} :
    x.looped = true ↔ ∃ ready v, x = .loopback ready v := by
  cases x <;> simp [PortState.looped]

theorem loopEvent_probeKept (p : Port) (e : LineEvent) : ProbeKept s (s.loopEvent p e) := by
  cases looped : (s.port p).state.looped with
  | false => rw [s.loopEvent_of_line looped]; exact .refl s
  | true =>
    obtain ⟨ready, v, state⟩ := looped_iff.mp looped
    rw [s.loopEvent_of_looped state]
    have scored : ProbeKept s
        (((s.addScore p (s.weight e)).countEvent p e).compareVerdict p ready v false) :=
      ((s.addScore_probeKept p _).trans (countEvent_probeKept _ p _)).trans
        (compareVerdict_probeKept _ false (by simp [countEvent, addScore, state]))
    cases e with
    | losEnd => exact s.losEndHealth_probeKept p
    | losOnset =>
      exact (s.onsetAt_probeKept p).trans (compareVerdict_probeKept _ true
        (by rw [onsetAt, port_setPort_self, onsetRecord_state, state]))
    | fae | ccf | ferd => exact scored

/-! ## Decay and recovery (R67, R69, R70, R93) -/

/-- R70: a port in DOWN, which has no entry, awaits its probe in the queue. -/
theorem awaiting_core {p : Port} {r : PortRecord} (down : (s.port p).state = .down)
    (awaits : r.state = .awaitProbe) (core : ProbeCore s) :
    ProbeCore ((s.setPort p r).setChecker
      { s.checker with queue := s.checker.queue ++ [⟨p, .recovery⟩] }) := by
  refine core.joins (e := ⟨p, .recovery⟩) (core.no_entry (by simp [down]) (by simp [down])
    (by simp [down, PortState.takesDemand])) (fun q hq => ?_) (fun _ => ?_) (fun h => by cases h)
    rfl rfl
  · exact s.setPort_port_state_ne hq _
  · simpa using awaits

theorem endQuiet_probeLaws {p : Port} (down : (s.port p).state = .down) (laws : ProbeLaws s) :
    ProbeLaws (s.endQuiet p) := by
  unfold endQuiet
  split
  · exact (s.awaiting_core down rfl laws.core).takeProbe
  · exact (s.enterUp_probeKept (by simp [down]) (by simp [down])).laws laws

theorem compareTick_probeLaws (p : Port) (laws : ProbeLaws s) : ProbeLaws (s.compareTick p) := by
  refine ProbeKept.laws (s := s) ?_ laws
  cases state : (s.port p).state with
  | up =>
    simp only [compareTick, state]
    split_ifs
    · exact s.leaveService_probeKept p (by simp) (by simp)
    · exact s.enterSuspect_probeKept state
    · exact .refl s
  | suspect =>
    simp only [compareTick, state]
    split_ifs
    · exact s.leaveService_probeKept p (by simp) (by simp)
    · exact s.enterUp_probeKept (by simp [state]) (by simp [state])
    · exact .refl s
  | down =>
    simp only [compareTick, state]
    have first : ProbeKept s (s.setPort p { s.port p with state := .down, q := s.nextQ p }) :=
      s.setPort_probeKept state.symm
    have laws' := first.laws laws
    split_ifs
    · have quiet := endQuiet_probeLaws (p := p) _ (by simp) laws'
      exact fun _ => ⟨quiet.core, fun _ => quiet.2.2.2⟩
    · exact first
  | awaitProbe | probing | disabled =>
    simp only [compareTick, state]
    exact .refl s
  | loopback ready v =>
    simp only [compareTick, state]
    have verdict (v' : Verdict) (n : Nat) (o : Occurrence) :
        ProbeKept s ((s.setVerdict p ready v' n).raise o) :=
      (s.setVerdict_probeKept state v' n).trans (raise_probeKept _ o)
    cases v <;> dsimp only <;> split_ifs <;>
      first
      | exact verdict _ _ _
      | exact .refl s
      | exact s.setVerdict_probeKept state _ _

theorem decayPort_probeLaws (p : Port) (laws : ProbeLaws s) : ProbeLaws (s.decayPort p) :=
  compareTick_probeLaws _ p <| ProbeKept.laws (by apply setPort_probeKept; rfl) laws

/-! ## The checker (R86 to R88) -/

@[simp] theorem addScore_port_state (p q : Port) (w : Nat) :
    ((s.addScore p w).port q).state = (s.port q).state := by
  apply setPort_port_state_of_same; rfl

/-- R87: the entry served leaves the checker, and its port neither awaits a probe nor is probed. -/
theorem toIdle_core {e : ProbeEntry} (entry : s.checker.state.entry = some e) (core : ProbeCore s)
    {t : State} (others : ∀ q, q ≠ e.port → (t.port q).state = (s.port q).state)
    (await : (t.port e.port).state ≠ .awaitProbe) (probing : (t.port e.port).state ≠ .probing)
    (checker : t.checker = s.checker.toIdle) : ProbeCore t := by
  refine core.without (p := e.port) others await probing ?_ ?_
  · rw [checker, entry]
    simp [Checker.toIdle, CheckerState.entry, Option.filter]
  · rw [checker]
    refine (List.filter_eq_self.mpr fun x member => ?_).symm
    simpa using core.1.not_mem_queue ((runsOn_iff _ _).mpr ⟨_, entry, rfl⟩) x member

/-- The state in which the health monitor finds a verdict (R87, R88). -/
def atVerdict (o : Occurrence) : State := (s.setChecker s.checker.toIdle).raise o

@[simp] theorem atVerdict_port (o : Occurrence) (p : Port) : (s.atVerdict o).port p = s.port p := rfl

@[simp] theorem atVerdict_checker (o : Occurrence) :
    (s.atVerdict o).checker = s.checker.toIdle := rfl

theorem finishProbe_eq (e : ProbeEntry) :
    s.finishProbe e =
      ((s.atVerdict (.probeResult e.port s.checker.errors
        (decide (s.checker.errors ≤ s.checker.limit)))).actOnVerdict e
          (decide (s.checker.errors ≤ s.checker.limit))).takeProbe := rfl

/-- Once a DEMAND entry has left the checker, the laws of the others stand. -/
theorem atVerdict_core {p : Port} (entry : s.checker.state.entry = some ⟨p, .demand⟩)
    (core : ProbeCore s) (o : Occurrence) : ProbeCore (s.atVerdict o) := by
  have takes : (s.port p).state.takesDemand = true :=
    core.2.2 p (List.mem_append_left _ (by simp [entry]))
  exact s.toIdle_core entry core (fun _ _ => rfl) (takesDemand_ne_awaitProbe takes)
    (takesDemand_ne_probing takes) rfl

/-- R71, R88: the laws stand once the health monitor has acted on a verdict. -/
theorem actOnVerdict_core {e : ProbeEntry} (entry : s.checker.state.entry = some e)
    (core : ProbeCore s) (o : Occurrence) (pass : Bool) :
    ProbeCore ((s.atVerdict o).actOnVerdict e pass) := by
  obtain ⟨p, kind⟩ := e
  cases kind with
  | recovery =>
    have probing : ((s.atVerdict o).port p).state = .probing := (core.2.1 p).2.mpr entry
    simp only [actOnVerdict, probing]
    split
    · exact s.toIdle_core entry core (fun q hq => by simp [enterUp_port, hq]) (by simp [enterUp_port])
        (by simp [enterUp_port]) (by simp)
    · exact s.toIdle_core entry core
        (fun q hq => by rw [setPort_port_state_ne _ hq, addScore_port_state, atVerdict_port])
        (by simp) (by simp) rfl
  | demand =>
    have before := s.atVerdict_core entry core o
    have failed := (addScore_probeKept _ p ((s.atVerdict o).param .probeFailWeight) before).1
    cases state : ((s.atVerdict o).port p).state with
    | up | suspect =>
      simp only [actOnVerdict, state]
      split
      · exact before
      · exact (compareScore_probeKept _ p failed).1
    | loopback =>
      simp only [actOnVerdict, state]
      split
      · exact before
      · exact failed
    | down | disabled | awaitProbe | probing =>
      simp only [actOnVerdict, state]
      exact before

/-- R87: the end of a probe keeps the laws. -/
theorem finishProbe_probeLaws {e : ProbeEntry} (entry : s.checker.state.entry = some e)
    (core : ProbeCore s) : ProbeLaws (s.finishProbe e) :=
  (s.actOnVerdict_core entry core _ _).takeProbe

/-- R87: the octet of a COUNTING checker: one more compared, or the end of the probe. -/
theorem countOctet_probeLaws {e : ProbeEntry} (counting : s.checker.state = .counting e)
    (laws : ProbeLaws s) : ProbeLaws (s.countOctet e) := by
  unfold countOctet
  dsimp only
  have kept : ProbeKept s
      (s.setChecker { s.checker.compare (s.returnedOctet e.port) with returned := none }) :=
    .of_same (fun _ => rfl) rfl rfl
  split
  · refine finishProbe_probeLaws _ ?_ (kept laws.core).1
    change s.checker.state.entry = some e
    rw [counting]
    rfl
  · exact kept.laws laws

/-- R86, R87: the octet of a frame period at the checker. -/
theorem stepChecker_probeLaws (laws : ProbeLaws s) : ProbeLaws s.stepChecker := by
  rcases Bool.eq_false_or_eq_true s.checker.started with started | waiting
  · cases state : s.checker.state with
    | idle =>
      rw [s.stepChecker_of_waiting (.inr state)]
      exact (ProbeKept.of_same (fun _ => rfl) rfl rfl).laws laws
    | counting e =>
      rw [s.stepChecker_of_counting started state]
      exact s.countOctet_probeLaws state laws
    | seeding e =>
      rw [s.stepChecker_of_seeding started state]
      have entry (o : Octet) : (s.checker.seed e o).state.entry = s.checker.state.entry := by
        unfold Checker.seed
        split <;> simp [state, CheckerState.entry]
      have queue (o : Octet) : (s.checker.seed e o).queue = s.checker.queue := by
        unfold Checker.seed
        split <;> rfl
      have busy (o : Octet) : (s.checker.seed e o).state ≠ .idle := by
        unfold Checker.seed
        split <;> simp [state]
      obtain ⟨once, recovery, demands⟩ := laws.core.of_same
        (t := s.setChecker
          { s.checker.seed e ((s.returnedOctet e.port).getD 0) with returned := none })
        (fun _ => Iff.rfl) (fun _ => Iff.rfl) (fun _ => id) (entry _) (queue _)
      exact ⟨once, recovery, demands, fun idle => absurd idle (busy _)⟩
  · rw [s.stepChecker_of_waiting (.inl waiting)]
    exact (ProbeKept.of_same (fun _ => rfl) rfl rfl).laws laws

/-- R90: a port without a standing joins the queue as DEMAND. -/
theorem demandProbe_probeLaws (p : Port) (laws : ProbeLaws s) : ProbeLaws (s.demandProbe p) := by
  unfold demandProbe
  split
  case isFalse => exact laws
  case isTrue h =>
    obtain ⟨takes, standing⟩ : (s.port p).state.takesDemand = true ∧ s.hasStanding p = false := by
      simpa using h
    have fresh : ∀ x ∈ probeEntries s.checker, x.port ≠ p := by
      rintro x member rfl
      have : s.hasStanding x.port = true := by
        rw [hasStanding_iff]
        rcases List.mem_append.mp member with entry | queued
        · exact .inl ((runsOn_iff _ _).mpr ⟨x, by simpa using entry, rfl⟩)
        · exact .inr ⟨x, queued, rfl⟩
      simp [standing] at this
    exact (laws.core.joins
      (t := s.setChecker { s.checker with queue := s.checker.queue ++ [⟨p, .demand⟩] })
      (e := ⟨p, .demand⟩) fresh (fun _ _ => rfl) (fun h => by cases h) (fun _ => takes)
      rfl rfl).takeProbe

/-! ## SET PORT (R79, R80) -/

theorem setPathRx_probeKept (p : Port) (r : PathRx) : ProbeKept s (s.setPathRx p r) :=
  .of_same (fun _ => rfl) rfl rfl

theorem returnToLine_probeKept (p : Port) : ProbeKept s (s.returnToLine p) :=
  s.setPathRx_probeKept p _

theorem endServing_probeKept (p : Port) : ProbeKept s (s.endServing p) :=
  .of_same (fun _ => rfl) rfl rfl

/-- R79: ENABLE. -/
theorem enablePort_probeKept {p : Port} (disabled : (s.port p).state = .disabled) :
    ProbeKept s (s.enablePort p) :=
  .of_change (p := p) (fun _ hq => s.setPort_port_state_ne hq _) (by simp [disabled])
    (by simp [enablePort]) (by simp [disabled, PortState.takesDemand]) rfl rfl

/-- R79: DISABLE. -/
theorem disablePort_probeKept (p : Port) : ProbeKept s (s.disablePort p) := by
  cases state : (s.port p).state with
  | up | suspect =>
    simp only [disablePort, state]
    exact s.leaveService_probeKept p (by simp) (by simp)
  | loopback =>
    simp only [disablePort, state]
    exact (s.setPort_cancelProbe_probeKept p (by simp) (by simp)).trans (returnToLine_probeKept _ p)
  | awaitProbe | probing =>
    simp only [disablePort, state]
    exact s.setPort_cancelProbe_probeKept p (by simp) (by simp)
  | down | disabled =>
    simp only [disablePort, state]
    exact .of_change (p := p) (fun _ hq => s.setPort_port_state_ne hq _) (by simp [state]) (by simp)
      (by simp [state, PortState.takesDemand]) rfl rfl

theorem loopPort_probeKept (p : Port) (ready : Bool) : ProbeKept s (s.loopPort p ready) := by
  unfold loopPort
  split
  · exact s.leaveService_probeKept p (by simp) (by simp)
  · exact s.leaveService_probeKept p (by simp) (by simp)
  · exact s.setPort_cancelProbe_probeKept p (by simp) (by simp)

theorem beginTest_probeKept (p : Port) : ProbeKept s (s.beginTest p) := by
  apply setPort_probeKept; rfl

/-- R80, R95: LOOPBACK OFF. -/
theorem loopbackOff_probeKept (p : Port) : ProbeKept s (s.loopbackOff p) :=
  (s.setPort_cancelProbe_probeKept p (by simp) (by simp)).trans (returnToLine_probeKept _ p)

/-- R80: LOOPBACK ON, once the records that have ended are taken. -/
theorem loopbackOn_probeKept (p : Port) (ready : Bool) :
    ProbeKept s ((((s.loopPort p ready).beginTest p).enterLoop p ready).endServing p) :=
  (((s.loopPort_probeKept p ready).trans (beginTest_probeKept _ p)).trans
    (setPathRx_probeKept _ p _)).trans (endServing_probeKept _ p)

end State

end Sys2Proof.Machine
end

section
/-! The events at the health monitor and at the checker as sequences of moves (chapters 4 and 5). -/

namespace Sys2Proof.Machine

/-! ## Sequences of moves -/

namespace State

variable (s : State)

/-- R85: an entry that is taken takes a RECOVERY port into PROBING and changes nothing else of any port. -/
theorem takeProbe_port (p : Port) :
    s.takeProbe.port p = s.port p ∨ s.takeProbe.port p = { s.port p with state := .probing } := by
  cases idle : s.checker.state with
  | seeding e | counting e => simp [takeProbe_of_busy s (by simp [idle])]
  | idle =>
    cases queue : s.checker.queue with
    | nil => simp [takeProbe_of_empty s queue]
    | cons e rest =>
      rw [takeProbe_of_entry s idle queue]
      cases kind : e.kind with
      | demand => left; simp [port]
      | recovery =>
        by_cases hp : p = e.port
        · right; subst hp; simp [port]
        · left; simp [port, Ne.symm (Fin.val_ne_of_ne hp)]

end State

/-- No move but one that may loop takes a port into LOOPBACK. -/
theorem Move.looped {guarded : Prop} {s t : State} (m : Move guarded False s t) {p : Port}
    (line : (s.port p).state.looped = false) : (t.port p).state.looped = false := by
  cases m with
  | @record q r state _ _ => rw [s.setPort_port_state_of_same state]; exact line
  | @change q r _ _ loops _ _ =>
    by_cases h : p = q
    · subst h
      rw [State.port_setPort_self, Bool.eq_false_iff]
      exact fun looped => by simp_all
    · rwa [State.port_setPort_ne _ h]
  | @depart q x _ _ _ loops =>
    rw [State.departed_port]
    split_ifs
    · rw [State.departedRecord_state, Bool.eq_false_iff]
      exact loops
    · exact line
  | @enterSuspect q _ =>
    rw [State.enterSuspect_port]
    split_ifs
    · rfl
    · exact line
  | @enterUp q n _ =>
    rw [State.enterUp_port]
    by_cases h : p = q
    · rw [if_pos h]; rfl
    · rwa [if_neg h, State.port_setPort_ne _ h]
  | checker | handed => exact line
  | takeProbe _ =>
    rcases s.takeProbe_port p with same | probing
    · rwa [same]
    · rw [probing]; rfl
  | latches => rwa [State.latchIfLost_port]

namespace Moves

variable {guarded looping : Prop} {s t u : State}

theorem refl (s : State) : Moves guarded looping s s := Relation.ReflTransGen.refl

theorem one (m : Move guarded looping s t) : Moves guarded looping s t :=
  Relation.ReflTransGen.single m

theorem trans (m : Moves guarded looping s t) (m' : Moves guarded looping t u) :
    Moves guarded looping s u := Relation.ReflTransGen.trans m m'

theorem next (m : Moves guarded looping s t) (m' : Move guarded looping t u) :
    Moves guarded looping s u := Relation.ReflTransGen.tail m m'

/-- A law that each move keeps is kept by a sequence of them. -/
theorem keep {P : State → Prop} (kept : ∀ {s t}, Move guarded looping s t → P s → P t)
    (m : Moves guarded looping s t) (hp : P s) : P t := by
  induction m with
  | refl => exact hp
  | tail _ m ih => exact kept m ih

theorem looped (m : Moves guarded False s t) {p : Port}
    (line : (s.port p).state.looped = false) : (t.port p).state.looped = false :=
  m.keep (fun m h => m.looped h) line

end Moves

/-! ## Records in range -/

theorem Counts.count_inRange (n : Counts) (e : LineEvent)
    (h : n.fae ≤ 65535 ∧ n.ccf ≤ 65535 ∧ n.ferd ≤ 65535 ∧ n.los ≤ 65535 ∧ n.down ≤ 65535 ∧
      n.overrun ≤ 65535) :
    (n.count e).fae ≤ 65535 ∧ (n.count e).ccf ≤ 65535 ∧ (n.count e).ferd ≤ 65535 ∧
    (n.count e).los ≤ 65535 ∧ (n.count e).down ≤ 65535 ∧ (n.count e).overrun ≤ 65535 := by
  cases e <;> simp [Counts.count, h, bump16_le]

namespace PortInRange

variable {r : PortRecord}

/-- A score within its range, in a record that is in range. -/
theorem score (fits : PortInRange r) {h : Nat} (le : h ≤ 4095) : PortInRange { r with h := h } :=
  ⟨le, fits.2⟩

theorem count (fits : PortInRange r) (e : LineEvent) :
    PortInRange { r with counts := r.counts.count e } := by
  obtain ⟨h, q, quiet, fae, ccf, ferd, los, down, overrun, rest⟩ := fits
  obtain ⟨c₁, c₂, c₃, c₄, c₅, c₆⟩ := r.counts.count_inRange e ⟨fae, ccf, ferd, los, down, overrun⟩
  exact ⟨h, q, quiet, c₁, c₂, c₃, c₄, c₅, c₆, rest⟩

theorem onset (fits : PortInRange r) : PortInRange (State.onsetRecord r) :=
  ⟨le_refl _, (fits.count .losOnset).2⟩

theorem hold (fits : PortInRange r) (b : Bool) : PortInRange { r with losHold := b } := fits

/-- A state that counts no quiet ticks, or a quiet count that starts afresh. -/
theorem move (fits : PortInRange r) {x : PortState} {q : Nat} (range : q ≤ 255)
    (quiet : x.countsQuiet = true → q < 255) : PortInRange { r with state := x, q := q } := by
  obtain ⟨h, -, -, rest⟩ := fits
  exact ⟨h, range, quiet, rest⟩

end PortInRange

namespace State

variable {guarded looping : Prop} (s : State)

/-! ## Scores and counts -/

theorem addScore_moves (p : Port) (w : Nat) : Moves guarded looping s (s.addScore p w) :=
  .one (.record rfl rfl fun _ fits => fits.score (satAdd_le _ _ _))

theorem countEvent_moves (p : Port) (e : LineEvent) : Moves guarded looping s (s.countEvent p e) :=
  .one (.record rfl rfl fun _ fits => fits.count e)

theorem onsetAt_moves (p : Port) : Moves guarded looping s (s.onsetAt p) :=
  .one (.record (onsetRecord_state _) rfl fun _ fits => fits.onset)

theorem losEndHealth_moves (p : Port) : Moves guarded looping s (s.losEndHealth p) :=
  .one (.record rfl rfl fun _ fits => fits.hold false)

theorem raise_moves (o : Occurrence) : Moves guarded looping s (s.raise o) := .one (.handed _)

/-- A record whose ranges do not follow from the score, counts and hold. -/
theorem clearCounts_moves (p : Port) : Moves guarded looping s (s.clearCounts p) := by
  refine .one (.record rfl rfl fun _ fits => ?_)
  obtain ⟨h, q, quiet, -, -, -, -, -, -, rest⟩ := fits
  exact ⟨h, q, quiet, by simp, by simp, by simp, by simp, by simp, by simp, rest⟩

theorem inService_of_state {p : Port} {x : PortState} (h : (s.port p).state = x) :
    s.inService p = x.inService := by rw [inService, h]

/-! ## The probe entries of a port (R89) -/

theorem toIdle_inRange {k : Checker} (fits : CheckerInRange k) : CheckerInRange k.toIdle := by
  obtain ⟨length, top, limit, -, -, -⟩ := fits
  exact ⟨length, top, limit, by simp [Checker.toIdle], by simp [Checker.toIdle]; omega,
    by simp [Checker.toIdle]⟩

theorem cancelProbe_moves {p : Port}
    (guard : guarded → s.checker.runsOn p = true → OldestAwaits s) :
    Moves guarded looping s (s.cancelProbe p) := by
  unfold cancelProbe
  split
  · exact (Moves.one (.checker toIdle_inRange)).next (.takeProbe fun g => guard g ‹_›)
  · exact .one (.checker fun fits => fits)

/-- The oldest entry still awaits its probe once a port that the checker serves has changed. -/
theorem oldestAwaits_of_changed {s t : State} {p : Port} (core : ProbeCore s)
    (served : s.checker.runsOn p = true)
    (others : ∀ q, q ≠ p → (t.port q).state = (s.port q).state)
    (queue : t.checker.queue = s.checker.queue) : OldestAwaits t := by
  intro e rest front recovery
  have other : e.port ≠ p :=
    core.1.not_mem_queue served e (by rw [← queue, front]; exact List.mem_cons_self)
  rw [others _ other]
  exact core.oldestAwaits e rest (by rw [← queue, front]) recovery

/-- R72: a port leaves service. -/
theorem leaveService_moves {p : Port} {x : PortState} (core : guarded → ProbeCore s)
    (before : s.inService p = true) (after : x.inService = false)
    (counts : x ≠ .down → x.countsQuiet = false) (loops : x.looped = true → looping) :
    Moves guarded looping s (s.leaveService p x) :=
  Moves.next (Moves.trans (.one (.depart before after counts loops))
    (cancelProbe_moves _ fun g served =>
      oldestAwaits_of_changed (p := p) (core g) (by rwa [departed_checker] at served)
        (fun q hq => by simp [hq]) (by simp))) .latches

/-- R63, R64, R80: a port that is out of service changes its state, and its entry is cancelled. -/
theorem setPort_cancelProbe_moves {p : Port} {r : PortRecord} (core : guarded → ProbeCore s)
    (before : s.inService p = false) (after : r.state.inService = false)
    (loops : r.state.looped = true → looping ∨ (s.port p).state.looped = true)
    (timer : r.failBack = (s.port p).failBack) (fits : RecordFits s p r) :
    Moves guarded looping s ((s.setPort p r).cancelProbe p) :=
  (Moves.one (.change before after loops timer fits)).trans <|
    cancelProbe_moves _ fun g served =>
      oldestAwaits_of_changed (p := p) (core g) served (fun _ hq => s.setPort_port_state_ne hq r) rfl

theorem setback_moves {p : Port} (core : guarded → ProbeCore s) (before : s.inService p = false) :
    Moves guarded looping s (s.setback p) :=
  s.setPort_cancelProbe_moves core before rfl (fun h => by cases h) rfl
    fun _ fits => fits.move (by simp) (by simp)

/-! ## Line events (R62 to R64) -/

/-- R72: a port in service enters DOWN. -/
theorem leaveService_down_moves {p : Port} (core : guarded → ProbeCore s)
    (before : s.inService p = true) : Moves guarded looping s (s.leaveService p .down) :=
  s.leaveService_moves core before rfl (fun h => absurd rfl h) (fun h => by cases h)

theorem compareScore_moves (p : Port) (core : guarded → ProbeCore s) :
    Moves guarded looping s (s.compareScore p) := by
  cases state : (s.port p).state with
  | up =>
    simp only [compareScore, state]
    split_ifs
    · exact s.leaveService_down_moves core (s.inService_of_state state)
    · exact .one (.enterSuspect state)
    · exact .refl s
  | suspect =>
    simp only [compareScore, state]
    split_ifs
    · exact s.leaveService_down_moves core (s.inService_of_state state)
    · exact .refl s
  | awaitProbe | probing =>
    simp only [compareScore, state]
    split_ifs
    · exact s.setback_moves core (s.inService_of_state state)
    · exact .refl s
  | down | disabled | loopback =>
    simp only [compareScore, state]
    exact .refl s

theorem lineEvent_moves (p : Port) (e : LineEvent) (core : guarded → ProbeCore s) :
    Moves guarded looping s (s.lineEvent p e) :=
  ((s.addScore_moves p _).trans (countEvent_moves _ p e)).trans <|
    compareScore_moves _ p fun g =>
      ((s.addScore_probeKept p _).trans (countEvent_probeKept _ p e) (core g)).1

theorem losOnsetHealth_moves (p : Port) (core : guarded → ProbeCore s) :
    Moves guarded looping s (s.losOnsetHealth p) := by
  have first : Moves guarded looping s (s.onsetAt p) := s.onsetAt_moves p
  have core' (g : guarded) : ProbeCore (s.onsetAt p) := (s.onsetAt_probeKept p (core g)).1
  have service : (s.onsetAt p).inService p = (s.port p).state.inService := by
    rw [inService, onsetAt, port_setPort_self, onsetRecord_state]
  rw [losOnsetHealth_eq]
  cases state : (s.port p).state with
  | up | suspect =>
    exact first.trans (leaveService_down_moves _ core' (by rw [service, state]; rfl))
  | awaitProbe | probing =>
    exact first.trans (setback_moves _ core' (by rw [service, state]; rfl))
  | down | disabled | loopback => exact first

/-! ## The looped port (R92) -/

/-- R91, R92: the verdict of a looped port is written. -/
theorem setVerdict_moves {p : Port} {ready : Bool} {v v' : Verdict} {q : Nat}
    (looped : (s.port p).state = .loopback ready v)
    (range : ParamLaws s → PortInRange (s.port p) → q ≤ 255 ∧ (v' = .down → q < 255)) :
    Moves guarded looping s (s.setVerdict p ready v' q) := by
  refine .one (.change (s.inService_of_state looped) rfl (fun _ => .inr (by rw [looped]; rfl)) rfl
    fun params fits => fits.move (range params fits).1 fun quiet => (range params fits).2 ?_)
  cases v' <;> first | rfl | cases quiet

theorem compareVerdict_moves {p : Port} {ready : Bool} {v : Verdict} (onset : Bool)
    (looped : (s.port p).state = .loopback ready v) :
    Moves guarded looping s (s.compareVerdict p ready v onset) := by
  have down (o : Occurrence) :
      Moves guarded looping s ((s.setVerdict p ready .down 0).raise o) :=
    (s.setVerdict_moves looped (by simp)).trans (raise_moves _ o)
  have suspect (o : Occurrence) :
      Moves guarded looping s ((s.setVerdict p ready .suspect (s.port p).q).raise o) :=
    (s.setVerdict_moves looped fun _ fits => ⟨fits.2.1, by simp⟩).trans (raise_moves _ o)
  cases v with
  | up =>
    simp only [compareVerdict]
    split_ifs
    · exact down _
    · exact suspect _
    · exact .refl s
  | suspect =>
    simp only [compareVerdict]
    split_ifs
    · exact down _
    · exact .refl s
  | down => exact .refl s

theorem loopEvent_moves (p : Port) (e : LineEvent) :
    Moves guarded looping s (s.loopEvent p e) := by
  cases looped : (s.port p).state.looped with
  | false => rw [s.loopEvent_of_line looped]; exact .refl s
  | true =>
    obtain ⟨ready, v, state⟩ := looped_iff.mp looped
    rw [s.loopEvent_of_looped state]
    have scored : Moves guarded looping s
        (((s.addScore p (s.weight e)).countEvent p e).compareVerdict p ready v false) :=
      ((s.addScore_moves p _).trans (countEvent_moves _ p _)).trans
        (compareVerdict_moves _ false (by simp [countEvent, addScore, state]))
    cases e with
    | losEnd => exact s.losEndHealth_moves p
    | losOnset =>
      exact (s.onsetAt_moves p).trans (compareVerdict_moves _ true
        (by rw [onsetAt, port_setPort_self, onsetRecord_state, state]))
    | fae | ccf | ferd => exact scored

/-! ## Decay and recovery (R66, R67, R69, R70) -/

@[simp] theorem setPort_setPort (p : Port) (r r' : PortRecord) :
    (s.setPort p r).setPort p r' = s.setPort p r' := by
  simp [setPort]

@[simp] theorem setPort_self (p : Port) : s.setPort p (s.port p) = s := by
  simp [setPort, port]

/-- R70: a quiet count that does not complete the quiet ticks stays below the greatest there are. -/
theorem nextQ_lt {p : Port} (params : ParamLaws s) (more : s.recovers p = false) :
    s.nextQ p < 255 := by
  have top : s.param .recoverTicks ≤ 255 := (params.1 .recoverTicks).2
  unfold nextQ
  split
  · simp only [recovers, ‹s.quiet p = true›, Bool.true_and, decide_eq_false_iff_not] at more
    omega
  · simp

theorem nextQ_le {p : Port} (fits : PortInRange (s.port p))
    (counts : (s.port p).state.countsQuiet = true) : s.nextQ p ≤ 255 := by
  have below := fits.2.2.1 counts
  unfold nextQ
  split <;> omega

theorem param_setPort (p : Port) (r : PortRecord) (x : Param) :
    (s.setPort p r).param x = s.param x := rfl

theorem joinProbeQueue_moves {e : ProbeEntry}
    (guard : guarded →
      OldestAwaits (s.setChecker { s.checker with queue := s.checker.queue ++ [e] })) :
    Moves guarded looping s (s.joinProbeQueue e) :=
  Moves.next (.one (.checker (k := { s.checker with queue := s.checker.queue ++ [e] })
    fun fits => fits)) (.takeProbe guard)

/-- R70: the quiet count of a DOWN port, or what the port does once it is complete. -/
theorem quietTick_moves {p : Port} (core : guarded → ProbeCore s) (down : (s.port p).state = .down) :
    Moves guarded looping s
      (if s.recovers p then (s.setPort p { s.port p with q := s.nextQ p }).endQuiet p
        else s.setPort p { s.port p with q := s.nextQ p }) := by
  have counts : (s.port p).state.countsQuiet = true := by rw [down]; rfl
  split
  case isTrue =>
    unfold endQuiet
    split
    case isFalse => exact .one (.enterUp fun _ fits => s.nextQ_le fits counts)
    case isTrue =>
      rw [port_setPort_self, setPort_setPort]
      refine Moves.trans (.one (.change
        (r := { s.port p with state := .awaitProbe, q := s.nextQ p })
        (s.inService_of_state down) rfl (fun h => by cases h) rfl
          fun _ fits => fits.move (s.nextQ_le fits counts) nofun))
        (joinProbeQueue_moves _ fun g =>
          (s.awaiting_core down rfl (core g)).oldestAwaits)
  case isFalse more =>
    exact .one (.record rfl rfl fun params fits =>
      have lt := s.nextQ_lt params (by simpa using more)
      fits.move (x := (s.port p).state) (by omega) fun _ => lt)

theorem compareTick_of_down {p : Port} (down : (s.port p).state = .down) :
    s.compareTick p =
      if s.recovers p then (s.setPort p { s.port p with q := s.nextQ p }).endQuiet p
      else s.setPort p { s.port p with q := s.nextQ p } := by
  simp [compareTick, down]

theorem compareTick_moves (p : Port) (core : guarded → ProbeCore s) :
    Moves guarded looping s (s.compareTick p) := by
  cases state : (s.port p).state with
  | up =>
    simp only [compareTick, state]
    split_ifs
    · exact s.leaveService_down_moves core (s.inService_of_state state)
    · exact .one (.enterSuspect state)
    · exact .refl s
  | suspect =>
    have up : Moves guarded looping s (s.enterUp p) := by
      have := Moves.one (guarded := guarded) (looping := looping)
        (Move.enterUp (s := s) (p := p) (q := (s.port p).q) fun _ fits => fits.2.1)
      rwa [setPort_self] at this
    simp only [compareTick, state]
    split_ifs
    · exact s.leaveService_down_moves core (s.inService_of_state state)
    · exact up
    · exact .refl s
  | down =>
    rw [s.compareTick_of_down state]
    exact s.quietTick_moves core state
  | awaitProbe | probing | disabled =>
    simp only [compareTick, state]
    exact .refl s
  | loopback ready v =>
    have kept (v' : Verdict) (other : v' ≠ .down) (o : Occurrence) :
        Moves guarded looping s ((s.setVerdict p ready v' (s.port p).q).raise o) :=
      (s.setVerdict_moves state fun _ fits => ⟨fits.2.1, fun h => absurd h other⟩).trans
        (raise_moves _ o)
    have fallen : Moves guarded looping s
        ((s.setVerdict p ready .down 0).raise (.pathDown p true)) :=
      (s.setVerdict_moves state (by simp)).trans (raise_moves _ _)
    cases v with
    | up =>
      simp only [compareTick, state]
      split_ifs
      · exact fallen
      · exact kept _ (by simp) _
      · exact .refl s
    | suspect =>
      simp only [compareTick, state]
      split_ifs
      · exact fallen
      · exact kept _ (by simp) _
      · exact .refl s
    | down =>
      simp only [compareTick, state]
      split_ifs with h
      · exact (s.setVerdict_moves state fun _ fits =>
          ⟨s.nextQ_le fits (by rw [state]; rfl), by simp⟩).trans (raise_moves _ _)
      · exact s.setVerdict_moves state fun params _ =>
          have lt := s.nextQ_lt params (by simpa using h)
          ⟨by omega, fun _ => lt⟩

theorem decayPort_moves (p : Port) (core : guarded → ProbeCore s) :
    Moves guarded looping s (s.decayPort p) := by
  have first : Moves guarded looping s
      (s.setPort p { s.port p with h := decayed (s.port p).h (s.param .decayFactor) }) :=
    .one (.record rfl rfl fun _ fits => fits.score (le_trans (Nat.sub_le _ _) fits.1))
  have kept : ProbeKept s
      (s.setPort p { s.port p with h := decayed (s.port p).h (s.param .decayFactor) }) := by
    apply setPort_probeKept; rfl
  exact first.trans (compareTick_moves _ p fun g => (kept (core g)).1)

/-! ## The checker (R86 to R88) -/

/-- R71, R88: what the health monitor does with a verdict. -/
theorem actOnVerdict_moves (e : ProbeEntry) (pass : Bool)
    (core : guarded → e.kind = .demand → ProbeCore s) :
    Moves guarded looping s (s.actOnVerdict e pass) := by
  obtain ⟨p, kind⟩ := e
  have failed : Moves guarded looping s (s.addScore p (s.param .probeFailWeight)) :=
    s.addScore_moves p _
  unfold actOnVerdict
  dsimp only
  have compared (demand : kind = .demand) : Moves guarded looping s
      ((s.addScore p (s.param .probeFailWeight)).compareScore p) :=
    failed.trans (compareScore_moves _ p fun g => (s.addScore_probeKept p _ (core g demand)).1)
  split
  case h_1 probing =>
    split
    · have := Moves.one (guarded := guarded) (looping := looping)
        (Move.enterUp (s := s) (p := p) (q := (s.port p).q) fun _ fits => fits.2.1)
      rwa [setPort_self] at this
    · refine failed.next (.change ?_ rfl (fun h => by cases h) rfl
        fun _ fits => fits.move (by simp) (by simp))
      rw [inService, addScore_port_state, probing]
      rfl
  case h_2 | h_3 =>
    split
    · exact .refl s
    · exact compared rfl
  case h_4 =>
    split
    · exact .refl s
    · exact failed
  case h_5 => exact .refl s

/-- R87: the end of a probe, from the checker's record that the last octet has left. -/
theorem finishProbe_moves {e : ProbeEntry} {k : Checker}
    (fits : CheckerInRange s.checker → CheckerInRange k.toIdle) (entry : k.state.entry = some e)
    (core : guarded → ProbeCore (s.setChecker k)) :
    Moves guarded looping s ((s.setChecker k).finishProbe e) := by
  rw [finishProbe_eq]
  generalize Occurrence.probeResult e.port (s.setChecker k).checker.errors _ = o
  have verdict : Moves guarded looping s ((s.setChecker k).atVerdict o) :=
    Moves.next (.one (.checker fits)) (.handed _)
  refine Moves.next (verdict.trans (actOnVerdict_moves _ e _ fun g demand => ?_))
    (.takeProbe fun g => ((s.setChecker k).actOnVerdict_core entry (core g) o _).oldestAwaits)
  obtain ⟨p, kind⟩ := e
  obtain rfl : kind = .demand := demand
  exact (s.setChecker k).atVerdict_core entry (core g) o

/-- R87: the octet of a COUNTING checker. -/
theorem countOctet_moves {e : ProbeEntry} (counting : s.checker.state = .counting e)
    (core : guarded → ProbeCore s) : Moves guarded looping s (s.countOctet e) := by
  unfold countOctet
  dsimp only
  generalize hk : ({ s.checker.compare (s.returnedOctet e.port) with returned := none } : Checker) = k
  have state : k.state = .counting e := by rw [← hk]; exact counting
  have errors : k.errors ≤ 65535 := by rw [← hk]; exact satAdd_le _ _ _
  have kept : k.length = s.checker.length ∧ k.limit = s.checker.limit ∧
      k.seeds = s.checker.seeds ∧ k.queue = s.checker.queue := by
    rw [← hk]; exact ⟨rfl, rfl, rfl, rfl⟩
  obtain ⟨length, limit, seeds, queue⟩ := kept
  split
  · refine s.finishProbe_moves (fun fits => ?_) (by rw [state]; rfl) fun g =>
      (ProbeKept.of_same (s := s) (t := s.setChecker k) (fun _ => rfl) (by rw [counting]; exact state)
        queue (core g)).1
    obtain ⟨low, high, top, -, -, -⟩ := fits
    exact ⟨by simpa [Checker.toIdle, length] using low, by simpa [Checker.toIdle, length] using high,
      by simpa [Checker.toIdle, limit] using top, by simp [Checker.toIdle],
      by simp [Checker.toIdle, length]; omega, by simp [Checker.toIdle]⟩
  case isFalse more =>
    refine .one (.checker fun fits => ?_)
    obtain ⟨low, high, top, -, -, few⟩ := fits
    refine ⟨by rwa [length], by rwa [length], by rwa [limit], errors, ?_, by rwa [seeds]⟩
    simpa [Checker.complete, state] using more

/-- R86, R87: the octet of a frame period at the checker. -/
theorem stepChecker_moves (core : guarded → ProbeCore s) :
    Moves guarded looping s s.stepChecker := by
  rcases Bool.eq_false_or_eq_true s.checker.started with started | waiting
  · cases state : s.checker.state with
    | idle =>
      rw [s.stepChecker_of_waiting (.inr state)]
      exact .one (.checker fun fits => fits)
    | counting e =>
      rw [s.stepChecker_of_counting started state]
      exact s.countOctet_moves state core
    | seeding e =>
      rw [s.stepChecker_of_seeding started state]
      refine .one (.checker fun fits => ?_)
      obtain ⟨low, high, top, errors, compared, -⟩ := fits
      unfold Checker.seed
      split
      · exact ⟨low, high, top, errors, compared, by simp⟩
      · exact ⟨low, high, top, errors, compared, by simp⟩
  · rw [s.stepChecker_of_waiting (.inl waiting)]
    exact .one (.checker fun fits => fits)

/-- R90: a request for a DEMAND probe. -/
theorem demandProbe_moves (p : Port) (core : guarded → ProbeCore s) :
    Moves guarded looping s (s.demandProbe p) := by
  unfold demandProbe
  split
  · refine s.joinProbeQueue_moves fun g e rest front recovery => ?_
    cases queue : s.checker.queue with
    | nil =>
      obtain rfl : ⟨p, .demand⟩ = e := by
        simp [queue] at front
        exact front.1
      cases recovery
    | cons e' rest' =>
      obtain rfl : e' = e := by
        simp [queue] at front
        exact front.1
      exact (core g).oldestAwaits e' rest' queue recovery
  · exact .refl s

/-! ## SET PORT (R79, R80) -/

theorem enablePort_moves {p : Port} (disabled : (s.port p).state = .disabled) :
    Moves guarded looping s (s.enablePort p) :=
  .one (.change (s.inService_of_state disabled) rfl (fun h => by cases h) rfl
    fun _ fits => fits.move (by simp) (by simp))

/-- R80: the change of state that takes a port into LOOPBACK, and the beginning of its test. -/
theorem loopPort_moves (p : Port) (ready : Bool) (core : guarded → ProbeCore s) :
    Moves guarded True s (s.loopPort p ready) := by
  have depart (before : s.inService p = true) :
      Moves guarded True s (s.leaveService p (.loopback ready .up)) :=
    s.leaveService_moves core before rfl (fun _ => rfl) (fun _ => trivial)
  have looped (before : s.inService p = false) : Moves guarded True s
      ((s.setPort p { s.port p with state := .loopback ready .up }).cancelProbe p) :=
    s.setPort_cancelProbe_moves core before rfl (fun _ => .inl trivial) rfl
      fun _ fits => fits.move (q := (s.port p).q) fits.2.1 nofun
  cases state : (s.port p).state with
  | up | suspect =>
    simp only [loopPort, state]
    exact depart (s.inService_of_state state)
  | down | disabled | awaitProbe | probing | loopback =>
    simp only [loopPort, state]
    exact looped (s.inService_of_state state)

theorem beginTest_moves (p : Port) : Moves guarded looping s (s.beginTest p) := by
  refine .one (.record rfl rfl fun _ fits => ?_)
  obtain ⟨-, -, -, rest⟩ := fits
  exact ⟨by simp, by simp, by simp, rest⟩

end State

end Sys2Proof.Machine
end

section
/-! What a step can do, said once: every command is a sequence of events of the card, each of them a shared operation
of the model with what is known where the model calls it, and a law that each event keeps is kept by every step. -/

namespace Sys2Proof.Machine

/-! ## The events of the card -/

/-- The fields of a port's receiver in their ranges (section 3.2). -/
def PathRx.InRange (r : PathRx) : Prop :=
  FramerInRange r.framer 33 ∧ r.formRun ≤ 3 ∧ (r.framer.state ≠ .aligned → r.formRun = 0)

/-- An event of the card: a shared operation, with what is known where the model calls it. -/
inductive Event (s : State) : State → Prop where
  | fresh (straps : Straps) (lines : LineMeasures) (l : List Instr) :
      Event s (State.fresh straps lines l)
  | handed (h : Handed) : Event s (s.setHanded h)
  | time (x : Timebase) : Event s (s.setTime x)
  | exch (x : Exchange) : Event s (s.setExch x)
  -- the frame period
  | measureLines (a b : BitVec 8) : Event s (s.measureLines a b)
  | millisecond : Event s s.millisecond
  | bulkStepDue : Event s s.bulkStepDue
  | beginFrame : Event s s.beginFrame
  -- the receivers
  | trunkOctet (t : Trunk) (o : Octet) : Event s (s.trunkOctet t o)
  | trunkLosOnset (t : Trunk) : Event s (s.trunkLosOnset t)
  | trunkLosEnd {t : Trunk} (lost : (s.trunk t).state = .noSignal) :
      Event s (s.setTrunk t ((s.trunk t).lose .hunting))
  | pathRx {p : Port} {r : PathRx} (line : (s.port p).state.looped = false)
      (stays : (s.pathRx p).framer.state = .aligned → r.framer.state = .aligned)
      (fits : (s.pathRx p).InRange → r.InRange) : Event s (s.setPathRx p r)
  | leaveAligned {p : Port} {x : RxState} (line : (s.port p).state.looped = false)
      (leaves : x ≠ .aligned) :
      Event s
        ((s.setPathRx p
          { s.pathRx p with framer := (s.pathRx p).framer.lose x, formRun := 0 }).endServing p)
  | probeOctet (p : Port) (o : Octet) : Event s (s.probeOctet p o)
  -- the control slots and the request engine
  | controlOctet {p : Port} (o : Octet) (serves : s.serving p = true) : Event s (s.controlOctet p o)
  | dropEnded {p : Port} {e : RecordEnd} {rest : List RecordEnd}
      (ended : (s.control p).ended = e :: rest) :
      Event s (s.setControl p { s.control p with ended := rest })
  | acceptRecord {p : Port} {e : RecordEnd} {rest : List RecordEnd} (body : List Octet)
      (ended : (s.control p).ended = e :: rest) :
      Event s ((s.setControl p { s.control p with ended := rest }).acceptRecord p body)
  | responseSent {p : Port} {t : State} (sent : execResponseSent p s = .next t) : Event s t
  | takeRequest (serves : List Octet → Bool) : Event s (s.takeRequest serves)
  | giveResponse {h : HeldRequest} {r : List Octet} (held : s.engine.held = some h)
      (ordinary : isResetResponse r = false) : Event s (s.giveResponse h.port r)
  /-- an accepted RESET EXCHANGE, whose response is not lost while no other reset is in hand -/
  | acceptReset {h : HeldRequest} {r : List Octet} (held : s.engine.held = some h)
      (kept : s.engine.resetPhase = .none → h.orphaned = false)
      (isReset : isResetResponse r = true) :
      Event s
        ((s.setEngine { s.engine with resetPhase := s.acceptedReset h.port }).giveResponse h.port r)
  -- the groups and the timers
  | examineGroup (g : Group) : Event s (s.examineGroup g)
  | holdStops (g : Group) : Event s (s.setGroup g { s.group g with hold := none })
  | takeDownEntry (p : Port) : Event s (s.takeDownEntry p)
  | failBackStops (p : Port) : Event s (s.setPort p { s.port p with failBack := none })
  -- the route store, the sweep and the walker
  | cutover {c : Circuit} {cur : CurrentSet} {m : StagedSet}
      (staged : (s.route c).standing = .staged cur m) : Event s (s.cutover c cur m)
  | reviewWhere (picks : CurrentSet → Bool) : Event s (s.reviewWhere picks)
  | resolution {c : Circuit} {rest : List Circuit} (front : s.sweepQueue = c :: rest) :
      Event s ((s.leaveQueue c).applyOutcome c (s.resolve c)).settleSweep
  | writeEntry (c : Circuit) (v : Service) (f : RouteFields) : Event s (s.writeEntry c v f)
  | reviewRange (t : Tier) (a b : Circuit) : Event s (s.reviewRange t a b)
  | writeDescriptor (d : Desc) (x : Descriptor) : Event s (s.writeDescriptor d x)
  | walkStep {o : WalkOrder} (walking : s.walker.state = .walking)
      (order : s.walker.order = some o) : Event s (s.walkStep o)
  | startWalk (o : WalkOrder) : Event s (s.setWalker (startedWalk o))
  | endWalk (b : Bool) : Event s (s.endWalk b)
  -- the host records and the parameters
  | recordAll (o : Occurrence) : Event s (s.recordAll o)
  | hostRecord {h : HostId} {r : HostRecord}
      (fits : TalliesInRange (s.hostRecord h) → TalliesInRange r) : Event s (s.setHostRecord h r)
  | storeParam (x : Param) (v : Nat) : Event s (s.storeParam x v)
  -- the health monitor and the probe checker
  | monitor {t : State} (moves : ∀ guarded : Prop, (guarded → ProbeCore s) → Moves guarded False s t)
      (laws : ProbeLaws s → ProbeLaws t) : Event s t
  | storeCeiling (p : Port) (n : Nat) : Event s (s.storeCeiling p n)
  | loopbackOn (p : Port) (ready : Bool) :
      Event s ((((s.loopPort p ready).beginTest p).enterLoop p ready).endServing p)
  /-- a looped port returns to its line -/
  | leaveLoop {p : Port} {r : PortRecord} (looped : (s.port p).state.looped = true)
      (after : r.state = .down ∨ r.state = .disabled) (timer : r.failBack = (s.port p).failBack)
      (fits : RecordFits s p r) : Event s (((s.setPort p r).cancelProbe p).returnToLine p)

namespace Event

variable {s : State}

theorem lineEvent (p : Port) (e : LineEvent) : Event s (s.lineEvent p e) :=
  .monitor (fun _ core => s.lineEvent_moves p e core) (s.lineEvent_probeKept p e).laws

theorem losOnsetHealth (p : Port) : Event s (s.losOnsetHealth p) :=
  .monitor (fun _ core => s.losOnsetHealth_moves p core) (s.losOnsetHealth_probeKept p).laws

theorem losEndHealth (p : Port) : Event s (s.losEndHealth p) :=
  .monitor (fun _ _ => s.losEndHealth_moves p) (s.losEndHealth_probeKept p).laws

theorem loopEvent (p : Port) (e : LineEvent) : Event s (s.loopEvent p e) :=
  .monitor (fun _ _ => s.loopEvent_moves p e) (s.loopEvent_probeKept p e).laws

theorem decayPort (p : Port) : Event s (s.decayPort p) :=
  .monitor (fun _ core => s.decayPort_moves p core) (s.decayPort_probeLaws p)

theorem stepChecker : Event s s.stepChecker :=
  .monitor (fun _ core => s.stepChecker_moves core) s.stepChecker_probeLaws

theorem countOctet {e : ProbeEntry} (counting : s.checker.state = .counting e) :
    Event s (s.countOctet e) :=
  .monitor (fun _ core => s.countOctet_moves counting core) (s.countOctet_probeLaws counting)

theorem demandProbe (p : Port) : Event s (s.demandProbe p) :=
  .monitor (fun _ core => s.demandProbe_moves p core) (s.demandProbe_probeLaws p)

theorem clearCounts (p : Port) : Event s (s.clearCounts p) :=
  .monitor (fun _ _ => s.clearCounts_moves p)
    (ProbeKept.laws (by apply s.setPort_probeKept; rfl))

theorem enablePort {p : Port} (disabled : (s.port p).state = .disabled) :
    Event s (s.enablePort p) :=
  .monitor (fun _ _ => s.enablePort_moves disabled) (s.enablePort_probeKept disabled).laws

/-- R79: a port on its line is disabled by the health monitor alone. -/
theorem disablePort (p : Port) : Event s (s.disablePort p) := by
  have monitor (moves : ∀ guarded : Prop, (guarded → ProbeCore s) →
      Moves guarded False s (s.disablePort p)) : Event s (s.disablePort p) :=
    .monitor moves (s.disablePort_probeKept p).laws
  cases state : (s.port p).state with
  | up | suspect =>
    refine monitor fun _ core => ?_
    simp only [State.disablePort, state]
    exact s.leaveService_moves core (s.inService_of_state state) rfl (fun _ => rfl)
      (fun h => by cases h)
  | loopback =>
    simp only [State.disablePort, state]
    exact .leaveLoop (by rw [state]; rfl) (.inr rfl) rfl
      fun _ fits => fits.move (q := (s.port p).q) fits.2.1 nofun
  | awaitProbe | probing =>
    refine monitor fun _ core => ?_
    simp only [State.disablePort, state]
    exact s.setPort_cancelProbe_moves core (s.inService_of_state state) rfl (fun h => by cases h) rfl
      fun _ fits => fits.move (q := (s.port p).q) fits.2.1 nofun
  | down | disabled =>
    refine monitor fun _ _ => ?_
    simp only [State.disablePort, state]
    exact .one (.change (s.inService_of_state state) rfl (fun h => by cases h) rfl
      fun _ fits => fits.move (q := (s.port p).q) fits.2.1 nofun)

theorem loopbackOff {p : Port} (looped : (s.port p).state.looped = true) :
    Event s (s.loopbackOff p) :=
  .leaveLoop looped (.inl rfl) rfl fun _ fits => fits.move (by simp) (by simp)

end Event

/-- A sequence of events. -/
def Events : State → State → Prop := Relation.ReflTransGen Event

namespace Events

variable {s t u : State}

theorem refl (s : State) : Events s s := Relation.ReflTransGen.refl

theorem one (h : Event s t) : Events s t := Relation.ReflTransGen.single h

theorem trans (h : Events s t) (h' : Events t u) : Events s u := Relation.ReflTransGen.trans h h'

theorem next (h : Events s t) (h' : Event t u) : Events s u := Relation.ReflTransGen.tail h h'

/-- A fold is a sequence of events when each of its steps is. -/
theorem foldl {α : Type} {f : State → α → State} (step : ∀ u a, Events u (f u a)) (l : List α)
    (s : State) : Events s (l.foldl f s) := by
  induction l generalizing s with
  | nil => exact refl s
  | cons a l ih => exact (step s a).trans (ih _)

/-- A law that each event keeps is kept by a sequence of them. -/
theorem keep {P : State → Prop} (kept : ∀ {s t}, Event s t → P s → P t) (h : Events s t)
    (hp : P s) : P t := by
  induction h with
  | refl => exact hp
  | tail _ e ih => exact kept e ih

end Events

/-! ## The commands, as sequences of events -/

namespace State

variable (s : State)

theorem raise_events (o : Occurrence) : Events s (s.raise o) := .one (.handed _)

theorem lineEvent_events (p : Port) (e : LineEvent) : Events s (s.lineEvent p e) :=
  .one (.lineEvent p e)

/-- R161: what an ended record does, as events. -/
theorem takeEnded_events (p : Port) : Events s (s.takeEnded p) := by
  cases h : (s.control p).ended with
  | nil => rw [takeEnded_of_nil s h]; exact .refl s
  | cons e rest =>
    rw [takeEnded_of_cons s h]
    cases e with
    | lengthRefused => exact (Events.one (.dropEnded h)).next (.lineEvent p .ccf)
    | whole len body check =>
      simp only [endRecord]
      split
      · exact .one (.acceptRecord body h)
      · exact (Events.one (.dropEnded h)).next (.lineEvent p .ccf)

theorem takeAllEnded_events (p : Port) : Events s (s.takeAllEnded p) :=
  Events.foldl (fun u _ => u.takeEnded_events p) _ s


/-! ### FRAME_PERIOD -/

theorem framePeriod_events (order : List Port) (a b : BitVec 8) :
    Events s (s.framePeriod order a b) := by
  have hunted : Events s ((portOrder order).foldl (fun s p => s.huntingFae p)
      (s.transmit.measureLines a b).stepChecker) := by
    refine (((Events.one (.exch _)).next (.measureLines a b)).next .stepChecker).trans
      (Events.foldl (fun u p => ?_) _ _)
    unfold huntingFae
    split
    · exact u.lineEvent_events p .fae
    · exact .refl u
  refine (Events.next (hunted.trans ?_) .bulkStepDue).next .beginFrame
  unfold countFrame
  dsimp only
  split
  · exact (Events.one (.time _)).next .millisecond
  · exact .one (.time _)

/-! ### PATH_FRAME -/

end State

namespace FramerInRange

variable {f : Framer} {n : Nat}

theorem run (fits : FramerInRange f n) {b : Nat} (le : b ≤ 2) :
    FramerInRange { f with badRun := b } n := ⟨le, fits.2⟩

theorem advance (fits : FramerInRange f n) : FramerInRange (f.advance n) n := by
  obtain ⟨bad, pos, few⟩ := fits
  exact ⟨bad, Nat.mod_lt _ (by omega), few⟩

theorem align (h : 1 < n) : FramerInRange f.align n := ⟨by simp [Framer.align], h, by simp [Framer.align]⟩

theorem lose (x : RxState) (h : 0 < n) : FramerInRange (f.lose x) n :=
  ⟨by simp [Framer.lose], h, by simp [Framer.lose]⟩

theorem search (fits : FramerInRange f n) (good : Bool) : FramerInRange (f.search n good) n := by
  obtain ⟨bad, pos, few⟩ := fits
  exact ⟨bad, pos, List.length_take_le _ _⟩

end FramerInRange

namespace State

variable (s : State)

theorem takeForm_framer (r : PathRx) (o : Octet) : (takeForm r o).1.framer = r.framer := by
  unfold takeForm
  dsimp only
  split
  · rfl
  · split <;> rfl

/-- R54: a good alignment octet leaves the receiver's fields in their ranges, once it is ALIGNED. -/
theorem takeForm_inRange {r : PathRx} (o : Octet) (aligned : r.framer.state = .aligned)
    (fits : FramerInRange r.framer 33) : (takeForm r o).1.InRange := by
  refine ⟨by rwa [takeForm_framer], ?_, fun h => absurd (by rw [takeForm_framer, aligned]) h⟩
  unfold takeForm
  dsimp only
  split
  · simp
  · split
    · simpa using ‹r.formRun < 3›
    · simp

theorem setPathRx_port (p q : Port) (r : PathRx) : (s.setPathRx p r).port q = s.port q := rfl

theorem goodAlignment_events {p : Port} {r : PathRx} (o : Octet)
    (line : (s.port p).state.looped = false) (aligned : r.framer.state = .aligned)
    (fits : (s.pathRx p).InRange → FramerInRange r.framer 33) :
    Events s (s.goodAlignment p r o) := by
  have first : Events s (s.setPathRx p (takeForm r o).1) :=
    .one (.pathRx line (fun _ => by rw [takeForm_framer, aligned])
      fun h => takeForm_inRange o aligned (fits h))
  unfold goodAlignment
  dsimp only
  split
  · exact (first.trans (takeAllEnded_events _ p)).next (.lineEvent p .ferd)
  · exact first

/-- The receiver's record is not touched while the records that have ended are taken. -/
theorem takeAllEnded_pathRx (p q : Port) : (s.takeAllEnded p).pathRx q = s.pathRx q := by
  simp [pathRx]


@[simp] theorem setControl_port (p q : Port) (k : Control) : (s.setControl p k).port q = s.port q :=
  rfl

theorem acceptRecord_port_state (p q : Port) (body : List Octet) :
    ((s.acceptRecord p body).port q).state = (s.port q).state := by
  unfold acceptRecord
  dsimp only
  split
  · rfl
  · refine (setPort_port_state_of_same _ ?_ q).trans rfl
    rfl

/-- No record that ends takes a port into LOOPBACK. -/
theorem takeEnded_looped {p q : Port} (line : (s.port q).state.looped = false) :
    ((s.takeEnded p).port q).state.looped = false := by
  have event (u : State) (h : (u.port q).state.looped = false) :
      ((u.lineEvent p .ccf).port q).state.looped = false :=
    (u.lineEvent_moves (guarded := False) p .ccf False.elim).looped h
  cases h : (s.control p).ended with
  | nil => rwa [takeEnded_of_nil s h]
  | cons e rest =>
    rw [takeEnded_of_cons s h]
    cases e with
    | lengthRefused => exact event _ line
    | whole len body check =>
      simp only [endRecord]
      split
      · rwa [acceptRecord_port_state]
      · exact event _ line

theorem takeAllEnded_looped {p q : Port} (line : (s.port q).state.looped = false) :
    ((s.takeAllEnded p).port q).state.looped = false := by
  unfold takeAllEnded
  generalize (s.control p).ended = l
  induction l generalizing s with
  | nil => exact line
  | cons e rest ih => exact ih _ (s.takeEnded_looped line)

@[simp] theorem loseAlignment_port (p q : Port) (x : RxState) :
    (s.loseAlignment p x).port q = (s.takeAllEnded p).port q := rfl

theorem loseAlignment_events {p : Port} {x : RxState} (line : (s.port p).state.looped = false)
    (leaves : x ≠ .aligned) : Events s (s.loseAlignment p x) := by
  have event := Event.leaveAligned (s.takeAllEnded_looped (p := p) line) leaves
  rw [takeAllEnded_pathRx] at event
  exact (s.takeAllEnded_events p).next event

theorem pathAlignment_events {p : Port} (o : Octet) (line : (s.port p).state.looped = false)
    (aligned : (s.pathRx p).framer.state = .aligned) : Events s (s.pathAlignment p o) := by
  unfold pathAlignment
  dsimp only
  split_ifs with good bad
  · exact s.goodAlignment_events o line aligned fun fits => (fits.1.run (Nat.zero_le 2)).advance
  · refine Events.next ((s.takeAllEnded_events p).next ?_) (.lineEvent p .fae)
    refine .pathRx (s.takeAllEnded_looped line) (fun _ => aligned) fun fits => ?_
    rw [takeAllEnded_pathRx] at fits
    exact ⟨(fits.1.run bad).advance, Nat.zero_le 3, fun _ => rfl⟩
  · exact (s.loseAlignment_events line (by simp)).next (.lineEvent p .fae)

/-- R49 to R55: one octet at a port receiver that is on its line. -/
theorem pathOctet_events {p : Port} (o : Octet) (line : (s.port p).state.looped = false) :
    Events s (s.pathOctet p o) := by
  cases state : (s.pathRx p).framer.state with
  | noSignal => simp only [pathOctet, state]; exact .refl s
  | hunting =>
    simp only [pathOctet, state]
    split
    · exact s.goodAlignment_events o line rfl fun _ => .align (by decide)
    · exact .one (.pathRx line (by simp [state]) fun fits =>
        ⟨fits.1.search _, fits.2.1, fun _ => fits.2.2 (by simp [state])⟩)
  | aligned =>
    simp only [pathOctet, state]
    split
    · exact s.pathAlignment_events o line state
    · have first : Events s (s.setPathRx p
          { s.pathRx p with framer := (s.pathRx p).framer.advance 33 }) :=
        .one (.pathRx line (fun _ => state) fun fits =>
          ⟨fits.1.advance, fits.2.1, fun h => absurd state h⟩)
      unfold deliver
      split_ifs
      · refine first.next (.controlOctet o ?_)
        simp [serving, Framer.advance, state, setPathRx_port, line]
      · exact first.next (.probeOctet p o)
      · unfold trafficOctet
        split
        · exact first.next (.exch _)
        · exact first

/-- No octet of its line takes a port into LOOPBACK. -/
theorem pathOctet_looped {p q : Port} (o : Octet) (line : (s.port q).state.looped = false) :
    ((s.pathOctet p o).port q).state.looped = false := by
  have event (u : State) (e : LineEvent) (h : (u.port q).state.looped = false) :
      ((u.lineEvent p e).port q).state.looped = false :=
    (u.lineEvent_moves (guarded := False) p e False.elim).looped h
  have good (r : PathRx) : ((s.goodAlignment p r o).port q).state.looped = false := by
    unfold goodAlignment
    dsimp only
    split
    · exact event _ .ferd (takeAllEnded_looped _ line)
    · exact line
  unfold pathOctet
  dsimp only
  split
  · exact line
  · split
    · exact good _
    · exact line
  · split
    · unfold pathAlignment
      dsimp only
      split_ifs
      · exact good _
      · exact event _ .fae (s.takeAllEnded_looped line)
      · exact event _ .fae (by rw [loseAlignment_port]; exact s.takeAllEnded_looped line)
    · rw [port_congr (t := s) (by simp) q]
      exact line

theorem pathOctets_events {p : Port} (octets : List Octet)
    (line : (s.port p).state.looped = false) :
    Events s (octets.foldl (fun s o => s.pathOctet p o) s) := by
  induction octets generalizing s with
  | nil => exact .refl s
  | cons o rest ih =>
    exact (s.pathOctet_events o line).trans (ih _ (s.pathOctet_looped o line))

/-! ### LOS_ONSET -/

theorem pathLosOnset_events {p : Port} (line : (s.port p).state.looped = false) :
    Events s (s.pathLosOnset p) := by
  cases state : (s.pathRx p).framer.state with
  | noSignal => simp only [pathLosOnset, state]; exact .refl s
  | hunting =>
    simp only [pathLosOnset, state]
    refine Events.next (.one ?_) (.losOnsetHealth p)
    exact .pathRx line (by simp [state]) fun fits =>
      ⟨.lose _ (by decide), fits.2.1, fun _ => fits.2.2 (by simp [state])⟩
  | aligned =>
    simp only [pathLosOnset, state]
    have line' : ((s.loseAlignment p .noSignal).port p).state.looped = false := by
      rw [loseAlignment_port]
      exact s.takeAllEnded_looped line
    exact (s.loseAlignment_events line (by simp)).next (.losOnsetHealth p)

/-! ### The requests (R163 to R166) -/

/-- What the act of a request does, as events, and that the request stays the engine's until it is answered. -/
def Acts (act : State → Port → List Octet → Answer) : Prop :=
  ∀ s p body, Events s (act s p body).state ∧
    (act s p body).state.engine.held.map HeldRequest.port = s.engine.held.map HeldRequest.port

/-- An act whose events leave the engine as it is. -/
theorem Acts.of_engine {act : State → Port → List Octet → Answer}
    (acts : ∀ s p body, Events s (act s p body).state ∧ (act s p body).state.engine = s.engine) :
    Acts act := fun s p body => ⟨(acts s p body).1, by rw [(acts s p body).2]⟩

theorem ordinary_of_kind {kind : Octet} (h : kind ≠ 0x5F) (code status : Octet)
    (data : List Octet) : isResetResponse ([kind, code, status] ++ data) = false := by
  have h' : ¬kind = 95#8 := h
  simp [isResetResponse, resetDoneHeader, h']

theorem ordinary_of_code {code : Octet} (h : code ≠ 0) (kind status : Octet)
    (data : List Octet) : isResetResponse ([kind, code, status] ++ data) = false := by
  have h' : ¬code = 0#8 := h
  simp [isResetResponse, resetDoneHeader, h']

/-- R163: a request kind other than RESET EXCHANGE, as a command. -/
theorem serve_events {serves : List Octet → Bool} {act : State → Port → List Octet → Answer}
    (acts : Acts act) (kind : ∀ body, serves body = true → body.headD 0 ≠ 0x5F)
    (phase : EnginePhase) : Events s (s.serve phase serves act) := by
  cases phase with
  | take => exact .one (.takeRequest serves)
  | run =>
    simp only [serve]
    generalize hu : s.takeRequest serves = u
    have taken : Events s u := by rw [← hu]; exact .one (.takeRequest serves)
    split
    case h_2 => exact taken
    case h_1 h held =>
      split
      case isFalse => exact taken
      case isTrue serving =>
        obtain ⟨events, port⟩ := acts u h.port h.body
        rw [held] at port
        obtain ⟨h', held', same⟩ := Option.map_eq_some_iff.mp port
        unfold execute
        dsimp only
        rw [← same]
        exact (taken.trans (by rw [same]; exact events)).next
          (.giveResponse (by rw [same]; exact held') (ordinary_of_kind (kind _ serving) _ _ _))

end State

end Sys2Proof.Machine
end

section
/-! The commands as sequences of events: what the request kinds do, and then every command of the table. -/

namespace Sys2Proof.Machine

namespace State

/-! ## What the request kinds do (R163 to R166) -/

@[simp] theorem refuse_state (s : State) (r : Result) : (refuse s r).state = s := rfl

@[simp] theorem accept_state (s : State) (data : List Octet) : (accept s data).state = s := rfl

theorem acts_unknown : Acts answerUnknown := .of_engine fun s _ _ => ⟨.refl s, rfl⟩

/-- A kind that answers a report, or refuses its body, changes nothing. -/
theorem acts_of_same {act : State → Port → List Octet → Answer}
    (same : ∀ s p body, (act s p body).state = s) : Acts act :=
  .of_engine fun s p body => by rw [same]; exact ⟨.refl s, rfl⟩

theorem acts_readRoute : Acts answerReadRoute := acts_of_same fun s p body => by
  unfold answerReadRoute; split <;> rfl

theorem acts_readDescriptor : Acts answerReadDescriptor := acts_of_same fun s p body => by
  unfold answerReadDescriptor; split <;> rfl

theorem acts_readPort : Acts answerReadPort := acts_of_same fun s p body => by
  unfold answerReadPort; split <;> rfl

theorem acts_readGroup : Acts answerReadGroup := acts_of_same fun s p body => by
  unfold answerReadGroup; split <;> rfl

theorem acts_readTrunk : Acts answerReadTrunk := acts_of_same fun s p body => by
  unfold answerReadTrunk; split <;> rfl

theorem acts_readSweep : Acts answerReadSweep := acts_of_same fun s p body => by
  unfold answerReadSweep; split <;> rfl

theorem acts_readParameters : Acts answerReadParameters := acts_of_same fun s p body => by
  unfold answerReadParameters; split <;> rfl

theorem writeEntry_engine (s : State) (c : Circuit) (v : Service) (f : RouteFields) :
    (s.writeEntry c v f).engine = s.engine := by
  cases v <;> simp [writeEntry]

theorem acts_writeRoute : Acts answerWriteRoute := .of_engine fun s p body => by
  unfold answerWriteRoute
  dsimp only
  split
  · exact ⟨.refl s, rfl⟩
  · split
    · exact ⟨.one (.writeEntry _ _ _), s.writeEntry_engine _ _ _⟩
    · exact ⟨.refl s, rfl⟩

theorem acts_writeDescriptor : Acts answerWriteDescriptor := .of_engine fun s p body => by
  unfold answerWriteDescriptor
  dsimp only
  split
  · exact ⟨.refl s, rfl⟩
  · split
    · rw [accept_state]
      exact ⟨.one (.writeDescriptor _ _), by simp⟩
    · exact ⟨.refl s, rfl⟩

/-- SET PORT: an effect whose events stand when the port's state allows it. -/
theorem setPortAs_acts {s u : State} {p q : Port} {allowed : Bool}
    (acts : allowed = true → Events s u ∧ u.engine.held.map HeldRequest.port =
      s.engine.held.map HeldRequest.port) :
    Events s (s.setPortAs p q allowed u).state ∧
    (s.setPortAs p q allowed u).state.engine.held.map HeldRequest.port =
      s.engine.held.map HeldRequest.port := by
  unfold setPortAs
  split_ifs with _ h
  · exact ⟨.refl s, rfl⟩
  · exact ⟨.refl s, rfl⟩
  · exact acts (by simpa using h)

theorem acts_enable : Acts answerEnable := fun s p body => by
  unfold answerEnable
  split
  · exact ⟨.refl s, rfl⟩
  · exact setPortAs_acts fun h => ⟨.one (.enablePort (by simpa using h)), by simp⟩

theorem acts_disable : Acts answerDisable := fun s p body => by
  unfold answerDisable
  split
  · exact ⟨.refl s, rfl⟩
  · exact setPortAs_acts fun _ => ⟨.one (.disablePort _), by simp⟩

/-- R164: a request that its port has orphaned is still that port's. -/
@[simp] theorem endServing_held_port (s : State) (p : Port) :
    (s.endServing p).engine.held.map HeldRequest.port = s.engine.held.map HeldRequest.port := by
  have same (h : HeldRequest) : (orphan h p).port = h.port := by
    unfold orphan
    split <;> rfl
  cases held : s.engine.held <;> simp [endServing, held, same]

theorem loopbackOn_events (s : State) (p : Port) (ready : Bool) :
    Events s (s.loopbackOn p ready) :=
  (s.takeAllEnded_events p).next (.loopbackOn p ready)

theorem acts_loopbackOn : Acts answerLoopbackOn := fun s p body => by
  unfold answerLoopbackOn
  split
  · exact ⟨.refl s, rfl⟩
  · exact setPortAs_acts fun _ => ⟨s.loopbackOn_events _ _, by simp [loopbackOn]⟩

theorem acts_loopbackOff : Acts answerLoopbackOff := fun s p body => by
  unfold answerLoopbackOff
  split
  · exact ⟨.refl s, rfl⟩
  · exact setPortAs_acts fun h => ⟨.one (.loopbackOff h), by simp⟩

theorem acts_ceiling : Acts answerCeiling := fun s p body => by
  unfold answerCeiling
  split
  · exact ⟨.refl s, rfl⟩
  · exact setPortAs_acts fun _ => ⟨.one (.storeCeiling _ _), by simp⟩

theorem acts_clearCounts : Acts answerClearCounts := fun s p body => by
  unfold answerClearCounts
  split
  · exact ⟨.refl s, rfl⟩
  · exact setPortAs_acts fun _ => ⟨.one (.clearCounts _), by simp⟩

theorem acts_probePort : Acts answerProbePort := .of_engine fun s p body => by
  unfold answerProbePort
  split
  · exact ⟨.refl s, rfl⟩
  · split_ifs
    · exact ⟨.refl s, rfl⟩
    · exact ⟨.refl s, rfl⟩
    · exact ⟨.one (.demandProbe _), by simp [accept]⟩

theorem injected_events (s : State) (p : Port) (e : LineEvent) (n : Nat) :
    Events s (s.injected p e n) ∧ (s.injected p e n).engine = s.engine := by
  induction n generalizing s with
  | zero => exact ⟨.refl s, rfl⟩
  | succ n ih =>
    obtain ⟨events, engine⟩ := ih (s.loopEvent p e)
    exact ⟨(Events.one (.loopEvent p e)).trans events, engine.trans (by simp)⟩

theorem acts_inject : Acts answerInject := .of_engine fun s p body => by
  unfold answerInject
  dsimp only
  split
  · exact ⟨.refl s, rfl⟩
  · split_ifs
    · exact ⟨.refl s, rfl⟩
    · exact ⟨.refl s, rfl⟩
    · exact s.injected_events _ _ _

theorem acts_bulkRoute : Acts answerBulkRoute := .of_engine fun s p body => by
  unfold answerBulkRoute
  dsimp only
  split
  · exact ⟨.refl s, rfl⟩
  · split
    · exact ⟨.refl s, rfl⟩
    · exact ⟨.one (.startWalk _), rfl⟩

theorem acts_bulkAbort : Acts answerBulkAbort := .of_engine fun s p body => by
  unfold answerBulkAbort
  split
  · exact ⟨.refl s, rfl⟩
  · split
    · split
      · exact ⟨.one (.endWalk false), by simp [accept]⟩
      · exact ⟨.refl s, rfl⟩
    · exact ⟨.refl s, rfl⟩

theorem acts_reviewRange : Acts answerReviewRange := .of_engine fun s p body => by
  unfold answerReviewRange
  split
  · exact ⟨.refl s, rfl⟩
  · rw [accept_state]
    exact ⟨.one (.reviewRange _ _ _), by simp⟩

/-- R157: what is taken of a host record leaves its tallies in range. -/
theorem taken_tallies {r : HostRecord} (x : Source) (fits : TalliesInRange r) :
    TalliesInRange (r.taken x) := by
  obtain ⟨chain, forced, probe⟩ := fits
  cases x <;>
    simp [HostRecord.taken, TalliesInRange, Tally.cleared, chain, forced, probe]

theorem acts_takeEvent : Acts answerTakeEvent := .of_engine fun s p body => by
  unfold answerTakeEvent
  dsimp only
  split
  · exact ⟨.refl s, rfl⟩
  · split
    · exact ⟨.refl s, rfl⟩
    · split
      · exact ⟨.one (.hostRecord fun fits => taken_tallies _ fits), rfl⟩
      · exact ⟨.refl s, rfl⟩

theorem acts_setMask : Acts answerSetMask := .of_engine fun s p body => by
  unfold answerSetMask
  split
  · exact ⟨.refl s, rfl⟩
  · exact ⟨.one (.hostRecord fun fits => fits), rfl⟩

theorem acts_setUrgency : Acts answerSetUrgency := .of_engine fun s p body => by
  unfold answerSetUrgency
  split
  · exact ⟨.refl s, rfl⟩
  · exact ⟨.one (.hostRecord fun fits => fits), rfl⟩

theorem acts_clearAlarm : Acts answerClearAlarm := .of_engine fun s p body => by
  unfold answerClearAlarm
  split
  · exact ⟨.refl s, rfl⟩
  · exact ⟨.one (.hostRecord fun fits => fits), rfl⟩

theorem acts_writeParameter : Acts answerWriteParameter := .of_engine fun s p body => by
  unfold answerWriteParameter
  dsimp only
  split
  · exact ⟨.refl s, rfl⟩
  · split
    · exact ⟨.one (.storeParam _ _), by simp [accept]⟩
    · exact ⟨.refl s, rfl⟩

/-! ## RESET EXCHANGE (R172) -/

/-- A row that serves one kind code serves no RESET EXCHANGE when the code is another. -/
theorem kind_ne_of_kindIs {kind : Octet} (h : kind ≠ 0x5F) (body : List Octet)
    (serves : kindIs kind body = true) : body.headD 0 ≠ 0x5F := by
  cases body with
  | nil => simp
  | cons k rest =>
    obtain rfl : k = kind := by simpa [kindIs] using serves
    exact h

theorem kind_ne_of_setPortIs (a : PortAction) (body : List Octet)
    (serves : setPortIs a body = true) : body.headD 0 ≠ 0x5F :=
  kind_ne_of_kindIs (kind := 0x21) (by decide) body (by simp [setPortIs] at serves; exact serves.1)

theorem kind_ne_of_kindUnknown (body : List Octet) (serves : kindUnknown body = true) :
    body.headD 0 ≠ 0x5F := by
  cases body with
  | nil => simp
  | cons k rest =>
    rintro (rfl : k = 0x5F)
    exact absurd serves (by simp [kindUnknown, kindCodes])

variable (s : State)

theorem fresh_events (straps : Straps) : Events s (s.resetNow straps) := .one (.fresh _ _ _)

/-- R172: what the execution of a RESET EXCHANGE does, unless the reset takes effect within it. -/
theorem execute_resetExchange_events {h : HeldRequest} (held : s.engine.held = some h)
    (serves : kindIs 0x5F h.body = true)
    (waits : s.engine.resetPhase = .none →
      (s.execute h answerResetExchange).engine.resetPhase ≠ .due) :
    Events s (s.execute h answerResetExchange) := by
  have lost : s.responseLost = h.orphaned := by simp [responseLost, held]
  have refused {r : Result} (code : r.code ≠ 0) (ha : answerResetExchange s h.port h.body = refuse s r) :
      Events s (s.execute h answerResetExchange) := by
    unfold execute
    rw [ha]
    exact .one (.giveResponse held (ordinary_of_code code _ _ _))
  cases bare : bareBody h.body with
  | none => exact refused (r := .range) (by decide) (by simp [answerResetExchange, bare])
  | some x =>
    by_cases trusted : s.trusted h.port 0 = true
    case neg => exact refused (r := .denied) (by decide) (by simp [answerResetExchange, bare, trusted])
    have accepted : answerResetExchange s h.port h.body =
        accept (s.setEngine { s.engine with resetPhase := s.acceptedReset h.port }) [] := by
      simp [answerResetExchange, bare, trusted]
    unfold execute at waits ⊢
    rw [accepted] at waits ⊢
    refine .one (.acceptReset held (fun phase => ?_) ?_)
    · by_contra orphaned
      exact waits phase (by simp [accept, giveResponse, acceptedReset, lost, orphaned])
    · obtain ⟨rest, body⟩ : ∃ rest, h.body = 0x5F :: rest := by
        cases hb : h.body with
        | nil => simp [hb, kindIs] at serves
        | cons k rest => exact ⟨rest, by simpa [hb, kindIs] using serves⟩
      rw [body]
      rfl

theorem takeRequest_resetPhase (serves : List Octet → Bool) :
    (s.takeRequest serves).engine.resetPhase = s.engine.resetPhase := by
  unfold takeRequest holdRequest
  (repeat' split) <;> rfl

/-- R172: a RESET EXCHANGE is refused, or its response waits in the queue of its port, or the reset takes effect
within the command. -/
theorem resetExchange_events (phase : EnginePhase) (straps : Straps) {t : State}
    (h : execResetExchange phase straps s = .next t) : Events s t := by
  simp only [execResetExchange, Host.Outcome.next.injEq] at h
  subst h
  split
  · exact .one (.fresh _ _ _)
  case isFalse waits =>
    cases phase with
    | take => exact .one (.takeRequest _)
    | run =>
      have taken : Events s (s.takeRequest (kindIs 0x5F)) := .one (.takeRequest _)
      rw [← s.takeRequest_resetPhase (kindIs 0x5F)] at waits
      simp only [serve] at waits ⊢
      generalize s.takeRequest (kindIs 0x5F) = u at *
      cases held : u.engine.held with
      | none => exact taken
      | some h =>
        by_cases serves : kindIs 0x5F h.body = true
        · simp only [held, serves, if_true] at waits ⊢
          exact taken.trans (u.execute_resetExchange_events held serves
            fun none due => waits ⟨none, due⟩)
        · simp only [serves]
          exact taken

/-! ## Every command -/

/-- A step's command, as a sequence of events. -/
theorem exec_events (i : Instr) {t : State} (h : exec i s = .next t) : Events s t := by
  have same {u : State} (e : Events s u) (h : (.next u : Host.Outcome State Fault Refusal) = .next t) :
      Events s t := by cases h; exact e
  have served {ph : EnginePhase} {serves : List Octet → Bool} {act : State → Port → List Octet → Answer}
      (acts : Acts act) (kind : ∀ body, serves body = true → body.headD 0 ≠ 0x5F)
      (h : (.next (s.serve ph serves act) : Host.Outcome State Fault Refusal) = .next t) :
      Events s t := same (s.serve_events acts kind ph) h
  cases i with
  | powerOnReset straps lines => exact same (.one (.fresh _ _ _)) h
  | resetExchange ph straps => exact s.resetExchange_events ph straps h
  | resetTakesEffect straps =>
    refine same ?_ h
    split
    · exact .one (.fresh _ _ _)
    · exact .refl s
  | framePeriod order a b => exact same (s.framePeriod_events order a b) h
  | stationFrame k octets =>
    exact same (Events.foldl (fun u o => .one (.trunkOctet k o)) octets s) h
  | pathFrame p octets =>
    refine same ?_ h
    split
    · exact .refl s
    · exact s.pathOctets_events octets (Bool.eq_false_iff.mpr ‹¬_›)
  | losOnset l =>
    refine same ?_ h
    cases l with
    | trunk k =>
      dsimp only
      split
      · exact .one (.trunkLosOnset k)
      · exact .refl s
    | path p =>
      dsimp only
      split
      case isTrue due => exact s.pathLosOnset_events (by simpa using due.2)
      case isFalse => exact .refl s
  | losEnd l =>
    refine same ?_ h
    cases l with
    | trunk k =>
      dsimp only
      split
      case isTrue due => exact .one (.trunkLosEnd due.2)
      case isFalse => exact .refl s
    | path p =>
      dsimp only
      split
      case isFalse => exact .refl s
      case isTrue due =>
        obtain ⟨-, lost, line⟩ := due
        refine Events.next (.one ?_) (.losEndHealth p)
        exact .pathRx (by simpa using line) (by simp [lost]) fun fits =>
          ⟨.lose _ (by decide), fits.2.1, fun _ => fits.2.2 (by simp [lost])⟩
  | controlRecord p => exact same (s.takeEnded_events p) h
  | responseSent p => exact .one (.responseSent h)
  | decayTick order =>
    refine same ?_ h
    split
    · refine (Events.one (.time _)).trans (Events.foldl (fun u r => ?_) _ _)
      cases r with
      | port p => exact .one (.decayPort p)
      | group g => exact .one (.examineGroup g)
    · exact .refl s
  | stagedTimerExpiry c =>
    refine same ?_ h
    split
    case h_1 staged =>
      split
      · exact (Events.one (.cutover staged)).trans (raise_events _ _)
      · exact .refl s
    case h_2 => exact .refl s
  | holdTimerExpiry g =>
    refine same ?_ h
    split
    · exact (Events.one (.holdStops g)).next (.examineGroup g)
    · exact .refl s
  | failBackExpiry p =>
    refine same ?_ h
    dsimp only
    split
    · split
      · exact (Events.one (.failBackStops p)).next (.reviewWhere _)
      · exact .one (.failBackStops p)
    · exact .refl s
  | blockEndPassage c =>
    refine same ?_ h
    split
    case h_1 staged =>
      split
      · exact .one (.cutover staged)
      · exact .refl s
    case h_2 => exact .refl s
  | resolution =>
    refine same ?_ h
    split
    case h_1 => exact .refl s
    case h_2 front => exact .one (.resolution front)
  | bulkStep =>
    refine same ?_ h
    split
    case h_1 walking order =>
      split
      · exact .one (.walkStep walking order)
      · exact .refl s
    case h_2 => exact .refl s
  | probeComplete =>
    refine same ?_ h
    split
    case h_1 counting =>
      split
      · exact .one (.countOctet counting)
      · exact .refl s
    case h_2 => exact .refl s
  | downEntry p =>
    refine same ?_ h
    split
    · exact (Events.one (.handed _)).next (.takeDownEntry p)
    · exact .refl s
  | upEntry p =>
    refine same ?_ h
    split
    · exact (Events.one (.handed _)).next (.examineGroup _)
    · exact .refl s
  | portDrain p =>
    refine same ?_ h
    split
    · exact (Events.one (.handed _)).next (.reviewWhere _)
    · exact .refl s
  | groupDrain g =>
    refine same ?_ h
    split
    · exact (Events.one (.handed _)).next (.reviewWhere _)
    · exact .refl s
  | occurrenceRecorded o =>
    refine same ?_ h
    split
    · exact (Events.one (.handed _)).next (.recordAll o)
    · exact .refl s
  | readRoute ph => exact served acts_readRoute (kind_ne_of_kindIs (by decide)) h
  | writeRoute ph => exact served acts_writeRoute (kind_ne_of_kindIs (by decide)) h
  | readDescriptor ph => exact served acts_readDescriptor (kind_ne_of_kindIs (by decide)) h
  | writeDescriptor ph => exact served acts_writeDescriptor (kind_ne_of_kindIs (by decide)) h
  | readPort ph => exact served acts_readPort (kind_ne_of_kindIs (by decide)) h
  | setPortEnable ph => exact served acts_enable (kind_ne_of_setPortIs _) h
  | setPortDisable ph => exact served acts_disable (kind_ne_of_setPortIs _) h
  | setPortLoopbackOn ph => exact served acts_loopbackOn (kind_ne_of_setPortIs _) h
  | setPortLoopbackOff ph => exact served acts_loopbackOff (kind_ne_of_setPortIs _) h
  | setPortCeiling ph => exact served acts_ceiling (kind_ne_of_setPortIs _) h
  | setPortClearCounts ph => exact served acts_clearCounts (kind_ne_of_setPortIs _) h
  | probePort ph => exact served acts_probePort (kind_ne_of_kindIs (by decide)) h
  | inject ph => exact served acts_inject (kind_ne_of_kindIs (by decide)) h
  | readGroup ph => exact served acts_readGroup (kind_ne_of_kindIs (by decide)) h
  | readTrunk ph => exact served acts_readTrunk (kind_ne_of_kindIs (by decide)) h
  | bulkRoute ph => exact served acts_bulkRoute (kind_ne_of_kindIs (by decide)) h
  | bulkAbort ph => exact served acts_bulkAbort (kind_ne_of_kindIs (by decide)) h
  | reviewRange ph => exact served acts_reviewRange (kind_ne_of_kindIs (by decide)) h
  | readSweep ph => exact served acts_readSweep (kind_ne_of_kindIs (by decide)) h
  | takeEvent ph => exact served acts_takeEvent (kind_ne_of_kindIs (by decide)) h
  | setMask ph => exact served acts_setMask (kind_ne_of_kindIs (by decide)) h
  | setUrgency ph => exact served acts_setUrgency (kind_ne_of_kindIs (by decide)) h
  | clearAlarm ph => exact served acts_clearAlarm (kind_ne_of_kindIs (by decide)) h
  | readParameters ph => exact served acts_readParameters (kind_ne_of_kindIs (by decide)) h
  | writeParameter ph => exact served acts_writeParameter (kind_ne_of_kindIs (by decide)) h
  | unknownKind ph => exact served acts_unknown kind_ne_of_kindUnknown h

end State

/-- R162, R172: a response that has been sent leaves its queue. -/
theorem responseSent_cases {p : Port} {s t : State} (sent : execResponseSent p s = .next t) :
    t = s ∨ ∃ body rest, (s.control p).responses = body :: rest ∧
      (s.control p).sent = recordLength body ∧
      t = (s.setControl p { s.control p with responses := rest, sent := 0 }).setEngine
        { s.engine with
          resetPhase := if isResetResponse body then .due else s.engine.resetPhase } := by
  simp only [execResponseSent, Host.Outcome.next.injEq] at sent
  subst sent
  split
  · exact .inl rfl
  case h_2 body rest waiting =>
    split_ifs with all isReset
    · exact .inr ⟨body, rest, waiting, all, by rw [if_pos isReset]⟩
    · exact .inr ⟨body, rest, waiting, all, by rw [if_neg isReset]; rfl⟩
    · exact .inl rfl

/-- A law that each event keeps, and that the queue of commands does not touch, is kept by every step. -/
theorem step_keeps {P : State → Prop} (kept : ∀ {s t}, Event s t → P s → P t)
    (queue : ∀ (s : State) (l : List Instr), P s → P { s with pending := l }) {s t : State}
    (hs : P s) (h : step s = .next t) : P t := by
  unfold step at h
  split at h
  · cases h; exact hs
  · exact (State.exec_events _ _ h).keep kept (queue s _ hs)

end Sys2Proof.Machine
end

section
/-! Station-lost and the receivers of the trunks (R5, R59): the events that move a trunk's receiver in or out of
ALIGNED set the flags of its circuits with it, and every other event leaves both as they are. -/

namespace Sys2Proof.Machine

/-- An operation that changes no station-lost flag and no trunk receiver's state. -/
def KeepsStation (s t : State) : Prop :=
  (∀ c, (t.route c).stationLost = (s.route c).stationLost) ∧
  ∀ k, (t.trunk k).state = (s.trunk k).state

namespace KeepsStation

variable {s t u : State}

theorem law (kept : KeepsStation s t) (law : StationLaw s) : StationLaw t := fun c => by
  rw [kept.1, kept.2]
  exact law c

theorem refl (s : State) : KeepsStation s s := ⟨fun _ => rfl, fun _ => rfl⟩

theorem trans (kept : KeepsStation s t) (kept' : KeepsStation t u) : KeepsStation s u :=
  ⟨fun c => (kept'.1 c).trans (kept.1 c), fun k => (kept'.2 k).trans (kept.2 k)⟩

theorem of_trunks (trunks : t.trunks = s.trunks)
    (lost : ∀ c, (t.route c).stationLost = (s.route c).stationLost) : KeepsStation s t :=
  ⟨lost, fun k => by rw [State.trunk, State.trunk, trunks]⟩

theorem of_same (trunks : t.trunks = s.trunks) (routes : t.routes = s.routes) : KeepsStation s t :=
  of_trunks trunks fun c => by rw [State.route_congr routes]

theorem of_setPort {p : Port} {r : PortRecord} (kept : KeepsStation (s.setPort p r) t) :
    KeepsStation s t := kept

end KeepsStation

namespace State

variable (s : State)

/-! ## The flag through the writes of a route entry -/

theorem setRoute_stationLost {c : Circuit} {r : Route}
    (same : r.stationLost = (s.route c).stationLost) (d : Circuit) :
    ((s.setRoute c r).route d).stationLost = (s.route d).stationLost := by
  rw [route_setRoute]
  split_ifs with h
  · rw [same, h]
  · rfl

@[simp] theorem capacityEvent_stationLost (c : Circuit) :
    (s.capacityEvent.route c).stationLost = (s.route c).stationLost := by
  rw [route_capacityEvent]
  split <;> rfl

@[simp] theorem capacityIf_stationLost (b : Bool) (c : Circuit) :
    ((s.capacityIf b).route c).stationLost = (s.route c).stationLost := by
  rw [route_capacityIf]
  split <;> rfl

@[simp] theorem departRoute_stationLost (p : Port) (r : Route) :
    (departRoute p r).stationLost = r.stationLost := by
  unfold departRoute
  (repeat' split) <;> rfl

@[simp] theorem portDeparture_stationLost (p : Port) (c : Circuit) :
    ((s.portDeparture p).route c).stationLost = (s.route c).stationLost := by
  rw [route_portDeparture, departRoute_stationLost]

@[simp] theorem joinStranded_route (c d : Circuit) : (s.joinStranded c).route d = s.route d := rfl

@[simp] theorem raise_route (o : Occurrence) (c : Circuit) : (s.raise o).route c = s.route c := rfl

@[simp] theorem releaseAll_route (l : List PathSlot) (c : Circuit) :
    (s.releaseAll l).route c = s.route c := route_congr (by simp) c

/-! ## The route store's operations -/

theorem cutover_keepsStation (c : Circuit) (cur : CurrentSet) (m : StagedSet) :
    KeepsStation s (s.cutover c cur m) :=
  .of_trunks (by simp [cutover]) fun d => by
    unfold cutover
    simp only [settleSweep_route, capacityIf_stationLost]
    apply setRoute_stationLost
    rfl

theorem applyOutcome_keepsStation (c : Circuit) (x : Resolved) :
    KeepsStation s (s.applyOutcome c x) := by
  have chain (u : State) (f : Option (FaultKind × Desc)) :
      KeepsStation u (u.raiseChainFault c f) := by
    unfold raiseChainFault
    split
    · exact .of_same rfl rfl
    · exact .refl u
  have stay (cur : CurrentSet) (b : Bool) : KeepsStation s (s.stay c cur b) :=
    .of_trunks rfl (s.setRoute_stationLost rfl)
  unfold applyOutcome
  split
  · exact .of_trunks rfl (setRoute_stationLost _ rfl)
  · unfold strand
    refine KeepsStation.trans ?_ (chain _ _)
    exact .of_trunks rfl fun d => by
      rw [joinStranded_route]
      apply setRoute_stationLost
      rfl
  · split_ifs
    · exact stay _ _
    · split
      · refine .of_trunks (by simp [movePrompt]) fun d => ?_
        simp only [movePrompt, capacityIf_stationLost]
        apply setRoute_stationLost
        rfl
      · exact .of_trunks rfl (setRoute_stationLost _ rfl)
  · exact (stay _ _).trans (chain _ _)
  · exact .refl s

theorem settleSweep_keepsStation : KeepsStation s s.settleSweep :=
  .of_same (by simp) (by simp)

theorem writeEntry_keepsStation (c : Circuit) (v : Service) (f : RouteFields) :
    KeepsStation s (s.writeEntry c v f) := by
  have out (x : Standing) (n : Nat) : KeepsStation s (s.writeOutOfService c f x n) :=
    .of_trunks (by simp) fun d => by
      unfold writeOutOfService
      simp only [settleSweep_route, capacityIf_stationLost, leaveStranded_route, leaveQueue_route]
      exact (setRoute_stationLost _ (by rw [releaseAll_route]) d).trans (by rw [releaseAll_route])
  cases v with
  | inService =>
    refine .of_trunks (by simp [writeEntry]) fun d => ?_
    simp only [writeEntry, writeInService]
    split <;>
      simp only [settleSweep_route, capacityIf_stationLost, joinQueue_route, leaveStranded_route] <;>
      (apply setRoute_stationLost; rfl)
  | barred => exact out _ _
  | idle => exact out _ _

theorem capacityEvent_keepsStation : KeepsStation s s.capacityEvent :=
  .of_trunks (by simp) fun c => by simp

theorem writeDescriptor_keepsStation (d : Desc) (x : Descriptor) :
    KeepsStation s (s.writeDescriptor d x) :=
  (KeepsStation.of_same (t := s.setDesc d x) rfl rfl).trans
    ((capacityEvent_keepsStation _).trans (settleSweep_keepsStation _))

theorem walkStep_keepsStation (o : WalkOrder) : KeepsStation s (s.walkStep o) := by
  refine .of_trunks (by simp) fun c => ?_
  rw [route_congr (s.walkStep_routes o)]
  unfold applyStep
  dsimp only
  split
  · exact (s.writeEntry_keepsStation _ _ _).1 c
  · rfl

theorem storeCeiling_keepsStation (p : Port) (n : Nat) : KeepsStation s (s.storeCeiling p n) := by
  have first (r : PortRecord) : KeepsStation s (s.setPort p r) := .of_same rfl rfl
  unfold storeCeiling
  dsimp only
  split
  · exact (first _).trans ((capacityEvent_keepsStation _).trans (settleSweep_keepsStation _))
  · exact first _

theorem reviewRange_keepsStation (t : Tier) (a b : Circuit) :
    KeepsStation s (s.reviewRange t a b) :=
  .of_trunks (by simp) fun c => by
    rw [reviewRange, settleSweep_route]
    simp only [route, Fin.getElem_fin, Vector.getElem_ofFn, Fin.eta]
    split <;> rfl

theorem measureLines_keepsStation (a b : BitVec 8) : KeepsStation s (s.measureLines a b) :=
  ⟨fun _ => rfl, fun k => by simp [measureLines, trunk]⟩

theorem enterUp_keepsStation (p : Port) : KeepsStation s (s.enterUp p) := by
  unfold enterUp
  refine KeepsStation.trans ?_ (settleSweep_keepsStation _)
  refine KeepsStation.trans ?_ (capacityEvent_keepsStation _)
  exact .of_same rfl rfl

end State

/-! ## Every event -/

theorem Move.keepsStation {guarded looping : Prop} {s t : State} (m : Move guarded looping s t) :
    KeepsStation s t := by
  cases m with
  | record | change | checker | handed => exact .of_same rfl rfl
  | depart =>
    unfold State.departed
    exact .of_trunks (by dsimp only; split <;> simp [State.portDeparture])
      fun c => by dsimp only; split <;> rw [State.portDeparture_stationLost] <;> rfl
  | enterSuspect | latches | takeProbe => exact .of_same (by simp) (by simp)
  | @enterUp p q =>
    exact (State.enterUp_keepsStation (s.setPort p { s.port p with q := q }) p).of_setPort

theorem Moves.keepsStation {guarded looping : Prop} {s t : State} (m : Moves guarded looping s t) :
    KeepsStation s t :=
  m.keep (P := KeepsStation s) (fun m h => h.trans m.keepsStation) (.refl s)

namespace State

variable {s : State}

/-- A trunk's receiver moves into the state given, and the flags of its circuits with it. -/
theorem stationLaw_of_moved {t : State} {k : Trunk} {lost : Bool} (law : StationLaw s)
    (state : lost = true ↔ (t.trunk k).state ≠ .aligned)
    (others : ∀ j, j ≠ k → (t.trunk j).state = (s.trunk j).state)
    (flags : ∀ c, (t.route c).stationLost =
      if trunkOf c = k then lost else (s.route c).stationLost) : StationLaw t := fun c => by
  rw [flags]
  split_ifs with h
  · rw [h]; exact state
  · rw [others _ h]; exact law c

@[simp] theorem setStationLost_stationLost (s : State) (k : Trunk) (lost : Bool) (c : Circuit) :
    ((s.setStationLost k lost).route c).stationLost =
      if trunkOf c = k then lost else (s.route c).stationLost := by
  have entry : (s.setStationLost k lost).route c =
      if trunkOf c = k then { s.route c with stationLost := lost } else s.route c := by
    simp [setStationLost, route]
  rw [entry]
  split <;> rfl

theorem stationLaw_setStationLost {k : Trunk} {f : Framer} {lost : Bool} (law : StationLaw s)
    (state : lost = true ↔ f.state ≠ .aligned) :
    StationLaw ((s.setTrunk k f).setStationLost k lost) := by
  have same (j : Trunk) :
      ((s.setTrunk k f).setStationLost k lost).trunk j = (s.setTrunk k f).trunk j := by
    simp [trunk]
  refine stationLaw_of_moved (k := k) (lost := lost) law ?_ (fun j h => ?_) fun c => ?_
  · rw [same, trunk_setTrunk_self]; exact state
  · rw [same, trunk_setTrunk_ne _ h]
  · rw [setStationLost_stationLost]; rfl

/-- A trunk's receiver that stays in its state, or moves between two that are not ALIGNED. -/
theorem stationLaw_setTrunk {k : Trunk} {f : Framer} (law : StationLaw s)
    (state : f.state = .aligned ↔ (s.trunk k).state = .aligned) :
    StationLaw (s.setTrunk k f) := fun c => by
  change (s.route c).stationLost = true ↔ _
  rw [law c, trunk_setTrunk]
  split_ifs with h
  · rw [h, not_iff_not]; exact state.symm
  · exact Iff.rfl

theorem stationOctet_keepsStation (s : State) (c : Circuit) (o : Octet) :
    KeepsStation s (s.stationOctet c o) := by
  have mark (u : State) : KeepsStation u (u.markBlockEnd c o) := by
    unfold markBlockEnd
    split
    · split
      · refine .of_trunks rfl fun d => ?_
        apply setRoute_stationLost
        rfl
      · exact .refl u
    · exact .refl u
  unfold stationOctet
  split
  · split
    · exact .refl s
    · exact (KeepsStation.of_same rfl rfl).trans (mark _)
  · exact .refl s

theorem trunkOctet_stationLaw (k : Trunk) (o : Octet) (law : StationLaw s) :
    StationLaw (s.trunkOctet k o) := by
  cases state : (s.trunk k).state with
  | noSignal => simpa only [trunkOctet, state] using law
  | hunting =>
    simp only [trunkOctet, state]
    split
    · exact stationLaw_setStationLost law (by simp [Framer.align])
    · exact stationLaw_setTrunk law (by simp [Framer.search])
  | aligned =>
    simp only [trunkOctet, state]
    split
    · unfold trunkAlignment
      dsimp only
      split_ifs
      · exact stationLaw_setTrunk law (by simp [Framer.advance])
      · exact stationLaw_setTrunk law (by simp [Framer.advance])
      · exact stationLaw_setStationLost law (by simp [Framer.lose])
    · exact (stationOctet_keepsStation _ _ _).law
        (stationLaw_setTrunk law (by simp [Framer.advance]))

theorem trunkLosOnset_stationLaw (k : Trunk) (law : StationLaw s) :
    StationLaw (s.trunkLosOnset k) := by
  unfold trunkLosOnset
  dsimp only
  split
  · exact law
  · exact stationLaw_setTrunk law (by simp [Framer.lose, *])
  · exact stationLaw_setStationLost law (by simp [Framer.lose])

theorem fresh_stationLaw (straps : Straps) (lines : LineMeasures) (l : List Instr) :
    StationLaw (State.fresh straps lines l) := fun c => by
  have start (m : LineMeasure) : startState m ≠ .aligned := by
    unfold startState
    split <;> simp
  simp [fresh, route, trunk, Route.reset, Framer.start, start]

end State

/-- Every event keeps station-lost with the receiver of its trunk. -/
theorem Event.stationLaw {s t : State} (e : Event s t) (law : StationLaw s) : StationLaw t := by
  cases e with
  | fresh => exact State.fresh_stationLaw _ _ _
  | trunkOctet k o => exact State.trunkOctet_stationLaw k o law
  | trunkLosOnset k => exact State.trunkLosOnset_stationLaw k law
  | trunkLosEnd lost => exact State.stationLaw_setTrunk law (by simp [Framer.lose, lost])
  | cutover => exact (s.cutover_keepsStation _ _ _).law law
  | resolution =>
    exact (KeepsStation.trans (.of_same rfl rfl) ((State.applyOutcome_keepsStation _ _ _).trans
      (State.settleSweep_keepsStation _))).law law
  | writeEntry => exact (s.writeEntry_keepsStation _ _ _).law law
  | writeDescriptor => exact (s.writeDescriptor_keepsStation _ _).law law
  | walkStep => exact (s.walkStep_keepsStation _).law law
  | storeCeiling => exact (s.storeCeiling_keepsStation _ _).law law
  | reviewRange => exact (s.reviewRange_keepsStation _ _ _).law law
  | measureLines => exact (s.measureLines_keepsStation _ _).law law
  | millisecond =>
    exact (KeepsStation.of_trunks (by simp) fun c => by simp [State.millisecond, State.route]).law law
  | beginFrame =>
    exact (KeepsStation.of_trunks (by simp) fun c => by simp [State.beginFrame, State.route]).law law
  | monitor moves _ => exact (moves False False.elim).keepsStation.law law
  | loopbackOn p ready =>
    exact ((s.loopPort_moves (guarded := False) p ready False.elim).keepsStation.trans
      (.of_same (by simp) (by simp))).law law
  | responseSent sent =>
    rcases responseSent_cases sent with same | ⟨body, rest, -, -, same⟩
    · rwa [same]
    · rw [same]; exact law
  | handed | time | exch | pathRx | dropEnded | holdStops | failBackStops | startWalk | hostRecord =>
    exact law
  | _ => exact (KeepsStation.of_same (by simp) (by simp)).law law

end Sys2Proof.Machine

section
open Sys2Proof Sys2Proof.Machine

/-- Settles O59: each event keeps the law, and a step is a sequence of events. -/
theorem stepKeepsStationLaw : Obligations.StepKeepsStationLaw := fun _ _ law =>
  step_keeps Event.stationLaw (fun _ _ => id) law
end
end

section
/-! The laws of the probe queue and the checker (R84, R85, R89), kept by every event. -/

namespace Sys2Proof.Machine

namespace State

theorem fresh_probeLaws (straps : Straps) (lines : LineMeasures) (l : List Instr) :
    ProbeLaws (State.fresh straps lines l) := by
  refine ⟨?_, fun p => ?_, fun p => ?_, fun _ => rfl⟩ <;>
    simp [fresh, PortsOnce, probeEntries, Checker.reset, CheckerState.entry, port, PortRecord.reset]

/-- A frame that begins steps the generator of the checker alone. -/
theorem beginFrame_probeKept (s : State) : ProbeKept s s.beginFrame := by
  have checker : s.beginFrame.checker.state = s.checker.state ∧
      s.beginFrame.checker.queue = s.checker.queue := by
    unfold beginFrame checkerBegins
    dsimp only
    split <;> exact ⟨rfl, rfl⟩
  exact .of_same (fun q => by rw [port_congr (t := s) (by simp) q]) checker.1 checker.2

theorem probeOctet_probeKept (s : State) (p : Port) (o : Octet) : ProbeKept s (s.probeOctet p o) := by
  unfold probeOctet
  split
  · exact .of_same (fun _ => rfl) rfl rfl
  · exact .refl s

theorem millisecond_probeKept (s : State) : ProbeKept s s.millisecond :=
  .of_same (fun p => by simp [millisecond, port]) rfl rfl

theorem storeCeiling_probeKept (s : State) (p : Port) (n : Nat) : ProbeKept s (s.storeCeiling p n) := by
  have first : ProbeKept s (s.setPort p { s.port p with ceiling := max 1 (min 30 n) }) := by
    apply setPort_probeKept; rfl
  unfold storeCeiling
  dsimp only
  split
  · exact first.trans (.of_same (by simp) (by simp) (by simp))
  · exact first

end State

theorem ProbeKept.of_ports {s t : State} (ports : t.ports = s.ports) (checker : t.checker = s.checker) :
    ProbeKept s t :=
  .of_same (fun p => by rw [State.port_congr ports]) (by rw [checker]) (by rw [checker])

/-- Every event keeps the laws of the probe queue and the checker. -/
theorem Event.probeLaws {s t : State} (e : Event s t) (laws : ProbeLaws s) : ProbeLaws t := by
  cases e with
  | fresh => exact State.fresh_probeLaws _ _ _
  | monitor _ kept => exact kept laws
  | millisecond => exact s.millisecond_probeKept.laws laws
  | beginFrame => exact s.beginFrame_probeKept.laws laws
  | probeOctet => exact (s.probeOctet_probeKept _ _).laws laws
  | acceptRecord body =>
    exact (ProbeKept.of_same (fun q => State.acceptRecord_port_state _ _ _ _) (by simp)
      (by simp)).laws laws
  | failBackStops p => exact ProbeKept.laws (by apply s.setPort_probeKept; rfl) laws
  | storeCeiling => exact (s.storeCeiling_probeKept _ _).laws laws
  | loopbackOn p ready => exact (s.loopbackOn_probeKept p ready).laws laws
  | @leaveLoop p r _ after =>
    refine ((s.setPort_cancelProbe_probeKept p ?_ ?_).trans
      (State.returnToLine_probeKept _ p)).laws laws <;> rcases after with h | h <;> simp [h]
  | responseSent sent =>
    rcases responseSent_cases sent with same | ⟨body, rest, -, -, same⟩
    · rwa [same]
    · rw [same]; exact laws
  | handed | time | exch | pathRx | dropEnded | holdStops | startWalk | hostRecord => exact laws
  | _ => exact (ProbeKept.of_ports (by simp) (by simp)).laws laws

end Sys2Proof.Machine

section
open Sys2Proof Sys2Proof.Machine

/-- Settles O57: each event keeps the laws, and a step is a sequence of events. -/
theorem stepKeepsProbeLaws : Obligations.StepKeepsProbeLaws := fun _ _ laws =>
  step_keeps Event.probeLaws (fun _ _ => id) laws
end
end

section
/-! The laws of the sweep queue and the stranded set (R110, R111), kept by every event. -/

namespace Sys2Proof.Machine

/-! ## The laws of the queue at one circuit -/

/-- R110 at one circuit, whose standing is given by its code: 2 DISPLACED, 3 ROUTED, 5 STRANDED. -/
def QueueLawAt (code : Nat) (queued stranded : Bool) : Prop :=
  (code = 2 → queued = true) ∧ (queued = true → code = 2 ∨ code = 3) ∧
  (stranded = true ↔ code = 5)

theorem queueLaws_iff (s : State) :
    QueueLaws s ↔ ∀ c, QueueLawAt (s.route c).standing.code (s.queued c) (s.strandedHas c) := by
  refine forall_congr' fun c => ?_
  cases (s.route c).standing <;> simp [QueueLawAt, Standing.code]

namespace QueueLaws

variable {s t : State}

theorem at_circuit (law : QueueLaws s) (c : Circuit) :
    QueueLawAt (s.route c).standing.code (s.queued c) (s.strandedHas c) :=
  (queueLaws_iff s).mp law c

/-- An operation that changes no circuit's place in the sweep. -/
theorem of_same (law : QueueLaws s)
    (code : ∀ c, (t.route c).standing.code = (s.route c).standing.code)
    (sweep : t.sweep.queued = s.sweep.queued ∧ t.sweep.stranded = s.sweep.stranded) :
    QueueLaws t := by
  rw [queueLaws_iff]
  intro c
  rw [code, State.queued_congr sweep.1, State.strandedHas_congr sweep.2]
  exact law.at_circuit c

/-- An operation on one circuit. -/
theorem update (law : QueueLaws s) {c : Circuit}
    (others : ∀ d, d ≠ c → t.route d = s.route d ∧ t.queued d = s.queued d ∧
      t.strandedHas d = s.strandedHas d)
    (self : QueueLawAt (t.route c).standing.code (t.queued c) (t.strandedHas c)) : QueueLaws t := by
  rw [queueLaws_iff]
  intro d
  by_cases h : d = c
  · rw [h]; exact self
  · obtain ⟨route, queued, stranded⟩ := others d h
    rw [route, queued, stranded]
    exact law.at_circuit d

theorem not_stranded_of_queued (law : QueueLaws s) {c : Circuit} (queued : s.queued c = true) :
    s.strandedHas c = false := by
  obtain ⟨-, place, stranded⟩ := law.at_circuit c
  rw [Bool.eq_false_iff]
  intro h
  have := place queued
  have := stranded.mp h
  omega

/-- R126: the laws of the sweep stand once the sweep has settled. -/
theorem settled (law : QueueLaws s) : SweepLaws s.settleSweep :=
  ⟨law.of_same (by simp) (by unfold State.settleSweep; split_ifs <;> exact ⟨rfl, rfl⟩),
    s.settleSweep_runningLaw⟩

/-- R12: a capacity event empties the stranded set into the queue. -/
theorem capacityEvent (law : QueueLaws s) : QueueLaws s.capacityEvent := by
  rw [queueLaws_iff]
  intro c
  rw [State.route_capacityEvent, State.queued_capacityEvent, State.strandedHas_capacityEvent]
  have place := law.at_circuit c
  cases h : s.strandedHas c with
  | true => simp [QueueLawAt, Standing.code]
  | false => simpa [h] using place

theorem capacityIf (law : QueueLaws s) (b : Bool) : QueueLaws (s.capacityIf b) := by
  cases b
  · exact law
  · exact law.capacityEvent

end QueueLaws

/-- An operation that leaves the route table and the sweep engine as they are. -/
theorem SweepLaws.of_same {s t : State} (laws : SweepLaws s) (routes : t.routes = s.routes)
    (sweep : t.sweep = s.sweep) : SweepLaws t :=
  ⟨laws.1.of_same (fun c => by rw [State.route_congr routes]) (by rw [sweep]; exact ⟨rfl, rfl⟩), by
    simpa only [RunningLaw, State.queued, sweep] using laws.2⟩

/-- An operation that changes no circuit's place in the sweep. -/
theorem SweepLaws.of_codes {s t : State} (laws : SweepLaws s)
    (code : ∀ c, (t.route c).standing.code = (s.route c).standing.code)
    (sweep : t.sweep = s.sweep) : SweepLaws t :=
  ⟨laws.1.of_same code (by rw [sweep]; exact ⟨rfl, rfl⟩), by
    simpa only [RunningLaw, State.queued, sweep] using laws.2⟩

namespace State

variable {s : State}

/-! ## Reads that an operation of the sweep leaves as they are -/

@[simp] theorem leaveStranded_queued (c d : Circuit) :
    (s.leaveStranded c).queued d = s.queued d := rfl

@[simp] theorem joinStranded_queued (c d : Circuit) :
    (s.joinStranded c).queued d = s.queued d := rfl

@[simp] theorem joinQueue_strandedHas (c d : Circuit) :
    (s.joinQueue c).strandedHas d = s.strandedHas d := rfl

@[simp] theorem leaveQueue_strandedHas (c d : Circuit) :
    (s.leaveQueue c).strandedHas d = s.strandedHas d := rfl

@[simp] theorem releaseSlot_queued (q : PathSlot) (c : Circuit) :
    (s.releaseSlot q).queued c = s.queued c := rfl

@[simp] theorem holdSlot_queued (q : PathSlot) (h : Holder) (c : Circuit) :
    (s.holdSlot q h).queued c = s.queued c := rfl

@[simp] theorem makeCurrent_queued (q : PathSlot) (c d : Circuit) :
    (s.makeCurrent q c).queued d = s.queued d := rfl

@[simp] theorem releaseAll_queued (l : List PathSlot) (c : Circuit) :
    (s.releaseAll l).queued c = s.queued c := queued_congr (by simp) c

@[simp] theorem releaseAll_strandedHas (l : List PathSlot) (c : Circuit) :
    (s.releaseAll l).strandedHas c = s.strandedHas c := strandedHas_congr (by simp) c

/-! ## The operations of the route store -/

theorem setRoute_queueLaws (law : QueueLaws s) {c : Circuit} {r : Route}
    (self : QueueLawAt r.standing.code (s.queued c) (s.strandedHas c)) :
    QueueLaws (s.setRoute c r) :=
  law.update (c := c) (fun d h => ⟨route_setRoute_ne _ h r, rfl, rfl⟩) (by simpa using self)

/-- R112, R113: a DISPLACED or ROUTED circuit joins the queue. -/
theorem setRoute_joinQueue_queueLaws (law : QueueLaws s) {c : Circuit} {r : Route}
    (code : r.standing.code = 2 ∨ r.standing.code = 3) (unstranded : s.strandedHas c = false) :
    QueueLaws ((s.setRoute c r).joinQueue c) := by
  refine law.update (c := c) (fun d h => ⟨route_setRoute_ne _ h r, ?_, rfl⟩) ?_
  · simp [queued_joinQueue, h]
  · rw [queued_joinQueue, joinQueue_strandedHas, setRoute_strandedHas, unstranded,
      show ((s.setRoute c r).joinQueue c).route c = r from route_setRoute_self s c r]
    simp [QueueLawAt]
    omega

/-- A circuit out of the queue and the stranded set. -/
theorem not_stranded_of_code (law : QueueLaws s) {c : Circuit}
    (code : (s.route c).standing.code ≠ 5) : s.strandedHas c = false := by
  rw [Bool.eq_false_iff]
  exact fun h => code ((law.at_circuit c).2.2.mp h)

theorem not_queued_of_code (law : QueueLaws s) {c : Circuit}
    (displaced : (s.route c).standing.code ≠ 2) (routed : (s.route c).standing.code ≠ 3) :
    s.queued c = false := by
  rw [Bool.eq_false_iff]
  exact fun h => ((law.at_circuit c).2.1 h).elim displaced routed

/-- R132: the cutover of a STAGED circuit. -/
theorem cutover_sweepLaws (law : QueueLaws s) {c : Circuit} {cur : CurrentSet} {m : StagedSet}
    (staged : (s.route c).standing = .staged cur m) : SweepLaws (s.cutover c cur m) := by
  have unqueued : s.queued c = false :=
    not_queued_of_code law (by simp [staged, Standing.code]) (by simp [staged, Standing.code])
  have unstranded : s.strandedHas c = false :=
    not_stranded_of_code law (by simp [staged, Standing.code])
  have freed : QueueLaws ((s.makeCurrent m.path c).releaseSlot cur.path) := law
  exact QueueLaws.settled (QueueLaws.capacityIf
    (setRoute_queueLaws freed (by simp [unqueued, unstranded, QueueLawAt, Standing.code])) _)

/-- R17, R18: a write IN SERVICE. -/
theorem writeInService_sweepLaws (law : QueueLaws s) (c : Circuit) (f : RouteFields) :
    SweepLaws (s.writeInService c f) := by
  have unstranded (code : (s.route c).standing.code ≠ 5) : s.strandedHas c = false :=
    not_stranded_of_code law code
  cases standing : (s.route c).standing with
  | idle | barred =>
    simp only [writeInService, standing]
    exact (setRoute_joinQueue_queueLaws law (.inl rfl)
      (unstranded (by simp [standing, Standing.code]))).settled
  | stranded =>
    simp only [writeInService, standing]
    refine QueueLaws.settled (law.update (c := c) (fun d h => ⟨route_setRoute_ne _ h _, ?_, ?_⟩) ?_)
    · simp [queued_joinQueue, h]
    · simp [strandedHas_leaveStranded, h]
    · simp [queued_joinQueue, strandedHas_leaveStranded, QueueLawAt, Standing.code]
  | displaced =>
    simp only [writeInService, standing]
    exact QueueLaws.settled (setRoute_queueLaws law (by simpa [standing] using law.at_circuit c))
  | routed cur =>
    simp only [writeInService, standing]
    refine QueueLaws.settled (setRoute_joinQueue_queueLaws law (.inr ?_)
      (unstranded (by simp [standing, Standing.code])))
    rfl
  | staged cur m =>
    simp only [writeInService, standing]
    have freed : QueueLaws (s.releaseSlot m.path) := law
    refine QueueLaws.settled (QueueLaws.capacityIf (setRoute_joinQueue_queueLaws freed (.inr ?_)
      (unstranded (by simp [standing, Standing.code]))) _)
    rfl

/-- R19: a write BARRED or IDLE. -/
theorem writeOutOfService_sweepLaws (law : QueueLaws s) (c : Circuit) (f : RouteFields)
    {x : Standing} (code : x.code < 2) (n : Nat) : SweepLaws (s.writeOutOfService c f x n) := by
  refine QueueLaws.settled (QueueLaws.capacityIf (law.update (c := c) (fun d h => ⟨?_, ?_, ?_⟩) ?_) _)
  · simp [h]
  · simp [queued_leaveQueue, h]
  · simp [strandedHas_leaveStranded, h]
  · simp [queued_leaveQueue, strandedHas_leaveStranded, QueueLawAt]
    omega

theorem writeEntry_sweepLaws (law : QueueLaws s) (c : Circuit) (v : Service) (f : RouteFields) :
    SweepLaws (s.writeEntry c v f) := by
  cases v with
  | inService => exact writeInService_sweepLaws law c f
  | barred => exact writeOutOfService_sweepLaws law c f (x := .barred) (by simp [Standing.code]) _
  | idle => exact writeOutOfService_sweepLaws law c f (x := .idle) (by simp [Standing.code]) _

/-! ## The sweep -/

/-- R113: the ROUTED circuits that a cause picks out join the queue. -/
theorem reviewWhere_sweepLaws (law : QueueLaws s) (picks : CurrentSet → Bool) :
    SweepLaws (s.reviewWhere picks) := by
  refine ⟨(queueLaws_iff _).mpr fun c => ?_, settleSweep_runningLaw _⟩
  obtain ⟨displaced, place, stranded⟩ := law.at_circuit c
  rw [strandedHas_reviewWhere, show (s.reviewWhere picks).route c = s.route c from
    route_congr (by simp) c]
  refine ⟨fun h => (s.queued_reviewWhere picks c).mpr (.inl (displaced h)), fun h => ?_, stranded⟩
  rcases (s.queued_reviewWhere picks c).mp h with queued | ⟨cur, routed, -⟩
  · exact place queued
  · exact .inr (by rw [routed]; rfl)

/-! ### The review of a range (R148), circuit by circuit -/

theorem route_reviewRange (s : State) (tier : Tier) (a b c : Circuit) :
    (s.reviewRange tier a b).route c =
      if s.reviews tier a b c then
        { s.route c with standing := (s.route c).standing.underReview }
      else s.route c := by
  rw [reviewRange, settleSweep_route]
  simp [route]

theorem queued_reviewRange (s : State) (tier : Tier) (a b c : Circuit) :
    (s.reviewRange tier a b).queued c = (s.queued c || s.reviews tier a b c) := by
  rw [reviewRange, queued_settleSweep]
  simp [queued]

theorem strandedHas_reviewRange (s : State) (tier : Tier) (a b c : Circuit) :
    (s.reviewRange tier a b).strandedHas c = (s.strandedHas c && !s.reviews tier a b c) := by
  rw [reviewRange, strandedHas_settleSweep]
  simp [strandedHas]

theorem reviewable_of_reviews {tier : Tier} {a b c : Circuit} (h : s.reviews tier a b c = true) :
    (s.route c).standing.reviewable = true := by
  simp only [reviews, Bool.and_eq_true] at h
  exact h.2

/-- R148: the ROUTED and the STRANDED circuits of a range join the queue. -/
theorem reviewRange_sweepLaws (law : QueueLaws s) (tier : Tier) (a b : Circuit) :
    SweepLaws (s.reviewRange tier a b) := by
  refine ⟨(queueLaws_iff _).mpr fun c => ?_, settleSweep_runningLaw _⟩
  have place := law.at_circuit c
  rw [route_reviewRange, queued_reviewRange, strandedHas_reviewRange]
  cases h : s.reviews tier a b c with
  | false => simpa using place
  | true =>
    have reviewable := reviewable_of_reviews h
    cases standing : (s.route c).standing with
    | routed | stranded =>
      simp [QueueLawAt, Standing.code, Standing.underReview]
    | idle | barred | displaced | staged => simp [standing, Standing.reviewable] at reviewable

/-! ### What an outcome writes (R116 to R121), circuit by circuit -/

@[simp] theorem raiseChainFault_route (c d : Circuit) (f : Option (FaultKind × Desc)) :
    (s.raiseChainFault c f).route d = s.route d :=
  route_congr (raiseChainFault_frame s c f).1 d

@[simp] theorem raiseChainFault_queued (c d : Circuit) (f : Option (FaultKind × Desc)) :
    (s.raiseChainFault c f).queued d = s.queued d := queued_congr (by simp) d

@[simp] theorem raiseChainFault_strandedHas (c d : Circuit) (f : Option (FaultKind × Desc)) :
    (s.raiseChainFault c f).strandedHas d = s.strandedHas d := strandedHas_congr (by simp) d

theorem route_place (s : State) (c d : Circuit) (found : CurrentSet) :
    (s.place c found).route d =
      if d = c then
        { s.route c with
          standing := .routed found
          placed := true
          moves := if (s.route c).placed then bump8 (s.route c).moves else (s.route c).moves }
      else s.route d := by
  simp only [place, route_setRoute, holdSlot_route]

theorem route_strand (s : State) (c d : Circuit) (f : Option (FaultKind × Desc)) :
    (s.strand c f).route d = if d = c then { s.route c with standing := .stranded } else s.route d := by
  simp only [strand, raiseChainFault_route, joinStranded_route, route_setRoute]

theorem route_stage (s : State) (c d : Circuit) (cur found : CurrentSet) :
    (s.stage c cur found).route d =
      if d = c then
        { s.route c with
          standing := .staged cur
            { path := found.path, via := found.via, preferred := found.preferred
              timer := s.param .cleanHoldLimit, seen := false, blockEndPassed := false } }
      else s.route d := by
  simp only [stage, route_setRoute, holdSlot_route]

theorem route_stay (s : State) (c d : Circuit) (cur : CurrentSet) (b : Bool) :
    (s.stay c cur b).route d =
      if d = c then { s.route c with standing := .routed { cur with preferred := b } }
      else s.route d := by
  simp only [stay, route_setRoute]

@[simp] theorem place_sweep (s : State) (c : Circuit) (found : CurrentSet) :
    (s.place c found).sweep = s.sweep := rfl

@[simp] theorem stage_sweep (s : State) (c : Circuit) (cur found : CurrentSet) :
    (s.stage c cur found).sweep = s.sweep := rfl

@[simp] theorem stay_sweep (s : State) (c : Circuit) (cur : CurrentSet) (b : Bool) :
    (s.stay c cur b).sweep = s.sweep := rfl

/-- R119: a move, before the release of the old slot is a capacity event. -/
def moved (s : State) (c : Circuit) (old found : CurrentSet) : State :=
  ((s.holdSlot found.path { circuit := c, role := .current }).releaseSlot old.path).setRoute c
    { s.route c with standing := .routed found, moves := bump8 (s.route c).moves }

theorem movePrompt_eq (s : State) (c : Circuit) (old found : CurrentSet) :
    s.movePrompt c old found = (s.moved c old found).capacityIf (s.inService old.path.port) := rfl

@[simp] theorem moved_sweep (s : State) (c : Circuit) (old found : CurrentSet) :
    (s.moved c old found).sweep = s.sweep := rfl

theorem route_moved (s : State) (c d : Circuit) (old found : CurrentSet) :
    (s.moved c old found).route d =
      if d = c then { s.route c with standing := .routed found, moves := bump8 (s.route c).moves }
      else s.route d := by
  simp only [moved, route_setRoute, releaseSlot_route, holdSlot_route]

/-- A circuit that has left the queue and stands ROUTED or STAGED. -/
theorem queueLaws_of_left (law : QueueLaws s) {t : State} {c : Circuit}
    (unstranded : s.strandedHas c = false) (others : ∀ d, d ≠ c → t.route d = s.route d)
    (sweep : t.sweep = (s.leaveQueue c).sweep)
    (code : (t.route c).standing.code = 3 ∨ (t.route c).standing.code = 4) : QueueLaws t := by
  have queued (d : Circuit) : t.queued d = (decide (d ≠ c) && s.queued d) := by
    rw [queued_congr (t := s.leaveQueue c) (by rw [sweep]), queued_leaveQueue]
  have stranded (d : Circuit) : t.strandedHas d = s.strandedHas d := by
    rw [strandedHas_congr (t := s.leaveQueue c) (by rw [sweep]), leaveQueue_strandedHas]
  refine law.update (c := c) (fun d h => ⟨others d h, by simp [queued, h], stranded d⟩) ?_
  rw [queued, stranded, unstranded]
  simp [QueueLawAt]
  omega

/-- R115 to R121: the outcome of a resolution, for a circuit that has left the queue. -/
theorem applyOutcome_queueLaws (law : QueueLaws s) {c : Circuit} (queued : s.queued c = true)
    (x : Resolved) : QueueLaws ((s.leaveQueue c).applyOutcome c x) := by
  have unstranded : s.strandedHas c = false := law.not_stranded_of_queued queued
  have stay (cur : CurrentSet) (b : Bool) : QueueLaws ((s.leaveQueue c).stay c cur b) :=
    queueLaws_of_left law unstranded (fun d h => by simp [route_stay, h]) rfl
      (.inl (by simp [route_stay, Standing.code]))
  have place := law.at_circuit c
  cases standing : (s.route c).standing with
  | displaced =>
    cases x with
    | result found =>
      simp only [applyOutcome, leaveQueue_route, standing]
      exact queueLaws_of_left law unstranded (fun d h => by simp [route_place, h]) (by simp)
        (.inl (by simp [route_place, Standing.code]))
    | failure fault =>
      simp only [applyOutcome, leaveQueue_route, standing]
      refine law.update (c := c) (fun d h => ⟨by simp [route_strand, h], ?_, ?_⟩) ?_
      · simp [strand, queued_leaveQueue, h]
      · simp [strand, strandedHas_joinStranded, h]
      · rw [route_strand]
        simp [strand, queued_leaveQueue, strandedHas_joinStranded, QueueLawAt, Standing.code]
  | routed cur =>
    cases x with
    | failure fault =>
      simp only [applyOutcome, leaveQueue_route, standing]
      exact (stay cur false).of_same (fun d => by rw [raiseChainFault_route]) (by simp)
    | result found =>
      simp only [applyOutcome, leaveQueue_route, standing]
      split_ifs
      · exact stay _ _
      · cases (s.route c).fields.discipline with
        | prompt =>
          refine QueueLaws.capacityIf (s := (s.leaveQueue c).moved c cur found) ?_ _
          exact queueLaws_of_left law unstranded (fun d h => by simp [route_moved, h])
            (moved_sweep _ _ _ _) (.inl (by simp [route_moved, Standing.code]))
        | clean =>
          exact queueLaws_of_left law unstranded (fun d h => by simp [route_stage, h]) (by simp)
            (.inr (by simp [route_stage, Standing.code]))
  | idle | barred | staged | stranded =>
    simp [standing, Standing.code, QueueLawAt, queued] at place

/-! ## The departure of a port (R13) -/

theorem portDeparture_sweepLaws (law : QueueLaws s) (p : Port) : SweepLaws (s.portDeparture p) := by
  refine ⟨(queueLaws_iff _).mpr fun c => ?_, settleSweep_runningLaw _⟩
  have place := law.at_circuit c
  rw [route_portDeparture, queued_portDeparture, strandedHas_portDeparture]
  cases standing : (s.route c).standing with
  | idle | barred | displaced | stranded =>
    simpa [departRoute, departJoins, standing] using place
  | routed cur =>
    rw [standing] at place
    by_cases h : cur.path.port = p
    · simp_all [departRoute, departJoins, QueueLawAt, Standing.code]
    · simpa [departRoute, departJoins, standing, h] using place
  | staged cur m =>
    rw [standing] at place
    by_cases h : cur.path.port = p <;> by_cases h' : m.path.port = p <;>
      simp_all [departRoute, departJoins, QueueLawAt, Standing.code]

end State

end Sys2Proof.Machine
end

section
/-! R110 and R111 as a law of every event, and so of every step. -/

namespace Sys2Proof.Machine

namespace State

variable {s : State}

/-- R12, R126: a capacity event, settled, from a state that has the routes and the sweep of a lawful one. -/
theorem capacity_sweepLaws (law : QueueLaws s) {t : State} (routes : t.routes = s.routes)
    (sweep : t.sweep = s.sweep) : SweepLaws t.capacityEvent.settleSweep :=
  (law.of_same (fun c => by rw [route_congr routes]) (by rw [sweep]; exact ⟨rfl, rfl⟩)).capacityEvent.settled

theorem enterUp_sweepLaws (law : QueueLaws s) (p : Port) : SweepLaws (s.enterUp p) := by
  unfold enterUp
  refine capacity_sweepLaws law ?_ ?_ <;> rfl

theorem fresh_sweepLaws (straps : Straps) (lines : LineMeasures) (l : List Instr) :
    SweepLaws (State.fresh straps lines l) := by
  refine ⟨fun c => ?_, ?_⟩ <;>
    simp [fresh, RunningLaw, queued, strandedHas, route, Route.reset, Sweep.reset]

theorem tickStanding_code (x : Standing) : (tickStanding x).code = x.code := by
  cases x <;> rfl

theorem markSeen_code (x : Standing) : (markSeen x).code = x.code := by
  cases x <;> rfl

theorem setStationLost_code (s : State) (k : Trunk) (b : Bool) (c : Circuit) :
    ((s.setStationLost k b).route c).standing.code = (s.route c).standing.code := by
  have entry : (s.setStationLost k b).route c =
      if trunkOf c = k then { s.route c with stationLost := b } else s.route c := by
    simp [setStationLost, route]
  rw [entry]
  split <;> rfl

theorem stationOctet_code (s : State) (c d : Circuit) (o : Octet) :
    ((s.stationOctet c o).route d).standing.code = (s.route d).standing.code := by
  have mark (u : State) : ((u.markBlockEnd c o).route d).standing.code = (u.route d).standing.code := by
    unfold markBlockEnd
    split
    · split
      · rw [route_setRoute]
        split_ifs with h
        · simp [Standing.code, *]
        · rfl
      · rfl
    · rfl
  unfold stationOctet
  split
  · split
    · rfl
    · exact mark _
  · rfl

theorem trunkOctet_code (s : State) (k : Trunk) (o : Octet) (c : Circuit) :
    ((s.trunkOctet k o).route c).standing.code = (s.route c).standing.code := by
  have moved (f : Framer) (b : Bool) : (((s.setTrunk k f).setStationLost k b).route c).standing.code =
      (s.route c).standing.code := setStationLost_code _ k b c
  cases state : (s.trunk k).state with
  | noSignal => simp only [trunkOctet, state]
  | hunting =>
    simp only [trunkOctet, state]
    split
    · exact moved _ _
    · rfl
  | aligned =>
    simp only [trunkOctet, state]
    split
    · unfold trunkAlignment
      dsimp only
      split_ifs
      · rfl
      · rfl
      · exact moved _ _
    · exact stationOctet_code _ _ c o

theorem trunkLosOnset_code (s : State) (k : Trunk) (c : Circuit) :
    ((s.trunkLosOnset k).route c).standing.code = (s.route c).standing.code := by
  unfold trunkLosOnset
  dsimp only
  split
  · rfl
  · rfl
  · exact setStationLost_code _ k true c

theorem queued_of_front {c : Circuit} {rest : List Circuit} (front : s.sweepQueue = c :: rest) :
    s.queued c = true := by
  have member : c ∈ s.sweepQueue := by rw [front]; exact List.mem_cons_self
  simp only [sweepQueue, List.mem_flatMap, List.mem_filter, Bool.and_eq_true] at member
  obtain ⟨k, -, -, queued, -⟩ := member
  exact queued

theorem walkStep_sweep (s : State) (o : WalkOrder) :
    (s.walkStep o).sweep =
      (s.applyStep o
        (circuitAt (o.trunkOfStep (s.walker.written + s.walker.skipped))
          (o.slotOfStep (s.walker.written + s.walker.skipped)))
        (o.slotOfStep (s.walker.written + s.walker.skipped))).sweep := by
  unfold walkStep
  dsimp only
  split <;> simp

theorem walkStep_sweepLaws (laws : SweepLaws s) (o : WalkOrder) : SweepLaws (s.walkStep o) := by
  refine SweepLaws.of_same ?_ (s.walkStep_routes o) (s.walkStep_sweep o)
  unfold applyStep
  dsimp only
  split
  · exact writeEntry_sweepLaws laws.1 _ _ _
  · exact laws

end State

theorem Move.sweepLaws {guarded looping : Prop} {s t : State} (m : Move guarded looping s t)
    (laws : SweepLaws s) : SweepLaws t := by
  cases m with
  | record | change | checker | handed => exact laws
  | depart =>
    unfold State.departed
    dsimp only
    split <;> exact State.portDeparture_sweepLaws
      (laws.1.of_same (fun c => by rw [State.route_congr (t := s) (by simp)]) (by simp)) _
  | enterSuspect | latches | takeProbe => exact laws.of_same (by simp) (by simp)
  | @enterUp p q => exact State.enterUp_sweepLaws (s := s.setPort p { s.port p with q := q }) laws.1 p

theorem Moves.sweepLaws {guarded looping : Prop} {s t : State} (m : Moves guarded looping s t)
    (laws : SweepLaws s) : SweepLaws t :=
  m.keep (fun m h => m.sweepLaws h) laws

/-- Every event keeps the laws of the sweep queue and the stranded set. -/
theorem Event.sweepLaws {s t : State} (e : Event s t) (laws : SweepLaws s) : SweepLaws t := by
  cases e with
  | fresh => exact State.fresh_sweepLaws _ _ _
  | millisecond =>
    exact laws.of_codes (fun c => by simp [State.millisecond, State.route, State.tickStanding_code])
      (by simp)
  | beginFrame =>
    exact laws.of_codes (fun c => by simp [State.beginFrame, State.route, State.markSeen_code])
      (by simp)
  | trunkOctet k o => exact laws.of_codes (s.trunkOctet_code k o) (by simp)
  | trunkLosOnset k => exact laws.of_codes (s.trunkLosOnset_code k) (by simp)
  | cutover staged => exact State.cutover_sweepLaws laws.1 staged
  | reviewWhere picks => exact State.reviewWhere_sweepLaws laws.1 picks
  | resolution front =>
    refine (State.applyOutcome_queueLaws laws.1 ?_ _).settled
    exact State.queued_of_front front
  | writeEntry => exact State.writeEntry_sweepLaws laws.1 _ _ _
  | reviewRange => exact State.reviewRange_sweepLaws laws.1 _ _ _
  | writeDescriptor =>
    unfold State.writeDescriptor
    exact State.capacity_sweepLaws laws.1 (by simp) (by simp)
  | walkStep => exact State.walkStep_sweepLaws laws _
  | storeCeiling =>
    unfold State.storeCeiling
    dsimp only
    split
    · exact State.capacity_sweepLaws laws.1 (by simp) (by simp)
    · exact laws
  | monitor moves _ => exact (moves False False.elim).sweepLaws laws
  | loopbackOn p ready =>
    exact ((s.loopPort_moves (guarded := False) p ready False.elim).sweepLaws laws).of_same
      (by simp) (by simp)
  | responseSent sent =>
    rcases responseSent_cases sent with same | ⟨body, rest, -, -, same⟩
    · rwa [same]
    · rw [same]; exact laws
  | handed | time | exch | pathRx | dropEnded | holdStops | failBackStops | startWalk | hostRecord |
    trunkLosEnd => exact laws
  | _ => exact laws.of_same (by simp) (by simp)

end Sys2Proof.Machine

section
open Sys2Proof Sys2Proof.Machine

/-- Settles O56: each event keeps the laws, and a step is a sequence of events. -/
theorem stepKeepsSweepLaws : Obligations.StepKeepsSweepLaws := fun _ _ laws =>
  step_keeps Event.sweepLaws (fun _ _ => id) laws
end
end

section
/-! The laws of the occupancy map (R9, R13): what holding and freeing a slot does to the map and the used counts, and
the laws through an operation on one circuit. -/

namespace Sys2Proof.Machine

/-! ## The slots held of a port -/

theorem heldSlots_eq_card (s : State) (p : Port) :
    heldSlots s p = (Finset.univ.filter fun n : Slot => (s.holder ⟨p, n⟩).isSome = true).card := by
  rw [heldSlots, ← List.toFinset_card_of_nodup ((List.nodup_finRange 30).filter _)]
  congr 1
  ext n
  simp

theorem heldSlots_congr {s t : State} {p : Port}
    (same : ∀ n, (t.holder ⟨p, n⟩).isSome = (s.holder ⟨p, n⟩).isSome) :
    heldSlots t p = heldSlots s p := by
  simp only [heldSlots, same]

/-- One more slot of a port is held. -/
theorem heldSlots_hold {s t : State} {q : PathSlot} (free : s.holder q = none)
    (held : (t.holder q).isSome = true) (others : ∀ x, x ≠ q → t.holder x = s.holder x) (p : Port) :
    heldSlots t p = heldSlots s p + if p = q.port then 1 else 0 := by
  obtain ⟨p', n'⟩ := q
  by_cases h : p = p'
  · subst h
    have more : (Finset.univ.filter fun n : Slot => (t.holder ⟨p, n⟩).isSome = true) =
        insert n' (Finset.univ.filter fun n : Slot => (s.holder ⟨p, n⟩).isSome = true) := by
      ext n
      by_cases hn : n = n'
      · subst hn; simpa using held
      · simp [hn, others ⟨p, n⟩ (by simp [hn])]
    rw [heldSlots_eq_card, heldSlots_eq_card, more, Finset.card_insert_of_notMem (by simp [free])]
    simp
  · rw [if_neg h, Nat.add_zero]
    exact heldSlots_congr fun n => by rw [others ⟨p, n⟩ (by simp [h])]

/-- One slot fewer of a port is held. -/
theorem heldSlots_free {s t : State} {q : PathSlot} (held : (s.holder q).isSome = true)
    (free : t.holder q = none) (others : ∀ x, x ≠ q → t.holder x = s.holder x) (p : Port) :
    heldSlots t p = heldSlots s p - if p = q.port then 1 else 0 := by
  have := heldSlots_hold free held (fun x hx => (others x hx).symm) p
  omega

namespace State

variable {s : State}

/-! ## The used counts (R10, R11) -/

theorem holdSlot_countsAgree (law : CountsAgree s) {q : PathSlot} (free : s.holder q = none)
    (h : Holder) : CountsAgree (s.holdSlot q h) := fun p => by
  rw [usedCount_holdSlot, law p,
    heldSlots_hold (t := s.holdSlot q h) free (by simp [holder_holdSlot])
      (fun x hx => by simp [holder_holdSlot, hx])]

theorem releaseSlot_countsAgree (law : CountsAgree s) {q : PathSlot}
    (held : (s.holder q).isSome = true) : CountsAgree (s.releaseSlot q) := fun p => by
  rw [usedCount_releaseSlot, law p,
    heldSlots_free (t := s.releaseSlot q) held (by simp [holder_releaseSlot])
      (fun x hx => by simp [holder_releaseSlot, hx])]

theorem makeCurrent_countsAgree (law : CountsAgree s) {q : PathSlot}
    (held : (s.holder q).isSome = true) (c : Circuit) : CountsAgree (s.makeCurrent q c) := fun p => by
  rw [show (s.makeCurrent q c).usedCount p = s.usedCount p from rfl, law p]
  refine (heldSlots_congr fun n => ?_).symm
  rw [holder_makeCurrent]
  split_ifs with h
  · rw [h, held]; rfl
  · rfl

end State

theorem CountsAgree.of_same {s t : State} (law : CountsAgree s) (occ : t.occ = s.occ)
    (used : t.used = s.used) : CountsAgree t := fun p => by
  rw [State.usedCount_congr used, law p]
  exact (heldSlots_congr fun n => by rw [State.holder_congr occ]).symm

/-! ## The map through an operation on one circuit -/

/-- R9 of one circuit. -/
def HoldsOwn (s : State) (c : Circuit) : Prop :=
  ∀ q : PathSlot,
    (s.holder q = some ⟨c, .current⟩ ↔ (s.route c).standing.currentPath = some q) ∧
    (s.holder q = some ⟨c, .staged⟩ ↔ (s.route c).standing.stagedPath = some q)

theorem mapAgrees_iff (s : State) : MapAgrees s ↔ ∀ c, HoldsOwn s c :=
  ⟨fun law c q => law c q.port q.slot, fun law c p n => law c ⟨p, n⟩⟩

namespace MapAgrees

variable {s t : State}

theorem at_circuit (law : MapAgrees s) (c : Circuit) : HoldsOwn s c := (mapAgrees_iff s).mp law c

/-- An operation on one circuit, and on slots that only it holds or takes. -/
theorem update (law : MapAgrees s) {c : Circuit}
    (others : ∀ d, d ≠ c → (t.route d).standing.currentPath = (s.route d).standing.currentPath ∧
      (t.route d).standing.stagedPath = (s.route d).standing.stagedPath)
    (away : ∀ q h, h.circuit ≠ c → (t.holder q = some h ↔ s.holder q = some h))
    (self : HoldsOwn t c) : MapAgrees t := by
  rw [mapAgrees_iff]
  intro d q
  by_cases h : d = c
  · rw [h]; exact self q
  · obtain ⟨current, staged⟩ := others d h
    rw [current, staged, away q ⟨d, .current⟩ h, away q ⟨d, .staged⟩ h]
    exact law.at_circuit d q

theorem of_same (law : MapAgrees s)
    (paths : ∀ c, (t.route c).standing.currentPath = (s.route c).standing.currentPath ∧
      (t.route c).standing.stagedPath = (s.route c).standing.stagedPath)
    (occ : t.occ = s.occ) : MapAgrees t := by
  rw [mapAgrees_iff]
  intro c q
  rw [(paths c).1, (paths c).2, State.holder_congr occ]
  exact law.at_circuit c q

/-- A STAGED circuit holds two slots. -/
theorem staged_ne (law : MapAgrees s) {c : Circuit} {cur : CurrentSet} {m : StagedSet}
    (staged : (s.route c).standing = .staged cur m) : m.path ≠ cur.path := by
  intro same
  have current := (law.at_circuit c cur.path).1.mpr (by rw [staged]; rfl)
  have moving := (law.at_circuit c cur.path).2.mpr (by rw [staged, ← same]; rfl)
  rw [current] at moving
  cases moving

theorem current_held (law : MapAgrees s) {c : Circuit} {q : PathSlot}
    (path : (s.route c).standing.currentPath = some q) : s.holder q = some ⟨c, .current⟩ :=
  (law.at_circuit c q).1.mpr path

theorem staged_held (law : MapAgrees s) {c : Circuit} {q : PathSlot}
    (path : (s.route c).standing.stagedPath = some q) : s.holder q = some ⟨c, .staged⟩ :=
  (law.at_circuit c q).2.mpr path

end MapAgrees

/-! ## The three laws through an operation that holds and frees nothing -/

theorem SlotLaws.of_same {s t : State} (laws : SlotLaws s)
    (paths : ∀ c, (t.route c).standing.currentPath = (s.route c).standing.currentPath ∧
      (t.route c).standing.stagedPath = (s.route c).standing.stagedPath)
    (occ : t.occ = s.occ) (used : t.used = s.used)
    (service : ∀ p, s.inService p = true → t.inService p = true) : SlotLaws t := by
  obtain ⟨map, counts, held⟩ := laws
  refine ⟨map.of_same paths occ, counts.of_same occ used, fun p n h => service p (held p n ?_)⟩
  rwa [← State.holder_congr occ]

theorem SlotLaws.of_routes {s t : State} (laws : SlotLaws s) (routes : t.routes = s.routes)
    (occ : t.occ = s.occ) (used : t.used = s.used)
    (service : ∀ p, s.inService p = true → t.inService p = true) : SlotLaws t :=
  laws.of_same (fun c => by rw [State.route_congr routes]; exact ⟨rfl, rfl⟩) occ used service

theorem SlotLaws.of_tables {s t : State} (laws : SlotLaws s) (routes : t.routes = s.routes)
    (occ : t.occ = s.occ) (used : t.used = s.used) (ports : t.ports = s.ports) : SlotLaws t :=
  laws.of_routes routes occ used fun p h => by rwa [State.inService, State.port_congr ports]

end Sys2Proof.Machine
end

section
/-! The laws of the occupancy map (R9, R13) through the operations of the route store and the sweep. -/

namespace Sys2Proof.Machine

/-- R117: a circuit of the stranded set holds no slot. -/
def StrandedHoldNone (s : State) : Prop :=
  ∀ c, s.strandedHas c = true →
    (s.route c).standing.currentPath = none ∧ (s.route c).standing.stagedPath = none

theorem QueueLaws.strandedHoldNone {s : State} (law : QueueLaws s) : StrandedHoldNone s := fun c h => by
  rw [(law c).2.2.mp h]
  exact ⟨rfl, rfl⟩

/-- An operation on a circuit that is not stranded. -/
theorem StrandedHoldNone.update {s t : State} (law : StrandedHoldNone s) {c : Circuit}
    (routes : ∀ d, d ≠ c → t.route d = s.route d) (same : ∀ d, t.strandedHas d = s.strandedHas d)
    (unstranded : s.strandedHas c = false) : StrandedHoldNone t := fun d h => by
  rw [same] at h
  have other : d ≠ c := by
    rintro rfl
    rw [unstranded] at h
    cases h
  rw [routes d other]
  exact law d h

theorem HeldInService.sub {s t : State} (law : HeldInService s) (ports : t.ports = s.ports)
    (sub : ∀ q, (t.holder q).isSome = true → (s.holder q).isSome = true ∨ s.inService q.port = true) :
    HeldInService t := fun p n h => by
  rw [State.inService, State.port_congr ports]
  exact (sub ⟨p, n⟩ h).elim (law p n) id

namespace State

variable {s : State}

/-! ## Capacity events and the settling of the sweep -/

theorem capacityEvent_slotLaws (laws : SlotLaws s) (none : StrandedHoldNone s) :
    SlotLaws s.capacityEvent := by
  refine laws.of_same (fun c => ?_) (by simp) (by simp)
    (fun p h => by rwa [inService, port_congr (t := s) (by simp)])
  rw [route_capacityEvent]
  split_ifs with h
  · obtain ⟨current, staged⟩ := none c h
    rw [current, staged]
    exact ⟨rfl, rfl⟩
  · exact ⟨rfl, rfl⟩

theorem capacityIf_slotLaws (laws : SlotLaws s) (none : StrandedHoldNone s) (b : Bool) :
    SlotLaws (s.capacityIf b) := by
  cases b
  · exact laws
  · exact capacityEvent_slotLaws laws none

theorem settleSweep_slotLaws (laws : SlotLaws s) : SlotLaws s.settleSweep :=
  laws.of_routes (by simp) (by simp) (by simp)
    fun p h => by rwa [inService, port_congr (t := s) (by simp)]

/-! ## Slots that change hands -/

theorem holder_releaseAll (s : State) (l : List PathSlot) (q : PathSlot) :
    (s.releaseAll l).holder q = if q ∈ l then none else s.holder q := by
  induction l generalizing s with
  | nil => rfl
  | cons x l ih =>
    rw [releaseAll, List.foldl_cons]
    refine (ih (s.releaseSlot x)).trans ?_
    rw [holder_releaseSlot]
    by_cases h : q = x <;> by_cases h' : q ∈ l <;> simp [h, h']

theorem releaseAll_countsAgree (law : CountsAgree s) {l : List PathSlot} (nodup : l.Nodup)
    (held : ∀ q ∈ l, (s.holder q).isSome = true) : CountsAgree (s.releaseAll l) := by
  induction l generalizing s with
  | nil => exact law
  | cons x l ih =>
    obtain ⟨fresh, nodup⟩ := List.nodup_cons.mp nodup
    refine ih (releaseSlot_countsAgree law (held x List.mem_cons_self)) nodup fun q hq => ?_
    rw [holder_releaseSlot, if_neg (fun h : q = x => fresh (h ▸ hq))]
    exact held q (List.mem_cons_of_mem x hq)

/-- The slots of a route entry are its paths. -/
theorem mem_slots {x : Standing} {q : PathSlot} :
    q ∈ x.slots ↔ x.currentPath = some q ∨ x.stagedPath = some q := by
  cases x <;> simp [Standing.slots, Standing.currentPath, Standing.stagedPath, eq_comm]

theorem slots_held (law : MapAgrees s) {c : Circuit} {q : PathSlot}
    (slot : q ∈ (s.route c).standing.slots) : ∃ role, s.holder q = some ⟨c, role⟩ :=
  (mem_slots.mp slot).elim (fun h => ⟨_, law.current_held h⟩) fun h => ⟨_, law.staged_held h⟩

theorem slots_nodup (law : MapAgrees s) (c : Circuit) : (s.route c).standing.slots.Nodup := by
  cases standing : (s.route c).standing with
  | staged cur m => simpa [Standing.slots] using (law.staged_ne standing).symm
  | _ => simp [Standing.slots]

/-- R19: a circuit that gives up some of its own slots, and keeps the others. -/
theorem release_slotLaws (laws : SlotLaws s) {c : Circuit} {l : List PathSlot} {r : Route}
    (nodup : l.Nodup) (own : ∀ q ∈ l, q ∈ (s.route c).standing.slots)
    (current : ∀ q, r.standing.currentPath = some q ↔
      (s.route c).standing.currentPath = some q ∧ q ∉ l)
    (staged : ∀ q, r.standing.stagedPath = some q ↔
      (s.route c).standing.stagedPath = some q ∧ q ∉ l) :
    SlotLaws ((s.releaseAll l).setRoute c r) := by
  obtain ⟨map, counts, held⟩ := laws
  have holder (q : PathSlot) : ((s.releaseAll l).setRoute c r).holder q =
      if q ∈ l then none else s.holder q := by rw [setRoute_holder, holder_releaseAll]
  refine ⟨map.update (c := c) (fun d h => ?_) (fun q h other => ?_) (fun q => ?_), ?_,
    held.sub (by simp) fun q h => ?_⟩
  · rw [route_setRoute_ne _ h, releaseAll_route]
    exact ⟨rfl, rfl⟩
  · rw [holder]
    split_ifs with mem
    · obtain ⟨role, own⟩ := slots_held map (own q mem)
      simp only [own, false_iff, Option.some.injEq]
      rintro rfl
      exact other rfl
    · exact Iff.rfl
  · obtain ⟨hcur, hstaged⟩ := map.at_circuit c q
    rw [holder, route_setRoute_self, current q, staged q, ← hcur, ← hstaged]
    split_ifs with mem <;> simp [mem]
  · exact (releaseAll_countsAgree counts nodup fun q mem => by
      obtain ⟨role, own⟩ := slots_held map (own q mem)
      rw [own]; rfl).of_same rfl rfl
  · rw [holder] at h
    split_ifs at h
    · cases h
    · exact .inl h

/-- R10: a circuit that takes a free slot of a port in service, in a role in which it holds none. -/
theorem hold_slotLaws (laws : SlotLaws s) {c : Circuit} {q : PathSlot} {role : Role} {r : Route}
    (free : s.holder q = none) (service : s.inService q.port = true)
    (current : ∀ x, r.standing.currentPath = some x ↔
      (s.route c).standing.currentPath = some x ∨ role = .current ∧ x = q)
    (staged : ∀ x, r.standing.stagedPath = some x ↔
      (s.route c).standing.stagedPath = some x ∨ role = .staged ∧ x = q) :
    SlotLaws ((s.holdSlot q ⟨c, role⟩).setRoute c r) := by
  obtain ⟨map, counts, held⟩ := laws
  have holder (x : PathSlot) : ((s.holdSlot q ⟨c, role⟩).setRoute c r).holder x =
      if x = q then some ⟨c, role⟩ else s.holder x := by rw [setRoute_holder, holder_holdSlot]
  refine ⟨map.update (c := c) (fun d h => ?_) (fun x h other => ?_) (fun x => ?_), ?_,
    held.sub (by simp) fun x h => ?_⟩
  · rw [route_setRoute_ne _ h, holdSlot_route]
    exact ⟨rfl, rfl⟩
  · rw [holder]
    split_ifs with same
    · rw [same, free]
      simp only [Option.some.injEq, reduceCtorEq, iff_false]
      rintro rfl
      exact other rfl
    · exact Iff.rfl
  · obtain ⟨hcur, hstaged⟩ := map.at_circuit c x
    rw [holder, route_setRoute_self, current x, staged x, ← hcur, ← hstaged]
    split_ifs with same
    · subst same; simp [free]
    · simp [same]
  · exact (holdSlot_countsAgree counts free _).of_same rfl rfl
  · rw [holder] at h
    split_ifs at h with same
    · exact .inr (by rw [same]; exact service)
    · exact .inl h

/-- R119, R132: a circuit's current path is freed, and a slot that no other circuit holds becomes its only one. -/
theorem swap_slotLaws (laws : SlotLaws s) {t : State} {c : Circuit} {old new : PathSlot}
    (current : (s.route c).standing.currentPath = some old)
    (staged : ∀ q, (s.route c).standing.stagedPath = some q → q = new) (differ : new ≠ old)
    (own : ∀ h, s.holder new = some h → h.circuit = c) (service : s.inService new.port = true)
    (others : ∀ d, d ≠ c → t.route d = s.route d)
    (after : (t.route c).standing.currentPath = some new ∧ (t.route c).standing.stagedPath = none)
    (holder : ∀ x, t.holder x =
      if x = old then none else if x = new then some ⟨c, .current⟩ else s.holder x)
    (counts : CountsAgree t) (ports : t.ports = s.ports) : SlotLaws t := by
  obtain ⟨map, -, held⟩ := laws
  have oldHeld := map.current_held current
  refine ⟨map.update (c := c) (fun d h => ?_) (fun x h other => ?_) (fun x => ?_), counts,
    held.sub ports fun x h => ?_⟩
  · rw [others d h]
    exact ⟨rfl, rfl⟩
  · rw [holder]
    split_ifs with isOld isNew
    · rw [isOld, oldHeld]
      simp only [Option.some.injEq, false_iff]
      rintro rfl
      exact other rfl
    · rw [isNew]
      simp only [Option.some.injEq]
      constructor
      · rintro rfl
        exact absurd rfl other
      · exact fun h' => absurd (own h h') other
    · exact Iff.rfl
  · rw [holder, after.1, after.2]
    split_ifs with isOld isNew
    · subst isOld; simp [differ]
    · subst isNew; simp
    · obtain ⟨hcur, hstaged⟩ := map.at_circuit c x
      rw [hcur, hstaged, current]
      refine ⟨by simp [Ne.symm isOld, Ne.symm isNew], ?_⟩
      simp only [iff_false]
      exact fun h => isNew (staged x h)
  · rw [holder] at h
    split_ifs at h with isOld isNew
    · cases h
    · exact .inr (by rw [isNew]; exact service)
    · exact .inl h

/-- R132: the cutover of a STAGED circuit. -/
theorem cutover_slotLaws (laws : SlotLaws s) (none : StrandedHoldNone s) {c : Circuit}
    {cur : CurrentSet} {m : StagedSet} (unstranded : s.strandedHas c = false)
    (standing : (s.route c).standing = .staged cur m) : SlotLaws (s.cutover c cur m) := by
  have mHeld : s.holder m.path = some ⟨c, .staged⟩ :=
    laws.1.staged_held (by rw [standing]; rfl)
  have curHeld : s.holder cur.path = some ⟨c, .current⟩ :=
    laws.1.current_held (by rw [standing]; rfl)
  have differ := laws.1.staged_ne standing
  refine settleSweep_slotLaws (capacityIf_slotLaws ?_ ?_ _)
  · refine swap_slotLaws laws (c := c) (old := cur.path) (new := m.path)
      (by rw [standing]; rfl) (fun q h => ?_) differ (fun h held => ?_) ?_
      (fun d h => ?_) ?_ (fun x => ?_) ?_ (by simp)
    · simpa [standing, Standing.stagedPath, eq_comm] using h
    · rw [mHeld] at held
      cases held
      rfl
    · exact laws.2.2 m.path.port m.path.slot (by rw [mHeld]; rfl)
    · rw [route_setRoute_ne _ h, releaseSlot_route, makeCurrent_route]
    · rw [route_setRoute_self]
      exact ⟨rfl, rfl⟩
    · rw [setRoute_holder, holder_releaseSlot, holder_makeCurrent]
    · refine CountsAgree.of_same (releaseSlot_countsAgree (makeCurrent_countsAgree laws.2.1
        (q := m.path) (by rw [mHeld]; rfl) c) (q := cur.path) ?_) rfl rfl
      rw [holder_makeCurrent, if_neg differ.symm, curHeld]
      rfl
  · exact none.update (fun d h => route_setRoute_ne _ h _) (fun _ => rfl) unstranded

/-! ## The outcome of a resolution (R116 to R121) -/

theorem moved_slotLaws (laws : SlotLaws s) {c : Circuit} {cur found : CurrentSet}
    (standing : (s.route c).standing = .routed cur) (differ : found.path ≠ cur.path)
    (free : s.holder found.path = none) (service : s.inService found.path.port = true) :
    SlotLaws (s.moved c cur found) := by
  have curHeld : s.holder cur.path = some ⟨c, .current⟩ :=
    laws.1.current_held (by rw [standing]; rfl)
  refine swap_slotLaws laws (c := c) (old := cur.path) (new := found.path)
    (by rw [standing]; rfl) (fun q h => ?_) differ (fun h held => ?_) service
    (fun d h => by simp [route_moved, h]) (by simp [route_moved, Standing.currentPath, Standing.stagedPath])
    (fun x => ?_) ?_ (by simp [moved])
  · rw [standing] at h
    cases h
  · rw [free] at held
    cases held
  · rw [moved, setRoute_holder, holder_releaseSlot, holder_holdSlot]
  · refine CountsAgree.of_same (releaseSlot_countsAgree (holdSlot_countsAgree laws.2.1 free
      ⟨c, .current⟩) (q := cur.path) ?_) rfl rfl
    rw [holder_holdSlot, if_neg differ.symm, curHeld]
    rfl

/-- R119: a ROUTED circuit of discipline PROMPT is moved. -/
theorem movePrompt_slotLaws (laws : SlotLaws s) (none : StrandedHoldNone s) {c : Circuit}
    {cur found : CurrentSet} (standing : (s.route c).standing = .routed cur)
    (unstranded : s.strandedHas c = false) (differ : found.path ≠ cur.path)
    (free : s.holder found.path = .none) (service : s.inService found.path.port = true) :
    SlotLaws (s.movePrompt c cur found) := by
  rw [movePrompt_eq]
  exact capacityIf_slotLaws (moved_slotLaws laws standing differ free service)
    (none.update (c := c) (fun d h => by simp [route_moved, h])
      (fun d => strandedHas_congr (by simp) d) unstranded) _

/-- R120: a ROUTED circuit of discipline CLEAN is staged. -/
theorem stage_slotLaws (laws : SlotLaws s) {c : Circuit} {cur found : CurrentSet}
    (standing : (s.route c).standing = .routed cur) (free : s.holder found.path = none)
    (service : s.inService found.path.port = true) : SlotLaws (s.stage c cur found) := by
  unfold stage
  refine hold_slotLaws laws free service (fun x => ?_) fun x => ?_
  · simp [standing, Standing.currentPath]
  · simp [standing, Standing.stagedPath, eq_comm]

/-- R116: a DISPLACED circuit is placed. -/
theorem place_slotLaws (laws : SlotLaws s) {c : Circuit} {found : CurrentSet}
    (standing : (s.route c).standing = .displaced) (free : s.holder found.path = none)
    (service : s.inService found.path.port = true) : SlotLaws (s.place c found) := by
  unfold place
  refine hold_slotLaws laws free service (fun x => ?_) fun x => ?_
  · simp [standing, Standing.currentPath, eq_comm]
  · simp [standing, Standing.stagedPath]

theorem stay_slotLaws (laws : SlotLaws s) {c : Circuit} {cur : CurrentSet}
    (standing : (s.route c).standing = .routed cur) (b : Bool) : SlotLaws (s.stay c cur b) := by
  refine laws.of_same (fun d => ?_) rfl rfl fun _ => id
  rw [route_stay]
  split_ifs with h
  · rw [h, standing]; exact ⟨rfl, rfl⟩
  · exact ⟨rfl, rfl⟩

theorem raiseChainFault_slotLaws (laws : SlotLaws s) (c : Circuit) (f : Option (FaultKind × Desc)) :
    SlotLaws (s.raiseChainFault c f) :=
  laws.of_routes (by simp) (by simp) (by simp)
    fun p h => by rwa [inService, port_congr (t := s) (by simp)]

/-- R35: a slot is free, or the circuit's own as CURRENT. -/
theorem slotFreeFor_iff (s : State) (c : Circuit) (q : PathSlot) :
    s.slotFreeFor c q = true ↔ s.holder q = none ∨ s.holder q = some ⟨c, .current⟩ := by
  unfold slotFreeFor
  cases s.holder q <;> simp

/-- R36: the port has room, or the circuit's current path is on it. -/
theorem hasRoom_iff (s : State) (c : Circuit) (p : Port) :
    s.hasRoom c p = true ↔ s.usedCount p < (s.port p).ceiling ∨
      ∃ q, (s.route c).standing.currentPath = some q ∧ q.port = p := by
  unfold hasRoom
  cases (s.route c).standing.currentPath <;> simp

/-- R34: the port is in service in either pass. -/
theorem inService_of_portAccepts {pass : Pass} {p : Port} (h : s.portAccepts pass p = true) :
    s.inService p = true := by
  cases pass with
  | first =>
    obtain ⟨up, -⟩ : (s.port p).state = .up ∧ _ := by simpa [portAccepts] using h
    rw [inService, up]
    rfl
  | second => exact h

/-- R27 to R40: what a resolution finds is usable in one of its passes, through a PATH descriptor that the circuit
may use. -/
theorem usable_of_resolve {c : Circuit} {found : CurrentSet} (result : s.resolve c = .result found) :
    ∃ pass, s.usable pass c found.path = true ∧
      (∃ rule alternative, (s.desc found.via).kind = .path found.path.port rule alternative) ∧
      (s.desc found.via).withdrawn = false ∧
      (s.desc found.via).tier ≤ (s.route c).fields.tier ∧
      (found.preferred = true → pass = .first) := by
  obtain ⟨pass, first, run, preferred⟩ := s.resolve_result result
  unfold runPass at run
  split at run
  · cases run
  · obtain ⟨usable, kind, live, tier⟩ := s.walk_result pass c 8 _ run
    exact ⟨pass, usable, kind, live, tier, preferred⟩

theorem found_inService {c : Circuit} {found : CurrentSet} (result : s.resolve c = .result found) :
    s.inService found.path.port = true := by
  obtain ⟨pass, usable, -⟩ := usable_of_resolve result
  simp only [State.usable, Bool.and_eq_true] at usable
  exact inService_of_portAccepts usable.1.1

/-- R35: a slot found on another path than the circuit's own is free. -/
theorem free_of_found (map : MapAgrees s) {c : Circuit} {found : CurrentSet}
    (result : s.resolve c = .result found)
    (differ : (s.route c).standing.currentPath ≠ some found.path) : s.holder found.path = none := by
  obtain ⟨pass, usable, -⟩ := usable_of_resolve result
  simp only [State.usable, Bool.and_eq_true] at usable
  obtain free | own := (slotFreeFor_iff s c found.path).mp usable.1.2
  · exact free
  · exact absurd ((map.at_circuit c found.path).1.mp own) differ

/-- R116 to R121: an outcome applied to its circuit, when what it has found is free and in service. -/
theorem applyOutcome_slotLaws_of_found (laws : SlotLaws s) (none : StrandedHoldNone s) {c : Circuit}
    {x : Resolved} (unstranded : s.strandedHas c = false)
    (free : ∀ found, x = .result found → (s.route c).standing.currentPath ≠ some found.path →
      s.holder found.path = .none)
    (service : ∀ found, x = .result found → s.inService found.path.port = true) :
    SlotLaws (s.applyOutcome c x) := by
  cases standing : (s.route c).standing with
  | displaced =>
    cases x with
    | result found =>
      simp only [applyOutcome, standing]
      exact place_slotLaws laws standing (free found rfl (by simp [standing, Standing.currentPath]))
        (service found rfl)
    | failure fault =>
      simp only [applyOutcome, standing]
      refine laws.of_same (fun d => ?_) (by simp) (by simp)
        fun p h => by rwa [inService, port_congr (t := s) (by simp)]
      rw [route_strand]
      split_ifs with h
      · simp [h, standing, Standing.currentPath, Standing.stagedPath]
      · exact ⟨rfl, rfl⟩
  | routed cur =>
    cases x with
    | failure fault =>
      simp only [applyOutcome, standing]
      exact raiseChainFault_slotLaws (stay_slotLaws laws standing false) _ _
    | result found =>
      simp only [applyOutcome, standing]
      split_ifs with same
      · exact stay_slotLaws laws standing _
      · have free' := free found rfl (by simpa [standing, Standing.currentPath, eq_comm] using same)
        cases (s.route c).fields.discipline with
        | prompt =>
          change SlotLaws (s.movePrompt c cur found)
          exact movePrompt_slotLaws laws none standing unstranded same free' (service found rfl)
        | clean =>
          change SlotLaws (s.stage c cur found)
          exact stage_slotLaws laws standing free' (service found rfl)
  | idle | barred | staged | stranded =>
    simp only [applyOutcome, standing]
    exact laws

/-- R115 to R121: the outcome of the resolution of a circuit that was in the queue. -/
theorem applyOutcome_slotLaws (laws : SlotLaws s) (queue : QueueLaws s) {c : Circuit}
    (queued : s.queued c = true) : SlotLaws ((s.leaveQueue c).applyOutcome c (s.resolve c)) := by
  have left : SlotLaws (s.leaveQueue c) := laws
  have none : StrandedHoldNone (s.leaveQueue c) := queue.strandedHoldNone
  have holder (q : PathSlot) : (s.leaveQueue c).holder q = s.holder q := rfl
  have service (p : Port) : (s.leaveQueue c).inService p = s.inService p := rfl
  refine applyOutcome_slotLaws_of_found left none ?_ (fun found result differ => ?_)
    fun found result => ?_
  · rw [leaveQueue_strandedHas]
    exact queue.not_stranded_of_queued queued
  · rw [holder]
    exact free_of_found laws.1 result differ
  · rw [service]
    exact found_inService result

end State

end Sys2Proof.Machine
end

section
/-! The laws of the occupancy map (R9, R13) through writes of a route entry and through the departure of a port. -/

namespace Sys2Proof.Machine.State

variable {s : State}

/-! ## Writes of an entry (R17 to R19) -/

theorem writeInService_slotLaws (laws : SlotLaws s) (none : StrandedHoldNone s)
    {c : Circuit} (unstranded : s.strandedHas c = true → (s.route c).standing = .stranded)
    (f : RouteFields) : SlotLaws (s.writeInService c f) := by
  /- a standing with the same paths, and what follows in the sweep -/
  have same {r : Route} {t : State} (current : r.standing.currentPath = (s.route c).standing.currentPath)
      (staged : r.standing.stagedPath = (s.route c).standing.stagedPath)
      (routes : t.routes = (s.setRoute c r).routes) (occ : t.occ = s.occ) (used : t.used = s.used)
      (ports : t.ports = s.ports) : SlotLaws t := by
    refine laws.of_same (fun d => ?_) occ used fun p h => by rwa [inService, port_congr ports]
    rw [route_congr routes, route_setRoute]
    split_ifs with h
    · rw [h]; exact ⟨current, staged⟩
    · exact ⟨rfl, rfl⟩
  cases standing : (s.route c).standing with
  | idle | barred =>
    simp only [writeInService, standing]
    refine settleSweep_slotLaws (same (by rw [standing]; rfl) (by rw [standing]; rfl)
      (joinQueue_frame _ _).1 ?_ ?_ ?_) <;> simp
  | stranded =>
    simp only [writeInService, standing]
    refine settleSweep_slotLaws (same (by rw [standing]; rfl) (by rw [standing]; rfl)
      (joinQueue_frame _ _).1 ?_ ?_ ?_) <;> simp
  | displaced =>
    simp only [writeInService, standing]
    exact settleSweep_slotLaws (same (by rw [standing]) (by rw [standing]) rfl rfl rfl rfl)
  | routed cur =>
    simp only [writeInService, standing]
    refine settleSweep_slotLaws (same (by rw [standing]) (by rw [standing])
      (joinQueue_frame _ _).1 ?_ ?_ ?_) <;> simp
  | staged cur m =>
    have differ := laws.1.staged_ne standing
    have freed : SlotLaws ((s.releaseSlot m.path).setRoute c
        { s.route c with fields := f, standing := .routed cur }) := by
      refine release_slotLaws laws (l := [m.path]) (by simp) ?_ (fun q => ?_) fun q => ?_
      · simp [standing, Standing.slots]
      · simp only [standing, Standing.currentPath, Option.some.injEq, List.mem_singleton]
        exact ⟨fun h => ⟨h, by rw [← h]; exact differ.symm⟩, fun h => h.1⟩
      · simp only [standing, Standing.stagedPath, Option.some.injEq, List.mem_singleton, reduceCtorEq,
          false_iff, not_and, not_not]
        exact fun h => h.symm
    simp only [writeInService, standing]
    refine settleSweep_slotLaws (capacityIf_slotLaws ?_ ?_ _)
    · exact freed.of_tables (by simp) (by simp) (by simp) (by simp)
    · refine none.update (c := c) (fun d h => route_setRoute_ne _ h _) (fun d => by simp) ?_
      rw [Bool.eq_false_iff]
      exact fun h => absurd (standing ▸ unstranded h) (by simp)

theorem writeOutOfService_slotLaws (laws : SlotLaws s) (none : StrandedHoldNone s) (c : Circuit)
    (f : RouteFields) {x : Standing} (paths : x.currentPath = .none ∧ x.stagedPath = .none) (n : Nat) :
    SlotLaws (s.writeOutOfService c f x n) := by
  have freed : SlotLaws ((s.releaseAll (s.route c).standing.slots).setRoute c
      { s.route c with fields := f, standing := x, moves := n }) := by
    refine release_slotLaws laws (slots_nodup laws.1 c) (fun q => id) (fun q => ?_) fun q => ?_
    · rw [paths.1, mem_slots]
      simp only [reduceCtorEq, false_iff, not_and, not_not]
      exact .inl
    · rw [paths.2, mem_slots]
      simp only [reduceCtorEq, false_iff, not_and, not_not]
      exact .inr
  refine settleSweep_slotLaws (capacityIf_slotLaws ?_ (fun d h => ?_) _)
  · exact freed.of_tables (by simp) (by simp) (by simp) (by simp)
  rw [strandedHas_leaveStranded] at h
  have other : d ≠ c := by
    rintro rfl
    simp at h
  have stranded : s.strandedHas d = true := by simpa [other] using h
  simpa [other] using none d stranded

theorem writeEntry_slotLaws (laws : SlotLaws s) (queue : QueueLaws s) (c : Circuit) (v : Service)
    (f : RouteFields) : SlotLaws (s.writeEntry c v f) := by
  have none := queue.strandedHoldNone
  cases v with
  | inService => exact writeInService_slotLaws laws none (queue c).2.2.mp f
  | barred => exact writeOutOfService_slotLaws laws none c f (x := .barred) ⟨rfl, rfl⟩ _
  | idle => exact writeOutOfService_slotLaws laws none c f (x := .idle) ⟨rfl, rfl⟩ _

/-- R148: a review moves no circuit off its slots. -/
theorem reviewRange_slotLaws (laws : SlotLaws s) (tier : Tier) (a b : Circuit) :
    SlotLaws (s.reviewRange tier a b) := by
  refine laws.of_same (fun c => ?_) (by simp) (by simp)
    fun p h => by rwa [inService, port_congr (t := s) (by simp)]
  rw [route_reviewRange]
  split_ifs
  · cases h : (s.route c).standing <;> exact ⟨rfl, rfl⟩
  · exact ⟨rfl, rfl⟩

/-! ## The departure of a port (R13, R134, R135) -/

/-- R13: who holds a slot as CURRENT once a port has departed. -/
theorem departSlot_eq_current (p : Port) (q : PathSlot) (c : Circuit) :
    s.departSlot p q = some ⟨c, .current⟩ ↔ q.port ≠ p ∧
      (s.holder q = some ⟨c, .current⟩ ∨
        s.holder q = some ⟨c, .staged⟩ ∧ departCutsOver p (s.route c) = true) := by
  unfold departSlot
  split_ifs with h
  · simp [h]
  · rcases hq : s.holder q with _ | ⟨d, role⟩
    · simp
    · cases role <;> by_cases cut : departCutsOver p (s.route d) = true <;>
        simp only [Option.map_some, cut, if_true, Bool.false_eq_true, if_false, Option.some.injEq,
          Holder.mk.injEq, and_true, reduceCtorEq, and_false, false_and, or_false, false_or, ne_eq, h,
          not_false_eq_true, true_and, false_iff, iff_self_and, not_and] <;>
        (rintro rfl; exact cut)

theorem departSlot_eq_staged (p : Port) (q : PathSlot) (c : Circuit) :
    s.departSlot p q = some ⟨c, .staged⟩ ↔ q.port ≠ p ∧
      s.holder q = some ⟨c, .staged⟩ ∧ departCutsOver p (s.route c) = false := by
  unfold departSlot
  split_ifs with h
  · simp [h]
  · rcases hq : s.holder q with _ | ⟨d, role⟩
    · simp
    · cases role <;> by_cases cut : departCutsOver p (s.route d) = true <;>
        simp only [Option.map_some, cut, if_true, Bool.false_eq_true, if_false, Option.some.injEq,
          Holder.mk.injEq, and_true, reduceCtorEq, and_false, false_and, ne_eq, h,
          not_false_eq_true, true_and, false_iff, iff_self_and, not_and, Bool.not_eq_false] <;>
        (rintro rfl; simpa using cut)

/-- R13, R134, R135: a circuit's own slots, once a port has departed. -/
theorem portDeparture_holdsOwn (map : MapAgrees s) (p : Port) (c : Circuit) :
    HoldsOwn (s.portDeparture p) c := fun q => by
  obtain ⟨current, staged⟩ := map.at_circuit c q
  rw [holder_portDeparture, route_portDeparture, departSlot_eq_current, departSlot_eq_staged,
    current, staged]
  cases standing : (s.route c).standing with
  | idle | barred | displaced | stranded =>
    simp [departRoute, departCutsOver, standing, Standing.currentPath, Standing.stagedPath]
  | routed cur =>
    by_cases h : cur.path.port = p
    · simp only [departRoute, departCutsOver, standing, h, Standing.currentPath, Standing.stagedPath,
        Option.some.injEq]
      refine ⟨?_, by simp⟩
      simp only [reduceCtorEq, if_true, false_and, or_false, iff_false, not_and]
      rintro other rfl
      exact other h
    · simp only [departRoute, departCutsOver, standing, h, Standing.currentPath, Standing.stagedPath,
        Option.some.injEq]
      refine ⟨?_, by simp [standing]⟩
      simp only [reduceCtorEq, if_false, false_and, or_false, standing, Option.some.injEq,
        and_iff_right_iff_imp]
      rintro rfl
      exact h
  | staged cur m =>
    have differ := map.staged_ne standing
    by_cases h : cur.path.port = p <;> by_cases h' : m.path.port = p <;>
      simp [departRoute, departCutsOver, standing, h, h', Standing.currentPath, Standing.stagedPath,
        StagedSet.asCurrent] <;> grind

theorem portDeparture_slotLaws {p : Port} (map : MapAgrees s) (counts : CountsAgree s)
    (held : ∀ q : PathSlot, q.port ≠ p → (s.holder q).isSome = true → s.inService q.port = true) :
    SlotLaws (s.portDeparture p) := by
  have isSome (q : PathSlot) : ((s.portDeparture p).holder q).isSome =
      (decide (q.port ≠ p) && (s.holder q).isSome) := by
    rw [holder_portDeparture, departSlot]
    split_ifs with h
    · simp [h]
    · simp [h]
  refine ⟨(mapAgrees_iff _).mpr (portDeparture_holdsOwn map p), fun q => ?_, fun q n h => ?_⟩
  · rw [usedCount_portDeparture, counts q]
    simp only [heldSlots, isSome]
    split_ifs with h <;> simp [h]
  · simp only [isSome, Bool.and_eq_true, decide_eq_true_eq] at h
    rw [inService, portDeparture_port]
    exact held ⟨q, n⟩ h.1 h.2

/-! ## The moves of the health monitor -/

/-- R13: a port that holds no slot, or stays in service, has its record written. -/
theorem setPort_slotLaws (laws : SlotLaws s) {p : Port} {r : PortRecord}
    (service : s.inService p = true → r.state.inService = true) : SlotLaws (s.setPort p r) :=
  laws.of_routes rfl rfl rfl fun q h => by
    rw [inService, port_setPort]
    split_ifs with same
    · exact service (same ▸ h)
    · exact h

theorem departed_slotLaws (laws : SlotLaws s) (p : Port) (x : PortState) :
    SlotLaws (s.departed p x) := by
  obtain ⟨map, counts, held⟩ := laws
  unfold departed
  dsimp only
  have first {t : State} (routes : t.routes = s.routes) (occ : t.occ = s.occ) (used : t.used = s.used)
      (ports : ∀ q, q ≠ p → t.port q = s.port q) : SlotLaws (t.portDeparture p) := by
    refine portDeparture_slotLaws (map.of_same (fun c => ?_) occ) (counts.of_same occ used)
      fun q other h => ?_
    · rw [route_congr routes]; exact ⟨rfl, rfl⟩
    · rw [inService, ports _ other]
      exact held q.port q.slot (by rwa [holder_congr occ] at h)
  split <;> exact first (by simp) (by simp) (by simp) fun q h => by simp [h]

theorem enterUp_slotLaws (laws : SlotLaws s) (none : StrandedHoldNone s) (p : Port) :
    SlotLaws (s.enterUp p) := by
  unfold enterUp
  refine settleSweep_slotLaws (capacityEvent_slotLaws ?_ ?_)
  · refine SlotLaws.of_tables (s := s.setPort p
      { s.port p with
        state := .up
        failBack := if s.isOn .failBackEnable then some (s.param .failBackDelay) else .none })
      (setPort_slotLaws laws fun _ => rfl) ?_ ?_ ?_ ?_ <;> simp
  · exact none

end Sys2Proof.Machine.State

namespace Sys2Proof.Machine

/-- R13: the laws through a move, when an entry that is taken was of a port that awaited its probe. -/
theorem Move.slotLaws {looping : Prop} {s t : State} (m : Move True looping s t)
    (queue : QueueLaws s) (laws : SlotLaws s) : SlotLaws t := by
  cases m with
  | record state =>
    exact State.setPort_slotLaws laws fun h => by rwa [state]
  | change before =>
    exact State.setPort_slotLaws laws fun h => by rw [before] at h; cases h
  | depart => exact State.departed_slotLaws laws _ _
  | @enterSuspect p before =>
    refine laws.of_routes (by simp) (by simp) (by simp) fun q h => ?_
    rw [State.inService, State.enterSuspect_port]
    split_ifs
    · rfl
    · exact h
  | @enterUp p q =>
    have kept : SlotLaws (s.setPort p { s.port p with q := q }) := State.setPort_slotLaws laws id
    exact State.enterUp_slotLaws kept queue.strandedHoldNone p
  | checker | handed => exact laws
  | takeProbe guard =>
    cases idle : s.checker.state with
    | seeding e | counting e => rwa [s.takeProbe_of_busy (by simp [idle])]
    | idle =>
      cases front : s.checker.queue with
      | nil => rwa [s.takeProbe_of_empty front]
      | cons e rest =>
        refine laws.of_routes (by simp) (by simp) (by simp) fun p h => ?_
        rw [s.takeProbe_of_entry idle front]
        cases kind : e.kind with
        | demand => exact h
        | recovery =>
          have awaits := guard trivial e rest front kind
          have other : p ≠ e.port := by
            rintro rfl
            rw [State.inService, awaits] at h
            cases h
          simpa [State.inService, State.port, Fin.val_ne_of_ne other.symm] using h
  | latches => exact laws.of_tables (by simp) (by simp) (by simp) (by simp)

theorem Moves.slotLaws {looping : Prop} {s t : State} (m : Moves True looping s t)
    (sweep : SweepLaws s) (laws : SlotLaws s) : SweepLaws t ∧ SlotLaws t :=
  m.keep (P := fun u => SweepLaws u ∧ SlotLaws u)
    (fun m h => ⟨m.sweepLaws h.1, m.slotLaws h.1.1 h.2⟩) ⟨sweep, laws⟩

end Sys2Proof.Machine
end

section
/-! The laws of the occupancy map (R9, R13) as laws of every event, and the number of slots held. -/

namespace Sys2Proof.Machine

namespace State

variable {s : State}

theorem fresh_slotLaws (straps : Straps) (lines : LineMeasures) (l : List Instr) :
    SlotLaws (State.fresh straps lines l) := by
  have free (q : PathSlot) : (State.fresh straps lines l).holder q = none := by simp [fresh, holder]
  have idle (c : Circuit) : ((State.fresh straps lines l).route c).standing = .idle := by
    simp [fresh, route, Route.reset]
  refine ⟨fun c p n => ?_, fun p => ?_, fun p n h => ?_⟩
  · rw [free, idle]
    exact ⟨⟨nofun, nofun⟩, ⟨nofun, nofun⟩⟩
  · have none : heldSlots (State.fresh straps lines l) p = 0 := by simp only [heldSlots, free]; rfl
    rw [none]
    simp [usedCount, fresh]
  · rw [free] at h
    cases h

theorem paths_tickStanding (x : Standing) :
    (tickStanding x).currentPath = x.currentPath ∧ (tickStanding x).stagedPath = x.stagedPath := by
  cases x <;> exact ⟨rfl, rfl⟩

theorem paths_markSeen (x : Standing) :
    (markSeen x).currentPath = x.currentPath ∧ (markSeen x).stagedPath = x.stagedPath := by
  cases x <;> exact ⟨rfl, rfl⟩

theorem setStationLost_paths (s : State) (k : Trunk) (b : Bool) (c : Circuit) :
    ((s.setStationLost k b).route c).standing = (s.route c).standing := by
  have entry : (s.setStationLost k b).route c =
      if trunkOf c = k then { s.route c with stationLost := b } else s.route c := by
    simp [setStationLost, route]
  rw [entry]
  split <;> rfl

/-- The paths of a circuit, through an operation. -/
def KeepsPaths (s t : State) : Prop :=
  ∀ c, (t.route c).standing.currentPath = (s.route c).standing.currentPath ∧
    (t.route c).standing.stagedPath = (s.route c).standing.stagedPath

theorem stationOctet_keepsPaths (s : State) (c : Circuit) (o : Octet) :
    KeepsPaths s (s.stationOctet c o) := by
  have mark (u : State) : KeepsPaths u (u.markBlockEnd c o) := fun d => by
    unfold markBlockEnd
    split
    · split
      · rw [route_setRoute]
        split_ifs with h
        · subst h
          simp [Standing.currentPath, Standing.stagedPath, *]
        · exact ⟨rfl, rfl⟩
      · exact ⟨rfl, rfl⟩
    · exact ⟨rfl, rfl⟩
  unfold stationOctet
  split
  · split
    · exact fun _ => ⟨rfl, rfl⟩
    · exact mark _
  · exact fun _ => ⟨rfl, rfl⟩

theorem trunkOctet_keepsPaths (s : State) (k : Trunk) (o : Octet) :
    KeepsPaths s (s.trunkOctet k o) := fun c => by
  have moved (f : Framer) (b : Bool) :
      (((s.setTrunk k f).setStationLost k b).route c).standing = (s.route c).standing :=
    setStationLost_paths _ k b c
  cases state : (s.trunk k).state with
  | noSignal => simp only [trunkOctet, state]; exact ⟨trivial, trivial⟩
  | hunting =>
    simp only [trunkOctet, state]
    split
    · rw [moved]; exact ⟨rfl, rfl⟩
    · exact ⟨rfl, rfl⟩
  | aligned =>
    simp only [trunkOctet, state]
    split
    · unfold trunkAlignment
      dsimp only
      split_ifs
      · exact ⟨rfl, rfl⟩
      · exact ⟨rfl, rfl⟩
      · rw [moved]; exact ⟨rfl, rfl⟩
    · exact stationOctet_keepsPaths _ _ o c

theorem trunkLosOnset_keepsPaths (s : State) (k : Trunk) : KeepsPaths s (s.trunkLosOnset k) := fun c => by
  unfold trunkLosOnset
  dsimp only
  split
  · exact ⟨rfl, rfl⟩
  · exact ⟨rfl, rfl⟩
  · rw [setStationLost_paths]; exact ⟨rfl, rfl⟩

theorem not_inService_of_looped {p : Port} (looped : (s.port p).state.looped = true) :
    s.inService p = false := by
  obtain ⟨ready, v, state⟩ := looped_iff.mp looped
  rw [inService, state]
  rfl

theorem acceptRecord_inService (s : State) (p q : Port) (body : List Octet) :
    (s.acceptRecord p body).inService q = s.inService q := by
  rw [inService, acceptRecord_port_state, inService]

/-- R12, R126: a capacity event, settled, from a state with the tables of a lawful one. -/
theorem capacity_slotLaws (queue : QueueLaws s) {t : State} (laws : SlotLaws t)
    (routes : t.routes = s.routes) (sweep : t.sweep = s.sweep) :
    SlotLaws t.capacityEvent.settleSweep := by
  refine settleSweep_slotLaws (capacityEvent_slotLaws laws fun c h => ?_)
  rw [strandedHas_congr (t := s) (by rw [sweep])] at h
  rw [route_congr routes]
  exact queue.strandedHoldNone c h

theorem walkStep_slotLaws (queue : QueueLaws s) (laws : SlotLaws s) (o : WalkOrder) :
    SlotLaws (s.walkStep o) := by
  have step (c : Circuit) (i : StationSlot) : SlotLaws (s.applyStep o c i) := by
    unfold applyStep
    dsimp only
    split
    · exact writeEntry_slotLaws laws queue _ _ _
    · exact laws
  have ended (u : State) (w : Walker) (h : SlotLaws u) : SlotLaws ((u.setWalker w).endWalk true) := h
  unfold walkStep
  dsimp only
  split
  · exact ended _ _ (step _ _)
  · exact step _ _

theorem storeCeiling_slotLaws (queue : QueueLaws s) (laws : SlotLaws s) (p : Port) (n : Nat) :
    SlotLaws (s.storeCeiling p n) := by
  have stored (r : PortRecord) (state : r.state = (s.port p).state) : SlotLaws (s.setPort p r) :=
    setPort_slotLaws laws fun h => by rwa [state]
  unfold storeCeiling
  dsimp only
  split
  · exact capacity_slotLaws queue (stored _ rfl) rfl rfl
  · exact stored _ rfl

end State

/-- The laws of the occupancy map through every event. -/
theorem Event.slotLaws {s t : State} (e : Event s t) (sweep : SweepLaws s) (probe : ProbeLaws s)
    (laws : SlotLaws s) : SlotLaws t := by
  cases e with
  | fresh => exact State.fresh_slotLaws _ _ _
  | millisecond =>
    exact laws.of_same (fun c => by simpa [State.millisecond, State.route] using State.paths_tickStanding _)
      (by simp) (by simp) (fun p h => by simpa [State.millisecond, State.inService, State.port] using h)
  | beginFrame =>
    exact laws.of_same (fun c => by simpa [State.beginFrame, State.route] using State.paths_markSeen _)
      (by simp) (by simp) (fun p h => by rwa [State.inService, State.port_congr (t := s) (by simp)])
  | trunkOctet k o =>
    exact laws.of_same (s.trunkOctet_keepsPaths k o) (by simp) (by simp)
      (fun p h => by rwa [State.inService, State.port_congr (t := s) (by simp)])
  | trunkLosOnset k =>
    exact laws.of_same (s.trunkLosOnset_keepsPaths k) (by simp) (by simp)
      (fun p h => by rwa [State.inService, State.port_congr (t := s) (by simp)])
  | @cutover c cur m staged =>
    refine State.cutover_slotLaws laws sweep.1.strandedHoldNone ?_ staged
    exact State.not_stranded_of_code sweep.1 (by simp [staged, Standing.code])
  | resolution front =>
    exact State.settleSweep_slotLaws
      (State.applyOutcome_slotLaws laws sweep.1 (State.queued_of_front front))
  | writeEntry => exact State.writeEntry_slotLaws laws sweep.1 _ _ _
  | reviewRange => exact State.reviewRange_slotLaws laws _ _ _
  | writeDescriptor =>
    unfold State.writeDescriptor
    exact State.capacity_slotLaws sweep.1 (laws.of_tables (by simp) (by simp) (by simp) (by simp))
      (by simp) (by simp)
  | walkStep => exact State.walkStep_slotLaws sweep.1 laws _
  | storeCeiling => exact State.storeCeiling_slotLaws sweep.1 laws _ _
  | acceptRecord body =>
    exact laws.of_routes (by simp) (by simp) (by simp)
      fun p h => by rw [State.acceptRecord_inService]; exact h
  | failBackStops => exact State.setPort_slotLaws laws id
  | monitor moves _ => exact ((moves True fun _ => probe.core).slotLaws sweep laws).2
  | loopbackOn p ready =>
    have moves := (s.loopPort_moves (guarded := True) p ready fun _ => probe.core).trans
      (State.beginTest_moves _ p)
    exact (moves.slotLaws sweep laws).2.of_tables (by simp) (by simp) (by simp) (by simp)
  | @leaveLoop p r looped after timer fits =>
    have moves := s.setPort_cancelProbe_moves (guarded := True) (looping := True) (p := p) (r := r)
      (fun _ => probe.core) (State.not_inService_of_looped looped)
      (by rcases after with h | h <;> rw [h] <;> rfl) (fun _ => .inl trivial) timer fits
    exact (moves.slotLaws sweep laws).2.of_tables (by simp) (by simp) (by simp) (by simp)
  | responseSent sent =>
    rcases responseSent_cases sent with same | ⟨body, rest, -, -, same⟩
    · rwa [same]
    · rw [same]; exact laws
  | handed | time | exch | pathRx | dropEnded | holdStops | startWalk | hostRecord | trunkLosEnd =>
    exact laws
  | _ => exact laws.of_tables (by simp) (by simp) (by simp) (by simp)

end Sys2Proof.Machine
end

section
/-! The number of slots held (R9), and the obligation on the laws of the occupancy map. -/

namespace Sys2Proof.Machine

theorem length_filter_finRange {n : Nat} (f : Fin n → Bool) :
    ((List.finRange n).filter f).length = (Finset.univ.filter fun i => f i = true).card := by
  rw [← List.toFinset_card_of_nodup ((List.nodup_finRange n).filter _)]
  congr 1
  ext i
  simp

/-- The slots held in a role are as many as the circuits with a path in that role. -/
theorem card_held_in_role {s : State} {role : Role} {path : Circuit → Option PathSlot}
    (agrees : ∀ c q, s.holder q = some ⟨c, role⟩ ↔ path c = some q) :
    (Finset.univ.filter fun x : Port × Slot =>
      (s.holder ⟨x.1, x.2⟩).map Holder.role = some role).card =
    (Finset.univ.filter fun c : Circuit => (path c).isSome = true).card := by
  symm
  refine Finset.card_bij (fun c h => (((path c).get (by simpa using h)).port,
    ((path c).get (by simpa using h)).slot)) (fun c h => ?_) (fun c h d h' same => ?_) fun x h => ?_
  · obtain ⟨q, hq⟩ := Option.isSome_iff_exists.mp (Finset.mem_filter.mp h).2
    simp [hq, (agrees c q).mpr hq]
  · obtain ⟨q, hq⟩ := Option.isSome_iff_exists.mp (Finset.mem_filter.mp h).2
    obtain ⟨q', hq'⟩ := Option.isSome_iff_exists.mp (Finset.mem_filter.mp h').2
    have paths : q = q' := by
      obtain ⟨p, n⟩ := q
      obtain ⟨p', n'⟩ := q'
      simpa [hq, hq'] using same
    have holder := (agrees c q).mpr hq
    rw [paths, (agrees d q').mpr hq'] at holder
    simpa using holder.symm
  · obtain ⟨⟨c, r⟩, held, same⟩ := Option.map_eq_some_iff.mp (Finset.mem_filter.mp h).2
    obtain rfl : r = role := same
    have hq := (agrees c _).mp held
    exact ⟨c, by simp [hq], by simp [hq]⟩

/-- R9: the used counts of all ports sum to the current paths and the staged ones. -/
theorem usedCount_sum {s : State} (laws : SlotLaws s) :
    (allPorts.map s.usedCount).sum =
      (allCircuits.filter fun c => ((s.route c).standing.currentPath).isSome).length +
      (allCircuits.filter fun c => ((s.route c).standing.stagedPath).isSome).length := by
  obtain ⟨map, counts, -⟩ := laws
  have held (x : Port × Slot) : (if (s.holder ⟨x.1, x.2⟩).isSome = true then 1 else 0) =
      (if (s.holder ⟨x.1, x.2⟩).map Holder.role = some .current then 1 else 0) +
      (if (s.holder ⟨x.1, x.2⟩).map Holder.role = some .staged then 1 else 0) := by
    rcases s.holder ⟨x.1, x.2⟩ with _ | ⟨c, role⟩
    · rfl
    · cases role <;> rfl
  calc (allPorts.map s.usedCount).sum
      = ∑ p : Port, ∑ n : Slot, if (s.holder ⟨p, n⟩).isSome = true then 1 else 0 := by
        rw [Fin.sum_univ_def]
        refine congrArg List.sum (List.map_congr_left fun p _ => ?_)
        rw [counts p, heldSlots_eq_card, Finset.card_filter]
    _ = ∑ x : Port × Slot, if (s.holder ⟨x.1, x.2⟩).isSome = true then 1 else 0 := by
        rw [Fintype.sum_prod_type]
    _ = _ := by
        simp only [held, Finset.sum_add_distrib]
        rw [← Finset.card_filter, ← Finset.card_filter,
          card_held_in_role fun c q => (map.at_circuit c q).1,
          card_held_in_role fun c q => (map.at_circuit c q).2]
        simp only [allCircuits, length_filter_finRange]

theorem usedCount_le {s : State} (counts : CountsAgree s) (p : Port) : s.usedCount p ≤ 30 := by
  rw [counts p]
  exact (List.length_filter_le _ _).trans_eq (List.length_finRange)

end Sys2Proof.Machine

section
open Sys2Proof Sys2Proof.Machine

/-- Settles O55: each event keeps the laws, given those of the sweep and of the probes, which it keeps too; and by
the laws the slots held of all ports are the paths of all circuits. -/
theorem stepKeepsSlotLaws : Obligations.StepKeepsSlotLaws := by
  refine ⟨fun s s' sweep probe laws run => ?_, fun s laws =>
    ⟨usedCount_sum laws, usedCount_le laws.2.1⟩⟩
  exact (step_keeps (P := fun u => SweepLaws u ∧ ProbeLaws u ∧ SlotLaws u)
    (fun e ⟨sweep, probe, laws⟩ =>
      ⟨e.sweepLaws sweep, e.probeLaws probe, e.slotLaws sweep probe laws⟩)
    (fun _ _ => id) ⟨sweep, probe, laws⟩ run).2.2
end
end

section
/-! The laws of the control slots, the request engine and a reset in hand (R162 to R164, R172), kept by every event. -/

namespace Sys2Proof.Machine

/-! ## Serving (R58) -/

/-- A port that serves its control slot goes on serving it. -/
def KeepsServing (s t : State) : Prop := ∀ p, s.serving p = true → t.serving p = true

theorem KeepsServing.of_states {s t : State}
    (rx : ∀ p, (s.pathRx p).framer.state = .aligned → (t.pathRx p).framer.state = .aligned)
    (line : ∀ p, (s.port p).state.looped = false → (t.port p).state.looped = false) :
    KeepsServing s t := fun p h => by
  simp only [State.serving, Bool.and_eq_true, decide_eq_true_eq, Bool.not_eq_true'] at h ⊢
  exact ⟨rx p h.1, line p h.2⟩

theorem State.pathRx_congr {s t : State} (h : s.rx = t.rx) (p : Port) : s.pathRx p = t.pathRx p := by
  simp [State.pathRx, h]

theorem KeepsServing.of_line {s t : State} (rx : t.rx = s.rx)
    (line : ∀ p, (s.port p).state.looped = false → (t.port p).state.looped = false) :
    KeepsServing s t :=
  .of_states (fun p h => by rwa [State.pathRx_congr rx]) line

theorem KeepsServing.of_tables {s t : State} (rx : t.rx = s.rx) (ports : t.ports = s.ports) :
    KeepsServing s t :=
  .of_line rx fun p h => by rwa [State.port_congr ports]

/-! ## The moves of the health monitor leave the control slots as they are -/

theorem Move.slots {guarded looping : Prop} {s t : State} (m : Move guarded looping s t) :
    t.ctl = s.ctl ∧ t.engine = s.engine ∧ t.rx = s.rx := by
  cases m with
  | record | change | checker | handed => exact ⟨rfl, rfl, rfl⟩
  | depart =>
    unfold State.departed
    dsimp only
    split <;> simp
  | enterSuspect | latches | takeProbe | enterUp => simp

theorem Moves.slots {guarded looping : Prop} {s t : State} (m : Moves guarded looping s t) :
    t.ctl = s.ctl ∧ t.engine = s.engine ∧ t.rx = s.rx :=
  m.keep (P := fun u => u.ctl = s.ctl ∧ u.engine = s.engine ∧ u.rx = s.rx)
    (fun m ⟨ctl, engine, rx⟩ => ⟨m.slots.1.trans ctl, m.slots.2.1.trans engine, m.slots.2.2.trans rx⟩)
    ⟨rfl, rfl, rfl⟩

namespace State

variable {s : State}

/-- R85: a cancellation takes no other port into LOOPBACK. -/
theorem cancelProbe_line (s : State) (p : Port) {q : Port} (line : (s.port q).state.looped = false) :
    ((s.cancelProbe p).port q).state.looped = false := by
  unfold cancelProbe
  split
  · rcases takeProbe_port (s.setChecker s.checker.toIdle) q with same | probing
    · rw [same]; exact line
    · rw [probing]; rfl
  · exact line

theorem leaveService_line {p : Port} (x : PortState) {q : Port} (other : q ≠ p)
    (line : (s.port q).state.looped = false) : ((s.leaveService p x).port q).state.looped = false := by
  rw [leaveService_eq, latchIfLost_port]
  exact cancelProbe_line _ p (by simpa [other] using line)

theorem setPort_cancelProbe_line {p : Port} (r : PortRecord) {q : Port} (other : q ≠ p)
    (line : (s.port q).state.looped = false) :
    (((s.setPort p r).cancelProbe p).port q).state.looped = false :=
  cancelProbe_line _ p (by rwa [port_setPort_ne _ other])

theorem loopPort_line {p : Port} (ready : Bool) {q : Port} (other : q ≠ p)
    (line : (s.port q).state.looped = false) : ((s.loopPort p ready).port q).state.looped = false := by
  unfold loopPort
  split
  · exact leaveService_line _ other line
  · exact leaveService_line _ other line
  · exact setPort_cancelProbe_line _ other line

end State

/-! ## The laws, port by port -/

namespace ControlLaws

variable {s t : State}

/-- What the laws say about the port of a record, a request or a response in hand: it serves. -/
theorem serving_of_busy (laws : ControlLaws s) {p : Port}
    (busy : (s.control p).rx ≠ .hunt ∨ (s.control p).ended ≠ [] ∨ (s.control p).requests ≠ [] ∨
      (s.control p).responses ≠ []) : s.serving p = true := by
  by_contra h
  obtain ⟨rx, ended, requests, responses, -⟩ := laws.2.1 p (by simpa using h)
  exact busy.elim (absurd rx) fun h => h.elim (absurd ended) fun h =>
    h.elim (absurd requests) (absurd responses)

theorem of_same (laws : ControlLaws s) (ctl : t.ctl = s.ctl) (engine : t.engine = s.engine)
    (serving : KeepsServing s t) : ControlLaws t := by
  obtain ⟨bounds, quiet, held, reset⟩ := laws
  have control (p : Port) : t.control p = s.control p := State.control_congr ctl p
  refine ⟨fun p => by rw [control]; exact bounds p, fun p h => ?_, fun h some orphaned => ?_, ?_⟩
  · rw [control]
    refine quiet p (Bool.eq_false_iff.mpr fun h' => ?_)
    rw [serving p h'] at h
    cases h
  · rw [engine] at some
    obtain ⟨serves, room⟩ := held h some orphaned
    rw [control]
    exact ⟨serving _ serves, room⟩
  · simp only [ResetLaw, control, engine]
    exact reset

/-- An operation on the control slot of one port that serves, which leaves the responses and the engine. -/
theorem of_control (laws : ControlLaws s) {p : Port} {k : Control} (serves : s.serving p = true)
    (requests : k.requests.length ≤ 2) (responses : k.responses = (s.control p).responses) :
    ControlLaws (s.setControl p k) := by
  obtain ⟨bounds, quiet, held, reset⟩ := laws
  have same (q : Port) : ((s.setControl p k).control q).responses = (s.control q).responses := by
    rw [State.control_setControl]
    split_ifs with h
    · rw [responses, h]
    · rfl
  refine ⟨fun q => ⟨?_, by rw [same]; exact (bounds q).2⟩, fun q h => ?_, fun h some orphaned => ?_, ?_⟩
  · rw [State.control_setControl]
    split_ifs with h
    · exact requests
    · exact (bounds q).1
  · have other : q ≠ p := by
      rintro rfl
      rw [show (s.setControl q k).serving q = s.serving q from rfl, serves] at h
      cases h
    rw [State.control_setControl_ne _ other]
    exact quiet q h
  · obtain ⟨serving, room⟩ := held h some orphaned
    rw [same]
    exact ⟨serving, room⟩
  · simp only [ResetLaw, same]
    exact reset

/-- R164: a port stops serving its control slot. -/
theorem endServing (laws : ControlLaws s) {p : Port} (ctl : t.ctl = s.ctl) (engine : t.engine = s.engine)
    (serving : ∀ q, q ≠ p → s.serving q = true → t.serving q = true) :
    ControlLaws (t.endServing p) := by
  obtain ⟨bounds, quiet, held, reset⟩ := laws
  have self : (t.endServing p).control p =
      { Control.reset with overrunFlag := (t.control p).overrunFlag } :=
    State.control_setControl_self _ _ _
  have other {q : Port} (h : q ≠ p) : (t.endServing p).control q = s.control q := by
    rw [show (t.endServing p).control q = t.control q from State.control_setControl_ne _ h _,
      State.control_congr ctl]
  have heldNow : (t.endServing p).engine.held = s.engine.held.map fun h => State.orphan h p := by
    rw [← engine]; rfl
  have phase : (t.endServing p).engine.resetPhase = State.resetOnEmptying s.engine p := by
    rw [← engine]; rfl
  have none_iff : State.resetOnEmptying s.engine p = .none ↔ s.engine.resetPhase = .none := by
    unfold State.resetOnEmptying
    split
    · split_ifs <;> simp [*]
    · rfl
  refine ⟨fun q => ?_, fun q h => ?_, fun h some kept => ?_, fun inHand => ?_, fun q body waits isReset => ?_,
    fun q waits => ?_⟩
  · by_cases h : q = p
    · rw [h, self]; simp [Control.reset]
    · rw [other h]; exact bounds q
  · by_cases same : q = p
    · rw [same, self]
      exact ⟨rfl, rfl, rfl, rfl, rfl⟩
    · rw [other same]
      refine quiet q (Bool.eq_false_iff.mpr fun h' => ?_)
      rw [show (t.endServing p).serving q = t.serving q from rfl, serving q same h'] at h
      cases h
  · rw [heldNow] at some
    obtain ⟨h₀, some₀, rfl⟩ := Option.map_eq_some_iff.mp some
    by_cases same : h₀.port = p
    · simp [State.orphan, same] at kept
    · simp only [State.orphan, if_neg same] at kept ⊢
      obtain ⟨serves, room⟩ := held h₀ some₀ kept
      rw [other same]
      exact ⟨serving _ same serves, room⟩
  · rw [phase, Ne, none_iff] at inHand
    rw [heldNow, reset.1 inHand]
    rfl
  · rw [phase, Ne, none_iff]
    by_cases same : q = p
    · rw [same, self] at waits
      cases waits
    · rw [other same] at waits
      exact reset.2.1 q body waits isReset
  · rw [phase] at waits
    have before : s.engine.resetPhase = .waiting q ∧ q ≠ p := by
      unfold State.resetOnEmptying at waits
      split at waits
      case h_1 r waiting =>
        split_ifs at waits with hp
        cases waits
        exact ⟨waiting, hp⟩
      case h_2 other => exact absurd waits (other q)
    rw [other before.2]
    exact reset.2.2 q before.1

/-- R163: the engine takes a request of a port whose response queue has room. -/
theorem holdRequest (laws : ControlLaws s) {p : Port} {body : List Octet} {rest : List (List Octet)}
    (free : s.engine.resetPhase = .none) (requests : (s.control p).requests = body :: rest)
    (room : (s.control p).responses.length < 2) : ControlLaws (s.holdRequest p body rest) := by
  have serves : s.serving p = true := laws.serving_of_busy (by simp [requests])
  obtain ⟨bounds, quiet, held, reset⟩ := laws
  have two := (bounds p).1
  rw [requests, List.length_cons] at two
  obtain ⟨bounds', quiet', -, reset'⟩ := of_control (k := { s.control p with requests := rest })
    ⟨bounds, quiet, held, reset⟩ serves (by change rest.length ≤ 2; omega) rfl
  refine ⟨bounds', quiet', fun h some _ => ?_, fun inHand => absurd free inHand, reset'.2.1, reset'.2.2⟩
  obtain rfl : ⟨p, body, false⟩ = h := by simpa [State.holdRequest, State.setEngine] using some
  refine ⟨serves, ?_⟩
  rw [show ((s.holdRequest p body rest).control p) = { s.control p with requests := rest } from
    State.control_setControl_self _ _ _]
  exact room

theorem takeRequest (laws : ControlLaws s) (serves : List Octet → Bool) :
    ControlLaws (s.takeRequest serves) := by
  unfold State.takeRequest
  split
  case isFalse => exact laws
  case isTrue free =>
    obtain ⟨-, idle⟩ : s.engine.held = none ∧ s.engine.resetPhase = .none := by
      simpa [State.engineFree] using free
    split
    case h_1 => exact laws
    case h_2 p next =>
      split
      case h_1 => exact laws
      case h_2 body rest requests =>
        split
        case isFalse => exact laws
        case isTrue =>
          have eligible := List.find?_some next
          exact laws.holdRequest idle requests
            (by simpa [State.eligible, requests] using eligible)

end ControlLaws

end Sys2Proof.Machine
end

section
/-! The laws of the control slots through a response, a reset and the other events. -/

namespace Sys2Proof.Machine

namespace ControlLaws

variable {s t : State}

/-- R172: while the engine holds a request no reset is in hand. -/
theorem idle_of_held (laws : ControlLaws s) {h : HeldRequest} (held : s.engine.held = some h) :
    s.engine.resetPhase = .none := by
  by_contra inHand
  have none := laws.2.2.2.1 inHand
  rw [held] at none
  cases none

/-- R163 to R165, R172: the response to the request held joins the queue of its port, or is discarded. -/
theorem giveResponse (laws : ControlLaws s) {u : State} {h : HeldRequest} {r : List Octet}
    (held : s.engine.held = some h) (ctl : u.ctl = s.ctl) (rx : u.rx = s.rx) (ports : u.ports = s.ports)
    (heldNow : u.engine.held = some h)
    (phase : u.engine.resetPhase = .none ∧ isResetResponse r = false ∨
      u.engine.resetPhase = .waiting h.port ∧ h.orphaned = false ∧ isResetResponse r = true) :
    ControlLaws (u.giveResponse h.port r) := by
  have idle := laws.idle_of_held held
  obtain ⟨bounds, quiet, hasRoom, reset⟩ := laws
  have control (q : Port) : u.control q = s.control q := State.control_congr ctl q
  have serving (q : Port) : (u.giveResponse h.port r).serving q = s.serving q := by
    rw [State.serving, State.pathRx_congr (t := s) (by simpa using rx),
      State.port_congr (t := s) (by simpa using ports), State.serving]
  have lost : u.responseLost = h.orphaned := by simp [State.responseLost, heldNow]
  have self : (u.giveResponse h.port r).control h.port =
      { s.control h.port with
        overrunFlag := false
        responses := if h.orphaned then (s.control h.port).responses
          else (s.control h.port).responses ++ [r] } := by
    rw [← control, ← lost]
    exact State.control_setControl_self _ _ _
  have other {q : Port} (ne : q ≠ h.port) : (u.giveResponse h.port r).control q = s.control q :=
    (State.control_setControl_ne _ ne _).trans (control q)
  have phaseNow : (u.giveResponse h.port r).engine.resetPhase = u.engine.resetPhase := rfl
  have noReset (q : Port) (body : List Octet) (waits : body ∈ (s.control q).responses) :
      isResetResponse body = false := by
    by_contra isReset
    exact reset.2.1 q body waits (by simpa using isReset) idle
  refine ⟨fun q => ?_, fun q quietNow => ?_, fun h' some => (by cases some), fun _ => rfl,
    fun q body waits isReset => ?_, fun q waits => ?_⟩
  · by_cases same : q = h.port
    · subst same
      rw [self]
      refine ⟨(bounds _).1, ?_⟩
      cases orphaned : h.orphaned with
      | true => simpa using (bounds h.port).2
      | false =>
        have room := (hasRoom h held orphaned).2
        simp
        omega
    · rw [other same]; exact bounds q
  · rw [serving] at quietNow
    by_cases same : q = h.port
    · subst same
      have orphaned : h.orphaned = true := by
        by_contra kept
        rw [(hasRoom h held (by simpa using kept)).1] at quietNow
        cases quietNow
      rw [self, orphaned]
      exact quiet _ quietNow
    · rw [other same]; exact quiet q quietNow
  · rw [phaseNow]
    rcases phase with ⟨none, ordinary⟩ | ⟨waiting, -⟩
    · exfalso
      by_cases same : q = h.port
      · subst same
        rw [self] at waits
        split_ifs at waits
        · rw [noReset _ body waits] at isReset; cases isReset
        · rcases List.mem_append.mp waits with old | new
          · rw [noReset _ body old] at isReset; cases isReset
          · rw [List.mem_singleton.mp new, ordinary] at isReset; cases isReset
      · rw [other same] at waits
        rw [noReset _ body waits] at isReset
        cases isReset
    · rw [waiting]; exact nofun
  · rw [phaseNow] at waits
    rcases phase with ⟨none, -⟩ | ⟨waiting, kept, isReset⟩
    · rw [none] at waits; cases waits
    · rw [waiting] at waits
      obtain rfl : h.port = q := by simpa using waits
      exact ⟨r, by rw [self, kept]; simp, isReset⟩

/-- R162, R172: a response that has been sent leaves its queue. -/
theorem responseSent (laws : ControlLaws s) {p : Port} {body : List Octet} {rest : List (List Octet)}
    (responses : (s.control p).responses = body :: rest) :
    ControlLaws ((s.setControl p { s.control p with responses := rest, sent := 0 }).setEngine
      { s.engine with resetPhase := if isResetResponse body then .due else s.engine.resetPhase }) := by
  have serves : s.serving p = true := laws.serving_of_busy (by simp [responses])
  obtain ⟨bounds, quiet, hasRoom, reset⟩ := laws
  generalize ht : (s.setControl p { s.control p with responses := rest, sent := 0 }).setEngine
      { s.engine with resetPhase := if isResetResponse body then .due else s.engine.resetPhase } = t
  have self : t.control p = { s.control p with responses := rest, sent := 0 } := by
    rw [← ht]; exact State.control_setControl_self _ _ _
  have other {q : Port} (ne : q ≠ p) : t.control q = s.control q := by
    rw [← ht]; exact State.control_setControl_ne _ ne _
  have serving (q : Port) : t.serving q = s.serving q := by rw [← ht]; rfl
  have held : t.engine.held = s.engine.held := by rw [← ht]; rfl
  have phase : t.engine.resetPhase = if isResetResponse body then .due else s.engine.resetPhase := by
    rw [← ht]; rfl
  have inHand (h : t.engine.resetPhase ≠ .none) : s.engine.resetPhase ≠ .none := by
    rw [phase] at h
    split_ifs at h with isReset
    · exact reset.2.1 p body (by rw [responses]; exact List.mem_cons_self) isReset
    · exact h
  have stillThere (h : s.engine.resetPhase ≠ .none) : t.engine.resetPhase ≠ .none := by
    rw [phase]
    split_ifs
    · exact nofun
    · exact h
  refine ⟨fun q => ?_, fun q quietNow => ?_, fun h some kept => ?_, fun h => by rw [held]; exact reset.1 (inHand h),
    fun q body' waits isReset => ?_, fun q waits => ?_⟩
  · by_cases same : q = p
    · have := bounds p
      rw [responses, List.length_cons] at this
      rw [same, self]
      exact ⟨this.1, by change rest.length ≤ 2; omega⟩
    · rw [other same]; exact bounds q
  · rw [serving] at quietNow
    rw [other (by rintro rfl; rw [serves] at quietNow; cases quietNow)]
    exact quiet q quietNow
  · rw [held] at some
    obtain ⟨servesNow, room⟩ := hasRoom h some kept
    refine ⟨by rw [serving]; exact servesNow, ?_⟩
    by_cases same : h.port = p
    · rw [same, responses, List.length_cons] at room
      rw [same, self]
      change rest.length < 2
      omega
    · rw [other same]; exact room
  · refine stillThere ?_
    by_cases same : q = p
    · rw [same, self] at waits
      exact reset.2.1 p body' (by rw [responses]; exact List.mem_cons_of_mem _ waits) isReset
    · rw [other same] at waits
      exact reset.2.1 q body' waits isReset
  · rw [phase] at waits
    split_ifs at waits with isReset
    obtain ⟨last, tail, lastReset⟩ := reset.2.2 q waits
    by_cases same : q = p
    · subst same
      rw [responses] at tail
      cases rest with
      | nil =>
        obtain rfl : body = last := by simpa using tail
        exact absurd lastReset isReset
      | cons x rest =>
        rw [List.getLast?_cons_cons] at tail
        exact ⟨last, by rw [self]; exact tail, lastReset⟩
    · exact ⟨last, by rw [other same]; exact tail, lastReset⟩

/-- R162: a frame begins: of the octets of a response sent, no port's but a serving one's rises. -/
theorem beginFrame (laws : ControlLaws s) : ControlLaws s.beginFrame := by
  obtain ⟨bounds, quiet, hasRoom, reset⟩ := laws
  have control (p : Port) : s.beginFrame.control p = s.controlBegins p := by
    simp [State.beginFrame, State.control]
  have requests (p : Port) : (s.beginFrame.control p).requests = (s.control p).requests := by
    rw [control, State.controlBegins]; split <;> rfl
  have responses (p : Port) : (s.beginFrame.control p).responses = (s.control p).responses := by
    rw [control, State.controlBegins]; split <;> rfl
  have serving (p : Port) : s.beginFrame.serving p = s.serving p := by
    have framer : (s.beginFrame.pathRx p).framer = (s.pathRx p).framer := by
      simp [State.beginFrame, State.pathRx]
    rw [State.serving, framer, State.port_congr (t := s) (by simp), State.serving]
  have engine : s.beginFrame.engine = s.engine := by simp
  refine ⟨fun p => by rw [requests, responses]; exact bounds p, fun p h => ?_, fun h some kept => ?_, ?_⟩
  · rw [serving] at h
    have same : s.beginFrame.control p = s.control p := by
      rw [control, State.controlBegins, State.controlSlotOctet, h]
      rfl
    rw [same]
    exact quiet p h
  · rw [engine] at some
    rw [serving, responses]
    exact hasRoom h some kept
  · simp only [ResetLaw, responses, engine]
    exact reset

end ControlLaws

namespace State

variable {s : State}

theorem fresh_controlLaws (straps : Straps) (lines : LineMeasures) (l : List Instr) :
    ControlLaws (State.fresh straps lines l) := by
  have control (p : Port) : (State.fresh straps lines l).control p = Control.reset := by
    simp [fresh, State.control]
  refine ⟨fun p => ?_, fun p _ => ?_, fun h some => (by cases some), fun _ => rfl,
    fun p body waits => ?_, fun p waits => (by cases waits)⟩
  · rw [control]; simp [Control.reset]
  · rw [control]; exact ⟨rfl, rfl, rfl, rfl, rfl⟩
  · rw [control] at waits; cases waits

/-- R160: an octet moves the receiver alone, and may end a record. -/
theorem controlOctet_eq (s : State) (p : Port) (o : Octet) : ∃ k : Control,
    s.controlOctet p o = s.setControl p k ∧ k.requests = (s.control p).requests ∧
      k.responses = (s.control p).responses := by
  refine ⟨_, rfl, ?_, ?_⟩ <;> (repeat' split) <;> rfl

theorem storeCeiling_port_state (s : State) (p q : Port) (n : Nat) :
    ((s.storeCeiling p n).port q).state = (s.port q).state := by
  have stored : ((s.setPort p { s.port p with ceiling := max 1 (min 30 n) }).port q).state =
      (s.port q).state := by
    apply setPort_port_state_of_same; rfl
  unfold storeCeiling
  dsimp only
  split
  · rw [settleSweep_port, capacityEvent_port, stored]
  · exact stored

/-- R161: an accepted record, whose port serves. -/
theorem acceptRecord_controlLaws (laws : ControlLaws s) {p : Port} (serves : s.serving p = true)
    (body : List Octet) : ControlLaws (s.acceptRecord p body) := by
  unfold acceptRecord
  dsimp only
  split_ifs with room
  · exact laws.of_control serves (by simp; omega) rfl
  · refine ControlLaws.of_same (laws.of_control serves (laws.1 p).1 rfl
      (k := { s.control p with overrunFlag := true })) rfl rfl ?_
    refine .of_line rfl fun q line => ?_
    rwa [setPort_port_state_of_same]
    rfl

theorem returnToLine_serving {p : Port} {t : State} (rx : t.rx = s.rx)
    (line : ∀ q, q ≠ p → (s.port q).state.looped = false → (t.port q).state.looped = false)
    (idle : s.serving p = false) : KeepsServing s (t.returnToLine p) := fun q h => by
  have other : q ≠ p := by
    rintro rfl
    rw [idle] at h
    cases h
  simp only [serving, Bool.and_eq_true, decide_eq_true_eq, Bool.not_eq_true'] at h ⊢
  refine ⟨?_, line q other h.2⟩
  rw [returnToLine, pathRx_setPathRx_ne _ other, pathRx_congr rx]
  exact h.1

end State

/-- Every event keeps the laws of the control slots. -/
theorem Event.controlLaws {s t : State} (e : Event s t) (laws : ControlLaws s) : ControlLaws t := by
  cases e with
  | fresh => exact State.fresh_controlLaws _ _ _
  | measureLines a b =>
    refine laws.of_same (by simp) (by simp) (.of_states (fun p h => ?_) fun p h => h)
    simpa [State.measureLines, State.pathRx] using h
  | millisecond =>
    refine laws.of_same (by simp) (by simp) (.of_line (by simp) fun p h => ?_)
    simpa [State.millisecond, State.port] using h
  | beginFrame => exact laws.beginFrame
  | @pathRx p r line stays fits =>
    refine laws.of_same rfl rfl (.of_states (fun q h => ?_) fun q h => h)
    rw [State.pathRx_setPathRx]
    split_ifs with same
    · exact stays (same ▸ h)
    · exact h
  | @leaveAligned p x line leaves =>
    refine laws.endServing rfl rfl fun q other h => ?_
    rw [State.serving, State.pathRx_setPathRx_ne _ other]
    exact h
  | @controlOctet p o serves =>
    obtain ⟨k, same, requests, responses⟩ := s.controlOctet_eq p o
    rw [same]
    exact laws.of_control serves (by rw [requests]; exact (laws.1 p).1) responses
  | @dropEnded p e rest ended =>
    exact laws.of_control (laws.serving_of_busy (by simp [ended])) (laws.1 p).1 rfl
  | @acceptRecord p e rest body ended =>
    have serves : s.serving p = true := laws.serving_of_busy (by simp [ended])
    exact State.acceptRecord_controlLaws
      (laws.of_control (k := { s.control p with ended := rest }) serves (laws.1 p).1 rfl) serves body
  | responseSent sent =>
    rcases responseSent_cases sent with same | ⟨body, rest, responses, -, same⟩
    · rwa [same]
    · rw [same]; exact laws.responseSent responses
  | takeRequest serves => exact laws.takeRequest serves
  | giveResponse held ordinary =>
    exact laws.giveResponse held rfl rfl rfl held (.inl ⟨laws.idle_of_held held, ordinary⟩)
  | @acceptReset h r held kept isReset =>
    have orphaned := kept (laws.idle_of_held held)
    refine laws.giveResponse held rfl rfl rfl held (.inr ⟨?_, orphaned, isReset⟩)
    simp [State.acceptedReset, State.responseLost, held, orphaned, State.setEngine]
  | monitor moves _ =>
    have moves := moves False False.elim
    exact laws.of_same moves.slots.1 moves.slots.2.1 (.of_line moves.slots.2.2 fun _ => moves.looped)
  | loopbackOn p ready =>
    have moves := (s.loopPort_moves (guarded := False) p ready False.elim).trans
      (State.beginTest_moves _ p)
    refine laws.endServing (t := ((s.loopPort p ready).beginTest p).enterLoop p ready)
      (by simp) (by simp) fun q other h => ?_
    simp only [State.serving, Bool.and_eq_true, decide_eq_true_eq, Bool.not_eq_true'] at h ⊢
    refine ⟨?_, ?_⟩
    · rw [State.enterLoop, State.pathRx_setPathRx_ne _ other, State.pathRx_congr moves.slots.2.2]
      exact h.1
    · rw [State.enterLoop, State.setPathRx_port, State.beginTest,
        State.port_setPort_ne _ other]
      exact State.loopPort_line ready other h.2
  | @leaveLoop p r looped after timer fits =>
    refine laws.of_same (by simp) (by simp) (State.returnToLine_serving (by simp)
      (fun q other line => State.setPort_cancelProbe_line r other line) ?_)
    simp [State.serving, looped]
  | storeCeiling p n =>
    refine laws.of_same (by simp) (by simp) (.of_line (by simp) fun q line => ?_)
    rwa [State.storeCeiling_port_state]
  | failBackStops p =>
    refine laws.of_same rfl rfl (.of_line rfl fun q line => ?_)
    rwa [State.setPort_port_state_of_same]
    rfl
  | handed | time | exch | holdStops | startWalk | hostRecord | trunkLosEnd => exact laws
  | _ => exact laws.of_same (by simp) (by simp) (.of_tables (by simp) (by simp))

end Sys2Proof.Machine

section
open Sys2Proof Sys2Proof.Machine

/-- Settles O58: each event keeps the laws, and a step is a sequence of events. -/
theorem stepKeepsControlLaws : Obligations.StepKeepsControlLaws := fun _ _ laws =>
  step_keeps Event.controlLaws (fun _ _ => id) laws
end
end

section
/-! The parameters in their ranges (R68, R168), kept by every event; and the records of the ports in theirs
(R61, R105). -/

namespace Sys2Proof.Machine

/-! ## The tables that no move of the health monitor writes -/

theorem Move.others {guarded looping : Prop} {s t : State} (m : Move guarded looping s t) :
    t.trunks = s.trunks ∧ t.groups = s.groups ∧ t.walker = s.walker ∧ t.params = s.params := by
  cases m with
  | record | change | checker | handed => exact ⟨rfl, rfl, rfl, rfl⟩
  | depart =>
    unfold State.departed
    dsimp only
    split <;> simp
  | enterSuspect | latches | takeProbe | enterUp => simp

theorem Moves.others {guarded looping : Prop} {s t : State} (m : Moves guarded looping s t) :
    t.trunks = s.trunks ∧ t.groups = s.groups ∧ t.walker = s.walker ∧ t.params = s.params := by
  refine m.keep (P := fun u => u.trunks = s.trunks ∧ u.groups = s.groups ∧ u.walker = s.walker ∧
    u.params = s.params) (fun m ⟨trunks, groups, walker, params⟩ => ?_) ⟨rfl, rfl, rfl, rfl⟩
  obtain ⟨trunks', groups', walker', params'⟩ := m.others
  exact ⟨trunks'.trans trunks, groups'.trans groups, walker'.trans walker, params'.trans params⟩

/-! ## Parameters (R68, R168) -/

theorem clampParam_inRange (x : Param) (v : Nat) :
    paramLow x ≤ clampParam x v ∧ clampParam x v ≤ paramHigh x := by
  cases x with
  | decayInterval =>
    simp only [clampParam, paramLow, paramHigh]
    split_ifs <;> decide
  | _ => simp only [clampParam, paramLow, paramHigh]; omega

theorem clampParam_interval (v : Nat) : clampParam .decayInterval v ∈ [8, 16, 32, 64] := by
  simp only [clampParam]
  split_ifs <;> decide

theorem isThreshold_iff {x : Param} :
    isThreshold x = true ↔ x = .suspectAt ∨ x = .downAt ∨ x = .recoverBelow := by
  cases x <;> simp [isThreshold]

theorem ParamLaws.of_same {s t : State} (laws : ParamLaws s) (params : t.params = s.params) :
    ParamLaws t := by
  have same (x : Param) : t.param x = s.param x := State.param_congr params x
  refine ⟨fun x => by rw [same]; exact laws.1 x, ?_, ?_⟩
  · rw [IntervalLaw, same]; exact laws.2.1
  · simp only [ThresholdLaw, same]; exact laws.2.2

namespace State

variable {s : State}

theorem storeParam_paramLaws (laws : ParamLaws s) (x : Param) (v : Nat) :
    ParamLaws (s.storeParam x v) := by
  obtain ⟨ranges, interval, order⟩ := laws
  cases threshold : isThreshold x with
  | false =>
    have value := s.param_storeParam_plain threshold v
    have same {y : Param} (h : isThreshold y = true) : (s.storeParam x v).param y = s.param y := by
      rw [value, if_neg (by rintro rfl; rw [threshold] at h; cases h)]
    refine ⟨fun y => ?_, ?_, ?_⟩
    · rw [value]
      split_ifs with h
      · rw [h]; exact clampParam_inRange x v
      · exact ranges y
    · rw [IntervalLaw, value]
      split_ifs with h
      · rw [← h]; exact clampParam_interval v
      · exact interval
    · rw [ThresholdLaw, same rfl, same rfl, same rfl]
      exact order
  | true =>
    have bounded (y : Param) : paramLow y ≤ (s.setParam x (clampParam x v)).param y ∧
        (s.setParam x (clampParam x v)).param y ≤ paramHigh y := by
      rw [param_setParam]
      split_ifs with h
      · rw [h]; exact clampParam_inRange x v
      · exact ranges y
    obtain ⟨down, suspect, recover, others⟩ := s.param_storeParam_threshold threshold v
    have downTop := (bounded .downAt).2
    have suspectTop := (bounded .suspectAt).2
    have recoverTop := (bounded .recoverBelow).2
    refine ⟨fun y => ?_, ?_, ?_⟩
    · cases plain : isThreshold y with
      | false => rw [others y plain]; exact ranges y
      | true =>
        rcases isThreshold_iff.mp plain with rfl | rfl | rfl
        · rw [suspect]; simp only [paramLow, paramHigh] at *; omega
        · rw [down]; simp only [paramLow, paramHigh] at *; omega
        · rw [recover]; simp only [paramLow, paramHigh] at *; split_ifs <;> omega
    · rw [IntervalLaw, others _ rfl]
      exact interval
    · rw [ThresholdLaw, suspect, down, recover]
      split_ifs <;> omega

end State

theorem State.fresh_param (straps : Straps) (lines : LineMeasures) (l : List Instr) (x : Param) :
    (State.fresh straps lines l).param x = x.default := by
  cases x <;> rfl

theorem State.fresh_paramLaws (straps : Straps) (lines : LineMeasures) (l : List Instr) :
    ParamLaws (State.fresh straps lines l) := by
  refine ⟨fun x => ?_, ?_, ?_⟩
  · rw [State.fresh_param]
    cases x <;> decide
  · rw [IntervalLaw, State.fresh_param]
    decide
  · simp only [ThresholdLaw, State.fresh_param]
    decide

/-- Every event keeps the parameters in their ranges. -/
theorem Event.paramLaws {s t : State} (e : Event s t) (laws : ParamLaws s) : ParamLaws t := by
  cases e with
  | fresh => exact State.fresh_paramLaws _ _ _
  | storeParam x v => exact State.storeParam_paramLaws laws x v
  | monitor moves _ => exact laws.of_same (moves False False.elim).others.2.2.2
  | responseSent sent =>
    rcases responseSent_cases sent with same | ⟨body, rest, -, -, same⟩
    · rwa [same]
    · rw [same]; exact laws
  | handed | time | exch | pathRx | dropEnded | holdStops | failBackStops | startWalk | hostRecord |
    trunkLosEnd => exact laws
  | _ => exact laws.of_same (by simp)

/-! ## Port records (R61, R105) -/

/-- R61 and R105 of one record. -/
def PortLawAt (r : PortRecord) : Prop := PortInRange r ∧ (r.failBack ≠ none → r.state = .up)

theorem portLaws_iff (s : State) : PortLaws s ↔ ∀ p, PortLawAt (s.port p) :=
  ⟨fun laws p => ⟨laws.1 p, laws.2 p⟩, fun laws => ⟨fun p => (laws p).1, fun p => (laws p).2⟩⟩

theorem PortLaws.at_port {s : State} (laws : PortLaws s) (p : Port) : PortLawAt (s.port p) :=
  (portLaws_iff s).mp laws p

theorem PortLaws.of_same {s t : State} (laws : PortLaws s) (ports : t.ports = s.ports) :
    PortLaws t := by
  rw [portLaws_iff]
  intro p
  rw [State.port_congr ports]
  exact laws.at_port p

/-- R105: a port that is not in UP has no fail-back timer running. -/
theorem PortLawAt.stopped {r : PortRecord} (law : PortLawAt r) (state : r.state ≠ .up) :
    r.failBack = none := by
  by_contra h
  exact state (law.2 h)

/-- A record without a fail-back timer. -/
theorem PortLawAt.of_stopped {r : PortRecord} (fits : PortInRange r) (stopped : r.failBack = none) :
    PortLawAt r :=
  ⟨fits, fun h => absurd stopped h⟩

namespace State

variable {s : State}

theorem setPort_portLaws (laws : PortLaws s) {p : Port} {r : PortRecord} (fits : PortLawAt r) :
    PortLaws (s.setPort p r) := by
  rw [portLaws_iff]
  intro q
  rw [port_setPort]
  split_ifs
  · exact fits
  · exact laws.at_port q

theorem departedRecord_portLawAt {r : PortRecord} {x : PortState} (fits : PortInRange r)
    (counts : x ≠ .down → x.countsQuiet = false) : PortLawAt (departedRecord r x) := by
  obtain ⟨h, q, -, fae, ccf, ferd, los, down, overrun, low, high, -⟩ := fits
  unfold departedRecord
  split_ifs with isDown
  · exact .of_stopped ⟨h, by simp, by simp, fae, ccf, ferd, los, bump16_le _, overrun, low, high, nofun⟩ rfl
  · have unquiet : x.countsQuiet = true → r.q < 255 := by rw [counts isDown]; exact nofun
    exact .of_stopped ⟨h, q, unquiet, fae, ccf, ferd, los, down, overrun, low, high, nofun⟩ rfl

theorem fresh_portLaws (straps : Straps) (lines : LineMeasures) (l : List Instr) :
    PortLaws (State.fresh straps lines l) := by
  rw [portLaws_iff]
  intro p
  have record : (State.fresh straps lines l).port p = PortRecord.reset := by simp [fresh, port]
  rw [record]
  refine .of_stopped ⟨?_, ?_, ?_, ?_, ?_, ?_, ?_, ?_, ?_, ?_, ?_, ?_⟩ rfl <;> simp [PortRecord.reset]

end State

/-- R61, R105: the records of the ports through a move. -/
theorem Move.portLaws {looping : Prop} {s t : State} (m : Move True looping s t)
    (params : ParamLaws s) (laws : PortLaws s) : PortLaws t := by
  cases m with
  | @record p r state timer fits =>
    refine State.setPort_portLaws laws ⟨fits params (laws.1 p), ?_⟩
    rw [state, timer]
    exact laws.2 p
  | @change p r before after loops timer fits =>
    refine State.setPort_portLaws laws (.of_stopped (fits params (laws.1 p)) ?_)
    rw [timer]
    refine (laws.at_port p).stopped fun up => ?_
    rw [State.inService, up] at before
    cases before
  | @depart p x before after counts loops =>
    rw [portLaws_iff]
    intro q
    rw [State.departed_port]
    split_ifs
    · exact State.departedRecord_portLawAt (laws.1 p) counts
    · exact laws.at_port q
  | @enterSuspect p before =>
    rw [portLaws_iff]
    intro q
    rw [State.enterSuspect_port]
    split_ifs
    · obtain ⟨h, q, -, fae, ccf, ferd, los, down, overrun, low, high, -⟩ := laws.1 p
      exact .of_stopped ⟨h, q, nofun, fae, ccf, ferd, los, down, overrun, low, high, nofun⟩ rfl
    · exact laws.at_port q
  | @enterUp p n range =>
    rw [portLaws_iff]
    intro q
    rw [State.enterUp_port]
    by_cases same : q = p
    · rw [if_pos same]
      obtain ⟨h, -, -, fae, ccf, ferd, los, down, overrun, low, high, -⟩ := laws.1 p
      refine ⟨⟨?_, ?_, nofun, ?_⟩, fun _ => rfl⟩ <;> rw [State.port_setPort_self]
      · exact h
      · exact range params (laws.1 p)
      · refine ⟨fae, ccf, ferd, los, down, overrun, low, high, fun m running => ?_⟩
        have top := (params.1 .failBackDelay).2
        simp only [State.param_setPort] at running
        split_ifs at running
        cases running
        exact top
    · rw [if_neg same, State.port_setPort_ne _ same]
      exact laws.at_port q
  | checker | handed => exact laws
  | takeProbe guard =>
    cases idle : s.checker.state with
    | seeding e | counting e => rwa [s.takeProbe_of_busy (by simp [idle])]
    | idle =>
      cases front : s.checker.queue with
      | nil => rwa [s.takeProbe_of_empty front]
      | cons e rest =>
        cases kind : e.kind with
        | demand =>
          refine laws.of_same ?_
          rw [s.takeProbe_of_entry idle front, kind]
        | recovery =>
          have awaits := guard trivial e rest front kind
          have stopped := (laws.at_port e.port).stopped (by rw [awaits]; exact nofun)
          obtain ⟨h, q, -, counts⟩ := laws.1 e.port
          refine PortLaws.of_same (s := s.setPort e.port { s.port e.port with state := .probing })
            (State.setPort_portLaws laws (.of_stopped ⟨h, q, nofun, counts⟩ stopped)) ?_
          rw [s.takeProbe_of_entry idle front, kind]
          rfl
  | latches => exact laws.of_same (by simp)

theorem Moves.portLaws {looping : Prop} {s t : State} (m : Moves True looping s t)
    (params : ParamLaws s) (laws : PortLaws s) : PortLaws t :=
  (m.keep (P := fun u => ParamLaws u ∧ PortLaws u)
    (fun m h => ⟨h.1.of_same m.others.2.2.2, m.portLaws h.1 h.2⟩) ⟨params, laws⟩).2

namespace State

variable {s : State}

theorem acceptRecord_portLaws (laws : PortLaws s) (p : Port) (body : List Octet) :
    PortLaws (s.acceptRecord p body) := by
  unfold acceptRecord
  dsimp only
  split_ifs
  · exact laws
  · obtain ⟨⟨h, q, quiet, fae, ccf, ferd, los, down, -, rest⟩, timer⟩ := laws.at_port p
    refine setPort_portLaws (s := s.setControl p { s.control p with overrunFlag := true }) laws ?_
    exact ⟨⟨h, q, quiet, fae, ccf, ferd, los, down, bump16_le _, rest⟩, timer⟩

theorem storeCeiling_portLaws (laws : PortLaws s) (p : Port) (n : Nat) :
    PortLaws (s.storeCeiling p n) := by
  have first : PortLaws (s.setPort p { s.port p with ceiling := max 1 (min 30 n) }) := by
    obtain ⟨⟨h, q, quiet, fae, ccf, ferd, los, down, overrun, -, -, delay⟩, timer⟩ := laws.at_port p
    refine setPort_portLaws laws
      ⟨⟨h, q, quiet, fae, ccf, ferd, los, down, overrun, ?_, ?_, delay⟩, timer⟩
    · change 1 ≤ max 1 (min 30 n); omega
    · change max 1 (min 30 n) ≤ 30; omega
  unfold storeCeiling
  dsimp only
  split
  · exact first.of_same (by simp)
  · exact first

theorem millisecond_portLaws (laws : PortLaws s) : PortLaws s.millisecond := by
  rw [portLaws_iff]
  intro p
  have record : s.millisecond.port p =
      { s.port p with failBack := tickTimer (s.port p).failBack } := by simp [millisecond, port]
  rw [record]
  obtain ⟨⟨h, q, quiet, fae, ccf, ferd, los, down, overrun, low, high, delay⟩, timer⟩ := laws.at_port p
  refine ⟨⟨h, q, quiet, fae, ccf, ferd, los, down, overrun, low, high, fun n running => ?_⟩, fun running => ?_⟩
  · obtain ⟨m, before, rfl⟩ := Option.map_eq_some_iff.mp running
    exact (Nat.sub_le _ _).trans (delay m before)
  · refine timer fun stopped => running ?_
    change tickTimer _ = none
    rw [stopped]
    rfl

end State

/-- Every event keeps the records of the ports in their ranges. -/
theorem Event.portLaws {s t : State} (e : Event s t) (params : ParamLaws s) (probe : ProbeLaws s)
    (laws : PortLaws s) : PortLaws t := by
  cases e with
  | fresh => exact State.fresh_portLaws _ _ _
  | millisecond => exact State.millisecond_portLaws laws
  | acceptRecord body => exact State.acceptRecord_portLaws (s := s.setControl _ _) laws _ _
  | failBackStops p =>
    obtain ⟨h, q, quiet, fae, ccf, ferd, los, down, overrun, low, high, -⟩ := laws.1 p
    exact State.setPort_portLaws laws (.of_stopped
      ⟨h, q, quiet, fae, ccf, ferd, los, down, overrun, low, high, nofun⟩ rfl)
  | storeCeiling => exact State.storeCeiling_portLaws laws _ _
  | monitor moves _ => exact (moves True fun _ => probe.core).portLaws params laws
  | loopbackOn p ready =>
    have moves := (s.loopPort_moves (guarded := True) p ready fun _ => probe.core).trans
      (State.beginTest_moves _ p)
    exact (moves.portLaws params laws).of_same (by simp)
  | @leaveLoop p r looped after timer fits =>
    have moves := s.setPort_cancelProbe_moves (guarded := True) (looping := True) (p := p) (r := r)
      (fun _ => probe.core) (State.not_inService_of_looped looped)
      (by rcases after with h | h <;> rw [h] <;> rfl) (fun _ => .inl trivial) timer fits
    exact (moves.portLaws params laws).of_same (by simp)
  | responseSent sent =>
    rcases responseSent_cases sent with same | ⟨body, rest, -, -, same⟩
    · rwa [same]
    · rw [same]; exact laws
  | handed | time | exch | pathRx | dropEnded | holdStops | startWalk | hostRecord | trunkLosEnd =>
    exact laws
  | _ => exact laws.of_same (by simp)

end Sys2Proof.Machine
end

section
/-! The group records (R96, R99), the walk record (R140, R144) and the counts and timers of the route table
(R3, R4, R133) in their ranges, kept by every event. -/

namespace Sys2Proof.Machine

/-! ## Group records (R96, R99) -/

/-- R99 of one record. -/
def GroupLawAt (r : GroupRecord) : Prop := ∀ n, r.hold = some n → r.state = .suspect ∧ n ≤ 60000

theorem GroupLaws.at_group {s : State} (laws : GroupLaws s) (g : Group) : GroupLawAt (s.group g) :=
  laws g

theorem State.group_congr {s t : State} (h : s.groups = t.groups) (g : Group) :
    s.group g = t.group g := by
  simp [State.group, h]

theorem GroupLaws.of_same {s t : State} (laws : GroupLaws s) (groups : t.groups = s.groups) :
    GroupLaws t := fun g => by
  rw [State.group_congr groups]
  exact laws g

namespace State

variable {s : State}

theorem setGroup_groupLaws (laws : GroupLaws s) {g : Group} {r : GroupRecord} (fits : GroupLawAt r) :
    GroupLaws (s.setGroup g r) := fun j => by
  rw [group_setGroup]
  split_ifs
  · exact fits
  · exact laws j

theorem examineGroup_groupLaws (laws : GroupLaws s) (g : Group) : GroupLaws (s.examineGroup g) := by
  unfold examineGroup
  dsimp only
  split_ifs with clears
  · refine setGroup_groupLaws laws fun n running => ?_
    rw [show (s.group g).hold = none from clears.2.1] at running
    cases running
  · exact laws

theorem suspectGroup_groupLaws (laws : GroupLaws s) {g : Group} (top : s.param .groupHold ≤ 60000) :
    GroupLaws (s.suspectGroup g) := by
  have first := setGroup_groupLaws (g := g)
    (r := { s.group g with state := .suspect, hold := some (s.param .groupHold) }) laws
    fun n running => ⟨rfl, by cases running; exact top⟩
  unfold suspectGroup
  dsimp only
  split
  · exact first
  · exact first

/-- The hold of a suspected group is restarted at the limit. -/
theorem restartHold_groupLaws (laws : GroupLaws s) {g : Group} (suspect : (s.group g).state = .suspect)
    {n : Nat} (top : n ≤ 60000) : GroupLaws (s.setGroup g { s.group g with hold := some n }) :=
  setGroup_groupLaws laws fun m running => ⟨suspect, by cases running; exact top⟩

theorem takeDownEntry_groupLaws (params : ParamLaws s) (laws : GroupLaws s) (p : Port) :
    GroupLaws (s.takeDownEntry p) := by
  have top : s.param .groupHold ≤ 60000 := (params.1 .groupHold).2
  have first : GroupLaws (s.setGroup (s.groupOf p)
      { s.group (s.groupOf p) with lastDown := some (p, s.now) }) :=
    setGroup_groupLaws laws (laws.at_group _)
  have kept : ((s.setGroup (s.groupOf p)
      { s.group (s.groupOf p) with lastDown := some (p, s.now) }).group (s.groupOf p)).state =
      (s.group (s.groupOf p)).state := by rw [group_setGroup_self]
  have param : (s.setGroup (s.groupOf p)
      { s.group (s.groupOf p) with lastDown := some (p, s.now) }).param .groupHold =
      s.param .groupHold := by simp [param]
  unfold takeDownEntry
  dsimp only
  generalize s.setGroup (s.groupOf p) { s.group (s.groupOf p) with lastDown := some (p, s.now) } = u
    at first kept param ⊢
  split
  · cases state : (s.group (s.groupOf p)).state with
    | clear => exact suspectGroup_groupLaws first (param.trans_le top)
    | suspect => exact restartHold_groupLaws first (kept.trans state) top
  · exact first

theorem fresh_groupLaws (straps : Straps) (lines : LineMeasures) (l : List Instr) :
    GroupLaws (fresh straps lines l) := by
  intro g n running
  have record : (fresh straps lines l).group g = GroupRecord.reset := by simp [fresh, group]
  rw [record] at running
  cases running

end State

/-- Every event keeps the group records in their ranges. -/
theorem Event.groupLaws {s t : State} (e : Event s t) (params : ParamLaws s) (laws : GroupLaws s) :
    GroupLaws t := by
  cases e with
  | fresh => exact State.fresh_groupLaws _ _ _
  | millisecond =>
    intro g n running
    have record : s.millisecond.group g = { s.group g with hold := State.tickTimer (s.group g).hold } := by
      simp [State.millisecond, State.group]
    rw [record] at running ⊢
    obtain ⟨m, before, rfl⟩ := Option.map_eq_some_iff.mp running
    obtain ⟨suspect, top⟩ := laws g m before
    exact ⟨suspect, (Nat.sub_le _ _).trans top⟩
  | examineGroup g => exact State.examineGroup_groupLaws laws g
  | holdStops g => exact State.setGroup_groupLaws laws fun n running => by cases running
  | takeDownEntry p => exact State.takeDownEntry_groupLaws params laws p
  | monitor moves _ => exact laws.of_same (moves False False.elim).others.2.1
  | responseSent sent =>
    rcases responseSent_cases sent with same | ⟨body, rest, -, -, same⟩
    · rwa [same]
    · rw [same]; exact laws
  | handed | time | exch | pathRx | dropEnded | failBackStops | startWalk | hostRecord | trunkLosEnd =>
    exact laws
  | _ => exact laws.of_same (by simp)

/-! ## The walk record (R140, R144) -/

theorem WalkLaws.of_same {s t : State} (laws : WalkLaws s) (walker : t.walker = s.walker) :
    WalkLaws t := by
  unfold WalkLaws
  rw [walker]
  exact laws

namespace State

variable {s : State}

theorem endWalk_walkLaws (b : Bool)
    (counts : s.walker.written + s.walker.skipped ≤ s.walker.total ∧ s.walker.total ≤ 128) :
    WalkLaws (s.endWalk b) :=
  ⟨fun walking => (by cases walking), counts⟩

theorem walkStep_walkLaws (laws : WalkLaws s) {o : WalkOrder} (walking : s.walker.state = .walking) :
    WalkLaws (s.walkStep o) := by
  obtain ⟨rectangle, -, top⟩ := laws
  obtain ⟨o', order, total, fewer⟩ := rectangle walking
  have one (t : Trunk) (slot : StationSlot) :
      (s.stepRecord o t slot).written + (s.stepRecord o t slot).skipped =
        s.walker.written + s.walker.skipped + 1 := by
    simp only [stepRecord]
    split <;> omega
  unfold walkStep
  dsimp only
  split
  case isTrue ended => exact endWalk_walkLaws true ⟨ended.le, top⟩
  case isFalse more =>
    refine ⟨fun _ => ⟨o', order, total, ?_⟩, ?_, top⟩
    · refine lt_of_le_of_ne ?_ more
      exact (one _ _).trans_le fewer
    · exact (one _ _).trans_le fewer

theorem startedWalk_walkLaws (s : State) (o : WalkOrder) : WalkLaws (s.setWalker (startedWalk o)) :=
  ⟨fun _ => ⟨o, rfl, rfl, o.total_pos⟩, Nat.zero_le _, o.total_le⟩

theorem fresh_walkLaws (straps : Straps) (lines : LineMeasures) (l : List Instr) :
    WalkLaws (fresh straps lines l) :=
  ⟨nofun, le_refl _, Nat.zero_le _⟩

end State

/-- Every event keeps the walk record in its ranges. -/
theorem Event.walkLaws {s t : State} (e : Event s t) (laws : WalkLaws s) : WalkLaws t := by
  cases e with
  | fresh => exact State.fresh_walkLaws _ _ _
  | bulkStepDue =>
    unfold State.bulkStepDue
    split
    · exact laws
    · exact laws
  | walkStep walking order => exact State.walkStep_walkLaws laws walking
  | startWalk o => exact s.startedWalk_walkLaws o
  | endWalk b => exact State.endWalk_walkLaws b laws.2
  | monitor moves _ => exact laws.of_same (moves False False.elim).others.2.2.1
  | responseSent sent =>
    rcases responseSent_cases sent with same | ⟨body, rest, -, -, same⟩
    · rwa [same]
    · rw [same]; exact laws
  | handed | time | exch | pathRx | dropEnded | holdStops | failBackStops | hostRecord | trunkLosEnd =>
    exact laws
  | _ => exact laws.of_same (by simp)

/-! ## The route table (R3, R4, R133) -/

/-- R4 and R133 of every entry. -/
def RoutesInRange (s : State) : Prop := ∀ c, RouteInRange (s.route c)

theorem RoutesInRange.of_same {s t : State} (laws : RoutesInRange s) (routes : t.routes = s.routes) :
    RoutesInRange t := fun c => by
  rw [State.route_congr routes]
  exact laws c

/-- An entry out of STAGED has no timer. -/
theorem RouteInRange.of_unstaged {r : Route} (moves : r.moves ≤ 255)
    (unstaged : ∀ cur m, r.standing ≠ .staged cur m) : RouteInRange r :=
  ⟨moves, fun cur m staged => absurd staged (unstaged cur m)⟩

namespace State

variable {s : State}

theorem setRoute_routesInRange (laws : RoutesInRange s) {c : Circuit} {r : Route}
    (fits : RouteInRange r) : RoutesInRange (s.setRoute c r) := fun d => by
  rw [route_setRoute]
  split_ifs
  · exact fits
  · exact laws d

theorem joinQueue_routesInRange (laws : RoutesInRange s) (c : Circuit) : RoutesInRange (s.joinQueue c) :=
  laws.of_same (by simp)

theorem leaveQueue_routesInRange (laws : RoutesInRange s) (c : Circuit) :
    RoutesInRange (s.leaveQueue c) :=
  laws.of_same (by simp)

theorem leaveStranded_routesInRange (laws : RoutesInRange s) (c : Circuit) :
    RoutesInRange (s.leaveStranded c) :=
  laws.of_same (by simp)

theorem capacityEvent_routesInRange (laws : RoutesInRange s) : RoutesInRange s.capacityEvent := fun c => by
  rw [route_capacityEvent]
  split_ifs
  · exact .of_unstaged (laws c).1 (by simp)
  · exact laws c

theorem capacityIf_routesInRange (laws : RoutesInRange s) (b : Bool) :
    RoutesInRange (s.capacityIf b) := by
  cases b
  · exact laws
  · exact capacityEvent_routesInRange laws

theorem settleSweep_routesInRange (laws : RoutesInRange s) : RoutesInRange s.settleSweep :=
  laws.of_same (by simp)

theorem cutover_routesInRange (laws : RoutesInRange s) (c : Circuit) (cur : CurrentSet)
    (m : StagedSet) : RoutesInRange (s.cutover c cur m) := by
  refine settleSweep_routesInRange (capacityIf_routesInRange ?_ _)
  refine setRoute_routesInRange ?_ (.of_unstaged (bump8_le _) (by simp))
  exact laws.of_same (by simp)

theorem writeInService_routesInRange (laws : RoutesInRange s) (c : Circuit) (f : RouteFields) :
    RoutesInRange (s.writeInService c f) := by
  have moves := (laws c).1
  cases standing : (s.route c).standing with
  | idle | barred =>
    simp only [writeInService, standing]
    refine settleSweep_routesInRange (joinQueue_routesInRange (setRoute_routesInRange laws ?_) c)
    exact .of_unstaged moves (by simp)
  | stranded =>
    simp only [writeInService, standing]
    refine settleSweep_routesInRange (joinQueue_routesInRange (leaveStranded_routesInRange
      (setRoute_routesInRange laws ?_) c) c)
    exact .of_unstaged moves (by simp)
  | displaced =>
    simp only [writeInService, standing]
    exact settleSweep_routesInRange (setRoute_routesInRange laws (.of_unstaged moves (by simp)))
  | routed cur =>
    simp only [writeInService, standing]
    refine settleSweep_routesInRange (joinQueue_routesInRange (setRoute_routesInRange laws ?_) c)
    exact .of_unstaged moves (by simp)
  | staged cur m =>
    simp only [writeInService, standing]
    have freed : RoutesInRange (s.releaseSlot m.path) := laws.of_same (by simp)
    have entry : RoutesInRange ((s.releaseSlot m.path).setRoute c
        { s.route c with fields := f, standing := .routed cur }) :=
      setRoute_routesInRange freed (.of_unstaged moves (by simp))
    exact settleSweep_routesInRange (capacityIf_routesInRange (joinQueue_routesInRange entry c) _)

theorem writeOutOfService_routesInRange (laws : RoutesInRange s) (c : Circuit) (f : RouteFields)
    {x : Standing} (unstaged : ∀ cur m, x ≠ .staged cur m) {n : Nat} (moves : n ≤ 255) :
    RoutesInRange (s.writeOutOfService c f x n) := by
  have freed : RoutesInRange (s.releaseAll (s.route c).standing.slots) := laws.of_same (by simp)
  have entry : RoutesInRange ((s.releaseAll (s.route c).standing.slots).setRoute c
      { s.route c with fields := f, standing := x, moves := n }) :=
    setRoute_routesInRange freed (.of_unstaged moves unstaged)
  unfold writeOutOfService
  dsimp only
  exact settleSweep_routesInRange (capacityIf_routesInRange (leaveStranded_routesInRange
    (leaveQueue_routesInRange entry c) c) _)

theorem writeEntry_routesInRange (laws : RoutesInRange s) (c : Circuit) (v : Service)
    (f : RouteFields) : RoutesInRange (s.writeEntry c v f) := by
  cases v with
  | inService => exact writeInService_routesInRange laws c f
  | barred => exact writeOutOfService_routesInRange laws c f (by simp) (laws c).1
  | idle => exact writeOutOfService_routesInRange laws c f (by simp) (Nat.zero_le _)

theorem walkStep_routesInRange (laws : RoutesInRange s) (o : WalkOrder) :
    RoutesInRange (s.walkStep o) := by
  refine RoutesInRange.of_same ?_ (s.walkStep_routes o)
  unfold applyStep
  dsimp only
  split
  · exact writeEntry_routesInRange laws _ _ _
  · exact laws

/-- R116 to R121: the outcome of a resolution; a staging starts its timer at the hold limit. -/
theorem applyOutcome_routesInRange (laws : RoutesInRange s) (limit : s.param .cleanHoldLimit ≤ 60000)
    (c : Circuit) (x : Resolved) : RoutesInRange (s.applyOutcome c x) := by
  have moves := (laws c).1
  have update {t : State} {r : Route} (entry : ∀ d, t.route d = if d = c then r else s.route d)
      (fits : RouteInRange r) : RoutesInRange t := fun d => by
    rw [entry]
    split_ifs
    · exact fits
    · exact laws d
  have stay (cur : CurrentSet) (b : Bool) : RoutesInRange (s.stay c cur b) :=
    update (fun d => s.route_stay c d cur b) (.of_unstaged moves (by simp))
  cases standing : (s.route c).standing with
  | displaced =>
    cases x with
    | result found =>
      simp only [applyOutcome, standing]
      refine update (fun d => s.route_place c d found) (.of_unstaged ?_ (by simp))
      dsimp only
      split
      · exact bump8_le _
      · exact moves
    | failure fault =>
      simp only [applyOutcome, standing]
      exact update (fun d => s.route_strand c d fault) (.of_unstaged moves (by simp))
  | routed cur =>
    cases x with
    | failure fault =>
      simp only [applyOutcome, standing]
      exact (stay cur false).of_same (by simp)
    | result found =>
      simp only [applyOutcome, standing]
      split_ifs
      · exact stay _ _
      · cases (s.route c).fields.discipline with
        | prompt =>
          exact capacityIf_routesInRange
            (update (fun d => s.route_moved c d cur found) (.of_unstaged (bump8_le _) (by simp))) _
        | clean =>
          refine update (fun d => s.route_stage c d cur found) ⟨moves, fun _ m staged => ?_⟩
          cases staged
          exact limit
  | idle | barred | staged | stranded =>
    simp only [applyOutcome, standing]
    exact laws

theorem reviewRange_routesInRange (laws : RoutesInRange s) (tier : Tier) (a b : Circuit) :
    RoutesInRange (s.reviewRange tier a b) := fun c => by
  rw [route_reviewRange]
  split_ifs with reviews
  · have reviewable := reviewable_of_reviews reviews
    refine .of_unstaged (laws c).1 fun cur m staged => ?_
    cases standing : (s.route c).standing with
    | staged => rw [standing] at reviewable; cases reviewable
    | _ => simp [standing, Standing.underReview] at staged
  · exact laws c

theorem departRoute_inRange {r : Route} (fits : RouteInRange r) (p : Port) :
    RouteInRange (departRoute p r) := by
  obtain ⟨moves, timer⟩ := fits
  cases standing : r.standing with
  | idle | barred | displaced | stranded =>
    simp only [departRoute, standing]
    exact ⟨moves, timer⟩
  | routed cur =>
    simp only [departRoute, standing]
    split_ifs
    · exact .of_unstaged moves (by simp)
    · exact ⟨moves, timer⟩
  | staged cur m =>
    simp only [departRoute, standing]
    split_ifs
    · exact .of_unstaged (bump8_le _) (by simp)
    · exact .of_unstaged (bump8_le _) (by simp)
    · exact .of_unstaged moves (by simp)
    · exact ⟨moves, timer⟩

theorem millisecond_routesInRange (laws : RoutesInRange s) : RoutesInRange s.millisecond := fun c => by
  have entry : s.millisecond.route c =
      { s.route c with standing := tickStanding (s.route c).standing } := by simp [millisecond, route]
  rw [entry]
  obtain ⟨moves, timer⟩ := laws c
  refine ⟨moves, fun cur m staged => ?_⟩
  cases standing : (s.route c).standing with
  | staged cur' m' =>
    simp only [standing, tickStanding, Standing.staged.injEq] at staged
    rw [← staged.2]
    exact (Nat.sub_le _ _).trans (timer cur' m' standing)
  | _ => simp [standing, tickStanding] at staged

theorem beginFrame_routesInRange (laws : RoutesInRange s) : RoutesInRange s.beginFrame := fun c => by
  have entry : s.beginFrame.route c =
      { s.route c with standing := markSeen (s.route c).standing } := by simp [beginFrame, route]
  rw [entry]
  obtain ⟨moves, timer⟩ := laws c
  refine ⟨moves, fun cur m staged => ?_⟩
  cases standing : (s.route c).standing with
  | staged cur' m' =>
    simp only [standing, markSeen, Standing.staged.injEq] at staged
    rw [← staged.2]
    exact timer cur' m' standing
  | _ => simp [standing, markSeen] at staged

theorem setStationLost_routesInRange (laws : RoutesInRange s) (k : Trunk) (b : Bool) :
    RoutesInRange (s.setStationLost k b) := fun c => by
  have entry : (s.setStationLost k b).route c =
      if trunkOf c = k then { s.route c with stationLost := b } else s.route c := by
    simp [setStationLost, route]
  rw [entry]
  split
  · exact laws c
  · exact laws c

theorem stationOctet_routesInRange (laws : RoutesInRange s) (c : Circuit) (o : Octet) :
    RoutesInRange (s.stationOctet c o) := by
  have mark (u : State) (h : RoutesInRange u) : RoutesInRange (u.markBlockEnd c o) := by
    unfold markBlockEnd
    split
    case h_1 cur m standing =>
      split
      · refine setRoute_routesInRange h ⟨(h c).1, fun _ _ staged => ?_⟩
        cases staged
        exact (h c).2 cur m standing
      · exact h
    case h_2 => exact h
  unfold stationOctet
  split
  · split
    · exact laws
    · exact mark _ laws
  · exact laws

theorem trunkOctet_routesInRange (laws : RoutesInRange s) (k : Trunk) (o : Octet) :
    RoutesInRange (s.trunkOctet k o) := by
  have moved (f : Framer) (b : Bool) : RoutesInRange ((s.setTrunk k f).setStationLost k b) :=
    setStationLost_routesInRange (s := s.setTrunk k f) laws k b
  cases state : (s.trunk k).state with
  | noSignal => simpa only [trunkOctet, state] using laws
  | hunting =>
    simp only [trunkOctet, state]
    split
    · exact moved _ _
    · exact laws
  | aligned =>
    simp only [trunkOctet, state]
    split
    · unfold trunkAlignment
      dsimp only
      split_ifs
      · exact laws
      · exact laws
      · exact moved _ _
    · exact stationOctet_routesInRange (s := s.setTrunk k _) laws _ o

theorem trunkLosOnset_routesInRange (laws : RoutesInRange s) (k : Trunk) :
    RoutesInRange (s.trunkLosOnset k) := by
  unfold trunkLosOnset
  dsimp only
  split
  · exact laws
  · exact laws
  · exact setStationLost_routesInRange (s := s.setTrunk k _) laws k true

theorem fresh_routesInRange (straps : Straps) (lines : LineMeasures) (l : List Instr) :
    RoutesInRange (fresh straps lines l) := by
  intro c
  have entry : (fresh straps lines l).route c = Route.reset := by simp [fresh, route]
  rw [entry]
  exact .of_unstaged (Nat.zero_le _) (by simp [Route.reset])

end State

theorem Move.routesInRange {guarded looping : Prop} {s t : State} (m : Move guarded looping s t)
    (laws : RoutesInRange s) : RoutesInRange t := by
  cases m with
  | record | change | checker | handed => exact laws
  | @depart p x =>
    intro c
    have entry : (s.departed p x).route c = departRoute p (s.route c) := by
      unfold State.departed
      dsimp only
      split <;> rw [State.route_portDeparture, State.route_congr (t := s) (by simp)]
    rw [entry]
    exact State.departRoute_inRange (laws c) p
  | enterSuspect | latches | takeProbe => exact laws.of_same (by simp)
  | @enterUp p q =>
    have up (u : State) (h : RoutesInRange u) : RoutesInRange (u.enterUp p) := by
      unfold State.enterUp
      refine State.settleSweep_routesInRange (State.capacityEvent_routesInRange (h.of_same ?_))
      simp
    exact up _ laws

theorem Event.routesInRange {s t : State} (e : Event s t) (params : ParamLaws s)
    (laws : RoutesInRange s) : RoutesInRange t := by
  cases e with
  | fresh => exact State.fresh_routesInRange _ _ _
  | millisecond => exact State.millisecond_routesInRange laws
  | beginFrame => exact State.beginFrame_routesInRange laws
  | trunkOctet k o => exact State.trunkOctet_routesInRange laws k o
  | trunkLosOnset k => exact State.trunkLosOnset_routesInRange laws k
  | cutover => exact State.cutover_routesInRange laws _ _ _
  | resolution =>
    exact State.settleSweep_routesInRange
      (State.applyOutcome_routesInRange (s := s.leaveQueue _) laws (params.1 .cleanHoldLimit).2 _ _)
  | writeEntry => exact State.writeEntry_routesInRange laws _ _ _
  | reviewRange => exact State.reviewRange_routesInRange laws _ _ _
  | writeDescriptor =>
    unfold State.writeDescriptor
    exact State.settleSweep_routesInRange (State.capacityEvent_routesInRange (laws.of_same (by simp)))
  | walkStep => exact State.walkStep_routesInRange laws _
  | storeCeiling p n =>
    have raised (r : PortRecord) : RoutesInRange (s.setPort p r).capacityEvent.settleSweep :=
      State.settleSweep_routesInRange (State.capacityEvent_routesInRange (s := s.setPort p r) laws)
    unfold State.storeCeiling
    dsimp only
    split
    · exact raised _
    · exact laws
  | monitor moves _ =>
    exact (moves False False.elim).keep (fun m h => m.routesInRange h) laws
  | loopbackOn p ready =>
    have moves := s.loopPort_moves (guarded := False) p ready False.elim
    exact (moves.keep (fun m h => m.routesInRange h) laws).of_same (by simp)
  | responseSent sent =>
    rcases responseSent_cases sent with same | ⟨body, rest, -, -, same⟩
    · rwa [same]
    · rw [same]; exact laws
  | handed | time | exch | pathRx | dropEnded | holdStops | failBackStops | startWalk | hostRecord |
    trunkLosEnd => exact laws
  | _ => exact laws.of_same (by simp)

end Sys2Proof.Machine
end

section
/-! The checker's counts (R84), the tallies of the host records (R153) and the fields of the receivers
(section 3.2) in their ranges, kept by every event; with them the laws of the ranges (R60 to R168), and that a
reset meets every law. -/

namespace Sys2Proof.Machine

/-! ## The checker (R84) -/

namespace State

variable {s : State}

/-- R85: a probe starts with the length and the limit that the parameters give. -/
theorem takeProbe_checkerInRange (params : ParamLaws s) (fits : CheckerInRange s.checker) :
    CheckerInRange s.takeProbe.checker := by
  cases idle : s.checker.state with
  | seeding e | counting e => rwa [s.takeProbe_of_busy (by simp [idle])]
  | idle =>
    cases front : s.checker.queue with
    | nil => rwa [s.takeProbe_of_empty front]
    | cons e rest =>
      obtain ⟨least, greatest⟩ := params.1 .probeLen
      have limit : s.param .probeMaxErr ≤ 65535 := (params.1 .probeMaxErr).2
      have started : CheckerInRange
          { state := .seeding e, generator := Stages.ones, check := Stages.ones, seeds := []
            compared := 0, errors := 0, length := s.param .probeLen, limit := s.param .probeMaxErr
            queue := rest, started := false, returned := none } :=
        ⟨least, greatest, limit, Nat.zero_le _, lt_of_lt_of_le (by simp [paramLow]) least, Nat.zero_le _⟩
      rw [s.takeProbe_of_entry idle front]
      cases e.kind with
      | recovery => exact started
      | demand => exact started

theorem checkerBegins_inRange (fits : CheckerInRange s.checker) : CheckerInRange s.checkerBegins := by
  unfold checkerBegins
  split
  · exact fits
  · exact fits

theorem probeOctet_checkerInRange (fits : CheckerInRange s.checker) (p : Port) (o : Octet) :
    CheckerInRange (s.probeOctet p o).checker := by
  unfold probeOctet
  split
  · exact fits
  · exact fits

end State

theorem Move.checkerInRange {guarded looping : Prop} {s t : State} (m : Move guarded looping s t)
    (params : ParamLaws s) (fits : CheckerInRange s.checker) : CheckerInRange t.checker := by
  cases m with
  | record | change | handed => exact fits
  | depart =>
    unfold State.departed
    dsimp only
    split <;> simpa using fits
  | checker fits' => exact fits' fits
  | takeProbe => exact State.takeProbe_checkerInRange params fits
  | enterSuspect | enterUp | latches => simpa using fits

theorem Moves.checkerInRange {guarded looping : Prop} {s t : State} (m : Moves guarded looping s t)
    (params : ParamLaws s) (fits : CheckerInRange s.checker) : CheckerInRange t.checker :=
  (m.keep (P := fun u => ParamLaws u ∧ CheckerInRange u.checker)
    (fun m h => ⟨h.1.of_same m.others.2.2.2, m.checkerInRange h.1 h.2⟩) ⟨params, fits⟩).2

/-- Every event keeps the checker's counts in their ranges. -/
theorem Event.checkerInRange {s t : State} (e : Event s t) (params : ParamLaws s)
    (fits : CheckerInRange s.checker) : CheckerInRange t.checker := by
  cases e with
  | fresh => simp [State.fresh, Checker.reset, CheckerInRange]
  | beginFrame => exact State.checkerBegins_inRange fits
  | probeOctet p o => exact State.probeOctet_checkerInRange fits p o
  | monitor moves _ => exact (moves False False.elim).checkerInRange params fits
  | loopbackOn p ready =>
    have moves := s.loopPort_moves (guarded := False) p ready False.elim
    simpa using moves.checkerInRange params fits
  | @leaveLoop p r looped after timer fits' =>
    have moves := s.setPort_cancelProbe_moves (guarded := False) (looping := True) (p := p) (r := r)
      False.elim (State.not_inService_of_looped looped)
      (by rcases after with h | h <;> rw [h] <;> rfl) (fun _ => .inl trivial) timer fits'
    simpa using moves.checkerInRange params fits
  | responseSent sent =>
    rcases responseSent_cases sent with same | ⟨body, rest, -, -, same⟩
    · rwa [same]
    · rw [same]; exact fits
  | handed | time | exch | pathRx | dropEnded | holdStops | failBackStops | startWalk | hostRecord |
    trunkLosEnd => exact fits
  | _ => simpa using fits

/-! ## The tallies of the host records (R153) -/

/-- R153 of every host record. -/
def HostsInRange (s : State) : Prop := ∀ h, TalliesInRange (s.hostRecord h)

theorem HostsInRange.of_same {s t : State} (laws : HostsInRange s) (hosts : t.hosts = s.hosts) :
    HostsInRange t := fun h => by
  have same : t.hostRecord h = s.hostRecord h := by simp [State.hostRecord, hosts]
  rw [same]
  exact laws h

theorem HostRecord.record_tallies {r : HostRecord} (fits : TalliesInRange r) (o : Occurrence) :
    TalliesInRange (r.record o) := by
  obtain ⟨chain, forced, probe⟩ := fits
  cases o with
  | chainFault => exact ⟨bump8_le _, forced, probe⟩
  | forcedCutover => exact ⟨chain, bump8_le _, probe⟩
  | probeResult => exact ⟨chain, forced, bump8_le _⟩
  | _ => exact ⟨chain, forced, probe⟩

namespace State

variable {s : State}

theorem recordAll_hostsInRange (laws : HostsInRange s) (o : Occurrence) :
    HostsInRange (s.recordAll o) := fun h => by
  have record : (s.recordAll o).hostRecord h = (s.hostRecord h).record o := by
    simp [recordAll, hostRecord]
  rw [record]
  exact HostRecord.record_tallies (laws h) o

theorem setLatches_hostsInRange (laws : HostsInRange s) : HostsInRange s.setLatches := fun h => by
  have record : s.setLatches.hostRecord h = { s.hostRecord h with latch := true } := by
    simp [setLatches, hostRecord]
  rw [record]
  exact laws h

theorem latchIfLost_hostsInRange (laws : HostsInRange s) : HostsInRange s.latchIfLost := by
  unfold latchIfLost
  split
  · exact setLatches_hostsInRange laws
  · exact laws

theorem setHostRecord_hostsInRange (laws : HostsInRange s) {h : HostId} {r : HostRecord}
    (fits : TalliesInRange r) : HostsInRange (s.setHostRecord h r) := fun j => by
  rw [hostRecord_setHostRecord]
  split_ifs
  · exact fits
  · exact laws j

theorem fresh_hostsInRange (straps : Straps) (lines : LineMeasures) (l : List Instr) :
    HostsInRange (fresh straps lines l) := by
  intro h
  have record : (fresh straps lines l).hostRecord h = HostRecord.reset := by simp [fresh, hostRecord]
  rw [record]
  exact ⟨Nat.zero_le _, Nat.zero_le _, Nat.zero_le _⟩

end State

theorem Move.hostsInRange {guarded looping : Prop} {s t : State} (m : Move guarded looping s t)
    (laws : HostsInRange s) : HostsInRange t := by
  cases m with
  | record | change | checker | handed => exact laws
  | depart =>
    refine laws.of_same ?_
    unfold State.departed
    dsimp only
    split <;> simp
  | latches => exact State.latchIfLost_hostsInRange laws
  | enterSuspect | enterUp | takeProbe => exact laws.of_same (by simp)

/-- Every event keeps the tallies of the host records in their ranges. -/
theorem Event.hostsInRange {s t : State} (e : Event s t) (laws : HostsInRange s) : HostsInRange t := by
  cases e with
  | fresh => exact State.fresh_hostsInRange _ _ _
  | recordAll o => exact State.recordAll_hostsInRange laws o
  | @hostRecord h r fits => exact State.setHostRecord_hostsInRange laws (fits (laws h))
  | monitor moves _ => exact (moves False False.elim).keep (fun m h => m.hostsInRange h) laws
  | loopbackOn p ready =>
    have moves := s.loopPort_moves (guarded := False) p ready False.elim
    exact (moves.keep (fun m h => m.hostsInRange h) laws).of_same (by simp)
  | responseSent sent =>
    rcases responseSent_cases sent with same | ⟨body, rest, -, -, same⟩
    · rwa [same]
    · rw [same]; exact laws
  | handed | time | exch | pathRx | dropEnded | holdStops | failBackStops | startWalk | trunkLosEnd =>
    exact laws
  | _ => exact laws.of_same (by simp)

/-! ## The receivers (section 3.2) -/

/-- The law of the receivers, a receiver at a time. -/
theorem receiversInRange_iff (s : State) :
    ReceiversInRange s ↔ (∀ k, FramerInRange (s.trunk k) 17) ∧ ∀ p, (s.pathRx p).InRange := Iff.rfl

theorem ReceiversInRange.of_same {s t : State} (laws : ReceiversInRange s)
    (trunks : t.trunks = s.trunks) (rx : t.rx = s.rx) : ReceiversInRange t := by
  refine ⟨fun k => ?_, fun p => ?_⟩
  · have same : t.trunk k = s.trunk k := by simp [State.trunk, trunks]
    rw [same]
    exact laws.1 k
  · rw [State.pathRx_congr rx]
    exact laws.2 p

namespace State

variable {s : State}

theorem setTrunk_receiversInRange (laws : ReceiversInRange s) {k : Trunk} {f : Framer}
    (fits : FramerInRange f 17) : ReceiversInRange (s.setTrunk k f) := by
  refine ⟨fun j => ?_, laws.2⟩
  rw [trunk_setTrunk]
  split_ifs
  · exact fits
  · exact laws.1 j

theorem setPathRx_receiversInRange (laws : ReceiversInRange s) {p : Port} {r : PathRx}
    (fits : r.InRange) : ReceiversInRange (s.setPathRx p r) := by
  refine ⟨laws.1, fun q => ?_⟩
  rw [pathRx_setPathRx]
  split_ifs
  · exact fits
  · exact laws.2 q

theorem trunkOctet_receiversInRange (laws : ReceiversInRange s) (k : Trunk) (o : Octet) :
    ReceiversInRange (s.trunkOctet k o) := by
  have fits := laws.1 k
  have written {f : Framer} (fits : FramerInRange f 17) : ReceiversInRange (s.setTrunk k f) :=
    setTrunk_receiversInRange laws fits
  cases state : (s.trunk k).state with
  | noSignal =>
    simp only [trunkOctet, state]
    exact laws
  | hunting =>
    simp only [trunkOctet, state]
    split
    · exact (written (.align (f := s.trunk k) (by decide))).of_same (by simp) (by simp)
    · exact written (fits.search _)
  | aligned =>
    simp only [trunkOctet, state]
    split
    · unfold trunkAlignment
      dsimp only
      split_ifs with good bad
      · exact written (fits.run (Nat.zero_le 2)).advance
      · exact written (fits.run bad).advance
      · exact (written (.lose (f := s.trunk k) .hunting (by decide))).of_same (by simp) (by simp)
    · exact (written fits.advance).of_same (by simp) (by simp)

theorem trunkLosOnset_receiversInRange (laws : ReceiversInRange s) (k : Trunk) :
    ReceiversInRange (s.trunkLosOnset k) := by
  have lost : ReceiversInRange (s.setTrunk k ((s.trunk k).lose .noSignal)) :=
    setTrunk_receiversInRange laws (.lose .noSignal (by decide))
  cases state : (s.trunk k).state with
  | noSignal =>
    simp only [trunkLosOnset, state]
    exact laws
  | hunting =>
    simp only [trunkLosOnset, state]
    exact lost
  | aligned =>
    simp only [trunkLosOnset, state]
    exact lost.of_same (by simp) (by simp)

theorem measureLines_receiversInRange (laws : ReceiversInRange s) (a b : BitVec 8) :
    ReceiversInRange (s.measureLines a b) := by
  refine ⟨fun k => ?_, fun p => ?_⟩
  · have line : (s.measureLines a b).trunk k =
        { s.trunk k with measure := measureAfter (s.trunk k).measure (a.getLsbD k.val) } := by
      simp [measureLines, trunk]
    rw [line]
    exact laws.1 k
  · have line : ((s.measureLines a b).pathRx p) =
        { s.pathRx p with
          framer :=
            { (s.pathRx p).framer with
              measure := measureAfter (s.pathRx p).framer.measure (b.getLsbD p.val) } } := by
      simp [measureLines, pathRx]
    rw [line]
    exact laws.2 p

theorem beginFrame_receiversInRange (laws : ReceiversInRange s) : ReceiversInRange s.beginFrame := by
  refine ⟨fun k => ?_, fun p => ?_⟩
  · have same : s.beginFrame.trunk k = s.trunk k := by simp [beginFrame, trunk]
    rw [same]
    exact laws.1 k
  · have mark : s.beginFrame.pathRx p =
        { s.pathRx p with beganHunting := decide ((s.pathRx p).framer.state = .hunting) } := by
      simp [beginFrame, pathRx]
    rw [mark]
    exact laws.2 p

theorem start_inRange (m : LineMeasure) : (PathRx.start m).InRange := by
  simp [PathRx.start, Framer.start, PathRx.InRange, FramerInRange]

theorem fresh_receiversInRange (straps : Straps) (lines : LineMeasures) (l : List Instr) :
    ReceiversInRange (fresh straps lines l) := by
  refine ⟨fun k => ?_, fun p => ?_⟩
  · simp [fresh, trunk, Framer.start, FramerInRange]
  · have start : (fresh straps lines l).pathRx p = PathRx.start (lines.paths[p]) := by
      simp [fresh, pathRx]
    rw [start]
    exact start_inRange _

end State

/-- Every event keeps the fields of the receivers in their ranges. -/
theorem Event.receiversInRange {s t : State} (e : Event s t) (laws : ReceiversInRange s) :
    ReceiversInRange t := by
  cases e with
  | fresh => exact State.fresh_receiversInRange _ _ _
  | measureLines a b =>
    exact State.measureLines_receiversInRange laws a b
  | beginFrame => exact State.beginFrame_receiversInRange laws
  | trunkOctet k o => exact State.trunkOctet_receiversInRange laws k o
  | trunkLosOnset k => exact State.trunkLosOnset_receiversInRange laws k
  | trunkLosEnd => exact State.setTrunk_receiversInRange laws (.lose .hunting (by decide))
  | @pathRx p r line stays fits => exact State.setPathRx_receiversInRange laws (fits (laws.2 p))
  | @leaveAligned p x =>
    refine (State.setPathRx_receiversInRange laws (p := p)
      (r := { s.pathRx p with framer := (s.pathRx p).framer.lose x, formRun := 0 }) ?_).of_same
      (by simp) (by simp)
    exact ⟨.lose x (by decide), Nat.zero_le _, fun _ => rfl⟩
  | monitor moves _ =>
    exact laws.of_same (moves False False.elim).others.1 (moves False False.elim).slots.2.2
  | loopbackOn p ready =>
    have moves := s.loopPort_moves (guarded := False) p ready False.elim
    have before : ReceiversInRange ((s.loopPort p ready).beginTest p) :=
      laws.of_same moves.others.1 moves.slots.2.2
    refine ReceiversInRange.of_same
      (s := ((s.loopPort p ready).beginTest p).enterLoop p ready) ?_ (by simp) (by simp)
    exact State.setPathRx_receiversInRange before
      ⟨⟨Nat.zero_le _, Nat.succ_pos _, Nat.zero_le _⟩, Nat.zero_le _, fun _ => rfl⟩
  | @leaveLoop p r =>
    have before : ReceiversInRange ((s.setPort p r).cancelProbe p) := laws.of_same (by simp) (by simp)
    exact State.setPathRx_receiversInRange before (State.start_inRange _)
  | responseSent sent =>
    rcases responseSent_cases sent with same | ⟨body, rest, -, -, same⟩
    · rwa [same]
    · rw [same]; exact laws
  | handed | time | exch | dropEnded | holdStops | failBackStops | startWalk | hostRecord => exact laws
  | _ => exact laws.of_same (by simp) (by simp)

/-! ## The counts together -/

theorem countLaws_iff (s : State) : CountLaws s ↔
    RoutesInRange s ∧ CheckerInRange s.checker ∧ HostsInRange s ∧ ReceiversInRange s := Iff.rfl

theorem Event.countLaws {s t : State} (e : Event s t) (params : ParamLaws s) (laws : CountLaws s) :
    CountLaws t := by
  obtain ⟨routes, checker, hosts, receivers⟩ := laws
  exact ⟨e.routesInRange params routes, e.checkerInRange params checker, e.hostsInRange hosts,
    e.receiversInRange receivers⟩

/-- The laws of which each event needs the others. -/
def RangeLaws (s : State) : Prop :=
  ParamLaws s ∧ ProbeLaws s ∧ PortLaws s ∧ GroupLaws s ∧ WalkLaws s ∧ CountLaws s

theorem Event.rangeLaws {s t : State} (e : Event s t) (laws : RangeLaws s) : RangeLaws t := by
  obtain ⟨params, probe, ports, groups, walk, counts⟩ := laws
  exact ⟨e.paramLaws params, e.probeLaws probe, e.portLaws params probe ports,
    e.groupLaws params groups, e.walkLaws walk, e.countLaws params counts⟩

end Sys2Proof.Machine

section

open Sys2Proof Sys2Proof.Machine

/-- Settles O60, event by event. -/
theorem stepKeepsRangesAndThresholds : Obligations.StepKeepsRangesAndThresholds := by
  refine ⟨fun s s' laws next => ?_, fun s s' params probe ports groups walk counts next => ?_⟩
  · exact step_keeps Event.paramLaws (fun _ _ => id) laws next
  · obtain ⟨-, -, ports', groups', walk', counts'⟩ :=
      step_keeps Event.rangeLaws (fun _ _ => id) ⟨params, probe, ports, groups, walk, counts⟩ next
    exact ⟨ports', groups', walk', counts'⟩

/-- Settles O54: a reset meets each law. -/
theorem resetMeetsLaws : Obligations.ResetMeetsLaws := by
  rintro straps lines waiting s rfl
  exact ⟨State.fresh_slotLaws _ _ _, State.fresh_sweepLaws _ _ _, State.fresh_probeLaws _ _ _,
    State.fresh_controlLaws _ _ _, State.fresh_stationLaw _ _ _, State.fresh_paramLaws _ _ _,
    State.fresh_portLaws _ _ _, State.fresh_groupLaws _ _ _, State.fresh_walkLaws _ _ _,
    State.fresh_routesInRange _ _ _, by simp [State.fresh, Checker.reset, CheckerInRange],
    State.fresh_hostsInRange _ _ _, State.fresh_receiversInRange _ _ _⟩

end
end

section
/-! The operands of the requests (R14, R15, R41, R42, R78, R165): what each decoder of octets reads, said as the
octets that it reads back. -/

namespace Sys2Proof.Machine

/-! ## The decoders of an octet -/

theorem octetFin_eq_some_iff {n : Nat} (hn : n ≤ 256) {o : Octet} {i : Fin n} :
    octetFin n o = some i ↔ o = BitVec.ofNat 8 i.val := by
  constructor
  · intro read
    rw [← toNat_of_octetFin read, BitVec.ofNat_toNat, BitVec.setWidth_eq]
  · rintro rfl
    exact octetFin_ofNat hn i

/-- An octet is the one of a number when it has its value. -/
theorem octet_of_toNat {o : Octet} {n : Nat} (h : o.toNat = n) : o = BitVec.ofNat 8 n := by
  rw [← h, BitVec.ofNat_toNat, BitVec.setWidth_eq]

theorem serviceOf_eq_some_iff {o : Octet} {v : Service} :
    serviceOf o = some v ↔ o = BitVec.ofNat 8 v.code := by
  constructor
  · intro read
    unfold serviceOf at read
    split at read
    case h_4 => cases read
    all_goals cases read; exact octet_of_toNat ‹_›
  · rintro rfl
    exact serviceOf_code v

theorem disciplineOf_eq_some_iff {o : Octet} {d : Discipline} :
    disciplineOf o = some d ↔ o = BitVec.ofNat 8 d.code := by
  constructor
  · intro read
    unfold disciplineOf at read
    split at read
    case h_3 => cases read
    all_goals cases read; exact octet_of_toNat ‹_›
  · rintro rfl
    exact disciplineOf_code d

theorem withdrawnOf_eq_some_iff {o : Octet} {b : Bool} : withdrawnOf o = some b ↔ yesNo b = [o] := by
  constructor
  · intro read
    unfold withdrawnOf at read
    split at read
    case h_3 => cases read
    all_goals cases read; exact congrArg (· :: []) (octet_of_toNat ‹_›).symm
  · cases b <;> simp only [yesNo, one, List.cons.injEq, and_true] <;> rintro rfl <;> rfl

theorem slotOf_eq_some_iff {o : Octet} {n : Slot} :
    slotOf o = some n ↔ o = BitVec.ofNat 8 (n.val + 1) := by
  unfold slotOf
  constructor
  · intro read
    split at read
    case isTrue fits =>
      cases read
      exact octet_of_toNat (by simp only; omega)
    case isFalse => cases read
  · rintro rfl
    have value : (n.val + 1) % 256 = n.val + 1 := by omega
    have fits : n.val + 1 ≤ 30 := n.isLt
    simp [value, fits]

theorem pairValue_of_two {hi lo : Octet} {n : Nat} (hn : n < 65536) :
    [hi, lo] = two n ↔ pairValue hi lo = n := by
  constructor
  · intro same
    obtain ⟨rfl, rfl⟩ : hi = _ ∧ lo = _ := by simpa [two] using same
    exact pairValue_two hn
  · rintro rfl
    unfold pairValue at hn ⊢
    have high : hi.toNat = (256 * hi.toNat + lo.toNat) / 256 := by omega
    have low : BitVec.ofNat 8 (256 * hi.toNat + lo.toNat) = lo :=
      BitVec.eq_of_toNat_eq (by rw [BitVec.toNat_ofNat]; omega)
    rw [two, low, ← high, BitVec.ofNat_toNat, BitVec.setWidth_eq]

theorem descOf_eq_some_iff {hi lo : Octet} {d : Desc} :
    descOf hi lo = some d ↔ [hi, lo] = two d.val := by
  rw [pairValue_of_two (by omega)]
  unfold descOf
  constructor
  · intro read
    split at read
    · cases read; rfl
    · cases read
  · intro value
    simp [value]

theorem descOrAbsent_eq_some_iff {hi lo : Octet} {head : Option Desc} :
    descOrAbsent hi lo = some head ↔ [hi, lo] = descOctets head := by
  constructor
  · intro read
    unfold descOrAbsent at read
    split at read
    case isTrue absent =>
      cases read
      exact (pairValue_of_two (by decide)).mpr absent
    case isFalse =>
      obtain ⟨d, number, rfl⟩ := Option.map_eq_some_iff.mp read
      exact descOf_eq_some_iff.mp number
  · intro octets
    obtain ⟨hi', lo', octets', readBack⟩ := descOrAbsent_descOctets head
    obtain ⟨rfl, rfl⟩ : hi = hi' ∧ lo = lo' := by simpa using octets.trans octets'
    exact readBack

theorem slotRuleOf_eq_some_iff {rule n : Octet} {x : SlotRule} :
    slotRuleOf rule n = some x ↔ ∃ any, [rule, n] = ruleOctets x any := by
  constructor
  · intro read
    unfold slotRuleOf at read
    split at read
    case h_1 zero =>
      obtain ⟨m, slot, rfl⟩ := Option.map_eq_some_iff.mp read
      exact ⟨0, by rw [octet_of_toNat zero, slotOf_eq_some_iff.mp slot]; rfl⟩
    case h_2 one =>
      obtain ⟨m, slot, rfl⟩ := Option.map_eq_some_iff.mp read
      exact ⟨0, by rw [octet_of_toNat one, slotOf_eq_some_iff.mp slot]; rfl⟩
    case h_3 two =>
      cases read
      exact ⟨n, by rw [octet_of_toNat two]; rfl⟩
    case h_4 => cases read
  · rintro ⟨any, octets⟩
    cases x with
    | fixed m =>
      obtain ⟨rfl, rfl⟩ : rule = 0 ∧ n = BitVec.ofNat 8 (m.val + 1) := by
        simpa [ruleOctets, one] using octets
      have slot : slotOf (BitVec.ofNat 8 (m.val + 1)) = some m := slotOf_eq_some_iff.mpr rfl
      simp [slotRuleOf, slot]
    | offset m =>
      obtain ⟨rfl, rfl⟩ : rule = 1 ∧ n = BitVec.ofNat 8 (m.val + 1) := by
        simpa [ruleOctets, one] using octets
      have slot : slotOf (BitVec.ofNat 8 (m.val + 1)) = some m := slotOf_eq_some_iff.mpr rfl
      simp [slotRuleOf, slot]
    | pool =>
      obtain ⟨rfl, -⟩ : rule = 2 ∧ n = any := by simpa [ruleOctets] using octets
      rfl

/-! ## WRITE ROUTE (R15) -/

/-- A body that WRITE ROUTE accepts is the encoding of what is read. -/
theorem octets_of_routeWriteOf {k : Octet} {args : List Octet} {w : RouteWrite}
    (read : routeWriteOf (k :: args) = some w) :
    args = w.octets ∧ (w.service = .inService → w.fields.head ≠ none) := by
  unfold routeWriteOf at read
  split at read
  case h_2 => cases read
  case h_1 c sv h₁ h₂ t cl d e body =>
    simp only [Option.bind_eq_bind, Option.bind_eq_some_iff, Option.ite_none_right_eq_some,
      Option.some.injEq] at read
    obtain ⟨circuit, hc, service, hs, head, hh, tier, ht, cls, hk, discipline, hd, offset, ho, allowed,
      rfl⟩ := read
    obtain ⟨rfl, rfl⟩ : k = _ ∧ args = _ := by simpa using body
    have heads := descOrAbsent_eq_some_iff.mp hh
    rw [octetFin_eq_some_iff (by decide)] at hc ht hk ho
    rw [serviceOf_eq_some_iff] at hs
    rw [disciplineOf_eq_some_iff] at hd
    refine ⟨?_, (headAllowed_iff _ _).mp allowed⟩
    simp only [RouteWrite.octets, one, ← heads, hc, ht, hk, ho, hs, hd]
    rfl

theorem routeWriteOf_eq_some_iff (k : Octet) (args : List Octet) (w : RouteWrite) :
    routeWriteOf (k :: args) = some w ↔
      args = w.octets ∧ (w.service = .inService → w.fields.head ≠ none) :=
  ⟨octets_of_routeWriteOf, by rintro ⟨rfl, allowed⟩; exact routeWriteOf_octets k w allowed⟩

/-! ## WRITE DESCRIPTOR (R42) -/

/-- A body that WRITE DESCRIPTOR accepts is the encoding of what is read. -/
theorem octets_of_descWriteOf {k : Octet} {args : List Octet} {w : DescWrite}
    (read : descWriteOf (k :: args) = some w) : ∃ any, args = w.octets any := by
  unfold descWriteOf at read
  split at read
  case h_3 => cases read
  case h_1 d₁ d₂ kind t wd p rule n a₁ a₂ body =>
    simp only [Option.bind_eq_bind, Option.bind_eq_some_iff, Option.ite_none_right_eq_some,
      Option.some.injEq] at read
    obtain ⟨desc, hd, tier, ht, withdrawn, hw, port, hp, slotRule, hr, alternative, ha, rfl, rfl⟩ := read
    obtain ⟨rfl, rfl⟩ : k = _ ∧ args = _ := by simpa using body
    obtain ⟨any, rules⟩ := slotRuleOf_eq_some_iff.mp hr
    rw [octetFin_eq_some_iff (by decide)] at ht hp
    refine ⟨any, ?_⟩
    simp only [DescWrite.octets, one, ← descOf_eq_some_iff.mp hd, ← descOrAbsent_eq_some_iff.mp ha,
      ← rules, withdrawnOf_eq_some_iff.mp hw, ht, hp]
    rfl
  case h_2 d₁ d₂ kind t wd g₁ g₂ e body =>
    simp only [Option.bind_eq_bind, Option.bind_eq_some_iff, Option.ite_none_right_eq_some,
      Option.some.injEq] at read
    obtain ⟨desc, hd, tier, ht, withdrawn, hw, target, hg, shift, he, rfl, rfl⟩ := read
    obtain ⟨rfl, rfl⟩ : k = _ ∧ args = _ := by simpa using body
    rw [octetFin_eq_some_iff (by decide)] at ht he
    refine ⟨0, ?_⟩
    simp only [DescWrite.octets, one, ← descOf_eq_some_iff.mp hd, ← descOf_eq_some_iff.mp hg,
      withdrawnOf_eq_some_iff.mp hw, ht, he]
    rfl

/-- The encoding of the operands of WRITE DESCRIPTOR is read back, whatever the second octet of a POOL. -/
theorem descWriteOf_octets (k : Octet) (w : DescWrite) (any : Octet) :
    descWriteOf (k :: w.octets any) = some w := by
  obtain ⟨d, ⟨kind, tier, withdrawn⟩⟩ := w
  obtain ⟨d₁, d₂, desc⟩ : ∃ d₁ d₂, two d.val = [d₁, d₂] := ⟨_, _, rfl⟩
  obtain ⟨wd, flag⟩ : ∃ wd, yesNo withdrawn = [wd] := ⟨_, rfl⟩
  have hd := descOf_eq_some_iff.mpr desc.symm
  have hw := withdrawnOf_eq_some_iff.mpr flag
  cases kind with
  | path p rule alternative =>
    obtain ⟨a₁, a₂, heads, ha⟩ := descOrAbsent_descOctets alternative
    obtain ⟨r₁, r₂, rules⟩ : ∃ r₁ r₂, ruleOctets rule any = [r₁, r₂] := by
      cases rule <;> exact ⟨_, _, rfl⟩
    have hr := slotRuleOf_eq_some_iff.mpr ⟨any, rules.symm⟩
    simp [DescWrite.octets, descWriteOf, desc, flag, heads, rules, one, hd, hw, hr, ha, octetFin_ofNat]
  | divert target shift =>
    obtain ⟨g₁, g₂, targets⟩ : ∃ g₁ g₂, two target.val = [g₁, g₂] := ⟨_, _, rfl⟩
    have hg := descOf_eq_some_iff.mpr targets.symm
    simp [DescWrite.octets, descWriteOf, desc, flag, targets, one, hd, hw, hg, octetFin_ofNat]

theorem descWriteOf_eq_some_iff (k : Octet) (args : List Octet) (w : DescWrite) :
    descWriteOf (k :: args) = some w ↔ ∃ any, args = w.octets any :=
  ⟨octets_of_descWriteOf, by rintro ⟨any, rfl⟩; exact descWriteOf_octets k w any⟩

/-! ## SET PORT (R78) -/

/-- The code of an action of SET PORT. -/
def PortAction.octet : PortAction → Octet
  | .enable => 0 | .disable => 1 | .loopbackOn => 2 | .loopbackOff => 3 | .ceiling => 4 | .clearCounts => 5

theorem actionOf_eq_some_iff {o : Octet} {a : PortAction} : actionOf o = some a ↔ o = a.octet := by
  constructor
  · intro read
    unfold actionOf at read
    split at read
    case h_7 => cases read
    all_goals cases read; exact octet_of_toNat ‹_›
  · rintro rfl
    cases a <;> rfl

theorem readyOf_eq_some_iff {o : Octet} {ready : Bool} :
    readyOf o = some ready ↔ o = if ready then 0 else 1 := by
  constructor
  · intro read
    unfold readyOf at read
    split at read
    case h_3 => cases read
    all_goals cases read; exact octet_of_toNat ‹_›
  · cases ready <;> rintro rfl <;> rfl

theorem plainAction_eq_some_iff {a : PortAction} {k : Octet} {args : List Octet} {q : Port} :
    plainAction a (k :: args) = some q ↔ args = one q.val ++ [a.octet] := by
  constructor
  · intro read
    unfold plainAction at read
    split at read
    case h_2 => cases read
    case h_1 p x body =>
      obtain ⟨rfl, rfl⟩ : k = _ ∧ args = _ := by simpa using body
      obtain ⟨action, port⟩ := Option.ite_none_right_eq_some.mp read
      rw [(octetFin_eq_some_iff (by decide)).mp port, actionOf_eq_some_iff.mp action]
      rfl
  · rintro rfl
    have action : actionOf a.octet = some a := actionOf_eq_some_iff.mpr rfl
    simp [plainAction, one, action, octetFin_ofNat]

theorem actionWith_eq_some_iff {a : PortAction} {k : Octet} {args : List Octet} {q : Port} {v : Octet} :
    actionWith a (k :: args) = some (q, v) ↔ args = one q.val ++ [a.octet, v] := by
  constructor
  · intro read
    unfold actionWith at read
    split at read
    case h_2 => cases read
    case h_1 p x u body =>
      obtain ⟨rfl, rfl⟩ : k = _ ∧ args = _ := by simpa using body
      obtain ⟨action, ports⟩ := Option.ite_none_right_eq_some.mp read
      obtain ⟨q', port, same⟩ := Option.map_eq_some_iff.mp ports
      cases same
      rw [(octetFin_eq_some_iff (by decide)).mp port, actionOf_eq_some_iff.mp action]
      rfl
  · rintro rfl
    have action : actionOf a.octet = some a := actionOf_eq_some_iff.mpr rfl
    simp [actionWith, one, action, octetFin_ofNat]

theorem loopbackOnOf_eq_some_iff {k : Octet} {args : List Octet} {q : Port} {ready : Bool} :
    loopbackOnOf (k :: args) = some (q, ready) ↔ args = one q.val ++ [2, if ready then 0 else 1] := by
  constructor
  · intro read
    unfold loopbackOnOf at read
    split at read
    case h_1 p v action =>
      obtain ⟨b, setting, same⟩ := Option.map_eq_some_iff.mp read
      cases same
      rw [actionWith_eq_some_iff.mp action, readyOf_eq_some_iff.mp setting]
      rfl
    case h_2 => cases read
  · intro body
    have action := (actionWith_eq_some_iff (a := .loopbackOn) (k := k)).mpr body
    have setting := (readyOf_eq_some_iff (ready := ready)).mpr rfl
    simp only [loopbackOnOf, action, setting, Option.map_some]

/-! ## WRITE PARAMETER and READ DESCRIPTOR (R41, R169) -/

theorem descReadOf_eq_some_iff {k : Octet} {args : List Octet} {d : Desc} :
    descReadOf (k :: args) = some d ↔ args = two d.val := by
  constructor
  · intro read
    unfold descReadOf at read
    split at read
    case h_2 => cases read
    case h_1 d₁ d₂ body =>
      obtain ⟨rfl, rfl⟩ : k = _ ∧ args = _ := by simpa using body
      exact descOf_eq_some_iff.mp read
  · rintro rfl
    exact descOf_eq_some_iff.mpr rfl

end Sys2Proof.Machine

section

open Sys2Proof Sys2Proof.Machine

/-- Settles O44: each of the two decoders reads exactly the encodings. -/
theorem requestBodiesReadBack : Obligations.RequestBodiesReadBack :=
  ⟨routeWriteOf_eq_some_iff, descWriteOf_eq_some_iff⟩

end
end

section
/-! The checks of the requests and their answers (R14, R16, R41 to R44, R127, R163 to R169, R172): what a request
leaves that is refused, and that is executed. -/

namespace Sys2Proof.Machine

/-! ## A request that is served -/

section

variable {s u : State} {p : Port} {lost : Bool} {kind : Octet} {args : List Octet} {i : Instr}
  {serves : List Octet → Bool} {act : State → Port → List Octet → Answer}

/-- R166: a request that its row refuses changes nothing but the control slot and the engine. -/
theorem exec_refused (hh : s.engine.held = some ⟨p, kind :: args, lost⟩)
    (row : exec i s = .next (s.serve .run serves act)) (served : serves (kind :: args) = true)
    {r : Result} (refused : act s p (kind :: args) = refuse s r) :
    exec i s = .next (s.answered p lost kind r []) := by
  rw [row, State.serve_run_of_held s hh served, State.execute_refuse s hh refused]
  rfl

/-- R163: a request that its row executes is answered DONE on the state that the execution left. -/
theorem exec_done (hh : s.engine.held = some ⟨p, kind :: args, lost⟩)
    (row : exec i s = .next (s.serve .run serves act)) (served : serves (kind :: args) = true)
    {data : List Octet} (held : u.engine.held = s.engine.held)
    (done : act s p (kind :: args) = accept u data) :
    exec i s = .next (u.answered p lost kind .done data) := by
  rw [row, State.serve_run_of_held s hh served, State.execute_accept s (held.trans hh) done]
  rfl

end

/-- R166: no member of a numbering has an octet beyond it. -/
theorem not_named_of_beyond {n : Nat} (hn : n ≤ 256) {o : Octet} (beyond : n ≤ o.toNat) (i : Fin n) :
    [o] ≠ one i.val := by
  intro named
  have within : i.val < 256 := i.isLt.trans_le hn
  have value : o.toNat = i.val := by
    rw [(List.cons.inj named).1, BitVec.toNat_ofNat]
    omega
  omega

/-! ## The reads (R14, R41, R77, R127) -/

theorem readsOne_route : ReadsOne 128 answerReadRoute State.routeReport where
  range h := by simp [answerReadRoute, h]
  done h := by simp [answerReadRoute, h]

theorem readsOne_port : ReadsOne 8 answerReadPort State.portReport where
  range h := by simp [answerReadPort, h]
  done h := by simp [answerReadPort, h]

theorem exec_readRoute (phase : EnginePhase) (s : State) :
    exec (.readRoute phase) s = .next (s.serve phase (kindIs 0x10) answerReadRoute) := rfl

theorem exec_readPort (phase : EnginePhase) (s : State) :
    exec (.readPort phase) s = .next (s.serve phase (kindIs 0x20) answerReadPort) := rfl

theorem exec_readDescriptor (phase : EnginePhase) (s : State) :
    exec (.readDescriptor phase) s = .next (s.serve phase (kindIs 0x14) answerReadDescriptor) := rfl

theorem exec_readSweep (phase : EnginePhase) (s : State) :
    exec (.readSweep phase) s = .next (s.serve phase (kindIs 0x33) answerReadSweep) := rfl

/-- R41: a descriptor number above 255 is none. -/
theorem descReadOf_eq_none (k : Octet) {a b : Octet} (high : a ≠ 0) :
    descReadOf [k, a, b] = none := by
  refine Option.eq_none_iff_forall_ne_some.mpr fun d read => high ?_
  have number := descReadOf_eq_some_iff.mp read
  have zero : d.val / 256 = 0 := by omega
  rw [two, zero] at number
  exact (List.cons.inj number).1

/-- Settles O43: each of the four kinds reports on the state as it stands. -/
theorem readsReportAndChangeNothing : Obligations.ReadsReportAndChangeNothing := by
  intro s p lost
  rw [exec_readRoute, exec_readPort, exec_readDescriptor, exec_readSweep]
  refine ⟨fun c hh => ?route, fun o beyond hh => ?noRoute, fun d hh => ?desc, fun a b high hh => ?noDesc,
    fun q hh => ?port, fun o beyond hh => ?noPort, fun hh => ?sweep⟩
  case route => rw [readsOne_route.serve_of_named (by decide) hh rfl]
  case noRoute =>
    rw [readsOne_route.serve_of_none_named (by decide) hh (not_named_of_beyond (by decide) beyond)]
  case desc =>
    have read : descReadOf (0x14 :: two d.val) = some d := descReadOf_eq_some_iff.mpr rfl
    exact exec_done (args := two d.val) hh (exec_readDescriptor .run s) (kindIs_cons _ _) rfl
      (by simp only [answerReadDescriptor, read])
  case noDesc =>
    exact exec_refused hh (exec_readDescriptor .run s) (kindIs_cons _ _)
      (by simp [answerReadDescriptor, descReadOf_eq_none _ high])
  case port => rw [readsOne_port.serve_of_named (by decide) hh rfl]
  case noPort =>
    rw [readsOne_port.serve_of_none_named (by decide) hh (not_named_of_beyond (by decide) beyond)]
  case sweep =>
    exact exec_done hh (exec_readSweep .run s) (kindIs_cons _ _) rfl
      (by simp [answerReadSweep, bareBody_kind])

/-! ## The tier test (R16, R43) -/

/-- A write whose requester is above either tier fails the test. -/
theorem tierTest_of_above {requester present new : Tier} (above : present < requester ∨ new < requester) :
    ¬ tierTest requester present new = true := by
  rw [tierTest_iff, not_and_or, not_le, not_le]
  exact above

/-! ## WRITE ROUTE (R15, R16) -/

theorem exec_writeRoute (phase : EnginePhase) (s : State) :
    exec (.writeRoute phase) s = .next (s.serve phase (kindIs 0x11) answerWriteRoute) := rfl

/-- Settles O45: the body is read or refused, then the tier test decides. -/
theorem writeRouteRequest : Obligations.WriteRouteRequest := by
  intro s p lost args hh
  refine ⟨fun unread => ?range, ?_⟩
  case range =>
    have none : routeWriteOf (0x11 :: args) = none :=
      Option.eq_none_iff_forall_ne_some.mpr fun w read => by
        obtain ⟨octets, allowed⟩ := octets_of_routeWriteOf read
        obtain ⟨inService, headless⟩ := unread w octets
        exact allowed inService headless
    exact exec_refused hh (exec_writeRoute .run s) (kindIs_cons _ _) (by simp only [answerWriteRoute, none])
  rintro w rfl allowed
  refine ⟨fun above => State.exec_writeRoute_of_fail hh allowed (tierTest_of_above above), ?_⟩
  rintro present new u rfl
  exact State.exec_writeRoute_of_pass hh allowed ((tierTest_iff _ _ _).mpr ⟨present, new⟩)

/-! ## A capacity event that settles (R12, R111) -/

namespace State

variable {s : State}

theorem capacityEvent_eq (s : State) :
    ∃ r w, s.capacityEvent = { s with routes := r, sweep := w } := ⟨_, _, rfl⟩

theorem capacityEvent_sweep_state (s : State) : s.capacityEvent.sweep.state = s.sweep.state := by
  simp only [capacityEvent]

/-- R126: a capacity event takes no circuit out of the queue, so it raises no SWEEP IDLE. -/
theorem settleSweep_capacityEvent (laws : SweepLaws s) :
    ∃ r w, s.capacityEvent.settleSweep = { s with routes := r, sweep := w } := by
  obtain ⟨r, w, event⟩ := s.capacityEvent_eq
  by_cases queued : ∃ c, s.capacityEvent.queued c = true
  · obtain ⟨c, queued⟩ := queued
    rw [settleSweep_of_queued _ queued, event]
    exact ⟨r, { w with state := .running }, rfl⟩
  · have empty : ¬ ∃ c, s.queued c = true := fun ⟨c, h⟩ =>
      queued ⟨c, by rw [queued_capacityEvent, h, Bool.true_or]⟩
    have idle : s.capacityEvent.sweep.state ≠ .running := by
      rw [capacityEvent_sweep_state]
      exact fun running => empty (laws.2.mp running)
    rw [settleSweep_of_runningLaw _ (iff_of_false idle queued), event]
    exact ⟨r, w, rfl⟩

/-- R12, R123: each stranded circuit becomes DISPLACED and joins the queue. -/
theorem capacityEvent_capacityEvent (s : State) : CapacityEvent s s.capacityEvent.settleSweep :=
  fun c stranded => by simp [route_capacityEvent, queued_capacityEvent, stranded]

theorem capacityEvent_others (s : State) {c : Circuit} (unstranded : s.strandedHas c = false) :
    s.capacityEvent.settleSweep.route c = s.route c ∧
    s.capacityEvent.settleSweep.queued c = s.queued c := by
  simp [route_capacityEvent, queued_capacityEvent, unstranded]

end State

/-! ## WRITE DESCRIPTOR (R42 to R44) -/

theorem exec_writeDescriptor (phase : EnginePhase) (s : State) :
    exec (.writeDescriptor phase) s = .next (s.serve phase (kindIs 0x15) answerWriteDescriptor) := rfl

/-- Settles O48: the body is read or refused, then the tier test decides; the write is a capacity event on the
state with the descriptor replaced. -/
theorem writeDescriptorRequest : Obligations.WriteDescriptorRequest := by
  intro s p lost args sweep hh
  have row := exec_writeDescriptor .run s
  refine ⟨fun unread => ?range, ?_⟩
  case range =>
    have none : descWriteOf (0x15 :: args) = none :=
      Option.eq_none_iff_forall_ne_some.mpr fun w read => by
        obtain ⟨any, octets⟩ := octets_of_descWriteOf read
        exact unread w any octets
    exact exec_refused hh row (kindIs_cons _ _) (by simp only [answerWriteDescriptor, none])
  rintro w any rfl
  have read := descWriteOf_octets 0x15 w any
  refine ⟨fun above => ?denied, fun present new => ⟨s.writeDescriptor w.desc w.record, ?done, ?_⟩⟩
  case denied =>
    refine exec_refused hh row (kindIs_cons _ _) ?_
    simp only [answerWriteDescriptor, read, if_neg (tierTest_of_above above)]
  case done =>
    refine exec_done hh row (kindIs_cons _ _) (by simp [State.writeDescriptor]) ?_
    simp only [answerWriteDescriptor, read, if_pos ((tierTest_iff _ _ _).mpr ⟨present, new⟩)]
  have laws : SweepLaws (s.setDesc w.desc w.record) := sweep
  obtain ⟨routes', sweep', settled⟩ := State.settleSweep_capacityEvent laws
  refine ⟨?_, State.capacityEvent_capacityEvent (s.setDesc w.desc w.record),
    fun c unstranded => State.capacityEvent_others (s.setDesc w.desc w.record) unstranded⟩
  rw [State.writeDescriptor, settled]
  rfl

/-! ## WRITE PARAMETER (R168, R169) -/

theorem exec_writeParameter (phase : EnginePhase) (s : State) :
    exec (.writeParameter phase) s = .next (s.serve phase (kindIs 0x51) answerWriteParameter) := rfl

theorem ofId_id (x : Param) : Param.ofId x.id.val = some x := by cases x <;> rfl

theorem paramWriteOf_id {k i a b c : Octet} {x : Param} (named : i.toNat = x.id.val) :
    paramWriteOf [k, i, a, b, c] = some (x, tripleValue a b c) := by
  simp only [paramWriteOf, named, ofId_id, Option.map_some]

theorem paramWriteOf_eq_none {k i a b c : Octet} (above : 21 < i.toNat) :
    paramWriteOf [k, i, a, b, c] = none := by
  have unnamed : Param.ofId i.toNat = none := List.getElem?_eq_none above
  simp only [paramWriteOf, unnamed, Option.map_none]

/-- R168: a store of a parameter writes the parameter set alone. -/
theorem State.storeParam_eq (s : State) (x : Param) (v : Nat) :
    s.storeParam x v = { s with params := (s.storeParam x v).params } := by
  unfold storeParam capRecoverBelow capSuspectAt
  split_ifs <;> rfl

theorem isThreshold_eq_false {x : Param} (suspect : x ≠ .suspectAt) (down : x ≠ .downAt)
    (recover : x ≠ .recoverBelow) : isThreshold x = false := by
  rw [← Bool.not_eq_true, isThreshold_iff]
  simp [suspect, down, recover]

/-- R168: a parameter of a range alone is stored clamped to it. -/
theorem clampParam_eq {x : Param} (interval : x ≠ .decayInterval) (v : Nat) :
    clampParam x v = max (paramLow x) (min (paramHigh x) v) := by
  cases x <;> simp [clampParam, paramLow, paramHigh] at interval ⊢

theorem clampParam_threshold {x : Param} (threshold : isThreshold x = true) (v : Nat) :
    clampParam x v = min 4095 v := by
  obtain rfl | rfl | rfl := isThreshold_iff.mp threshold <;> rfl

namespace State

variable {s : State}

/-- R168: what a parameter that is no threshold is stored as. -/
theorem storeParam_plain {x : Param} (plain : isThreshold x = false) (v : Nat) :
    (∀ y, y ≠ x → (s.storeParam x v).param y = s.param y) ∧
    (x ≠ .decayInterval → (s.storeParam x v).param x = max (paramLow x) (min (paramHigh x) v)) ∧
    (x = .decayInterval → (s.storeParam x v).param x =
      if v ≤ 11 then 8 else if v ≤ 23 then 16 else if v ≤ 47 then 32 else 64) := by
  have value := s.param_storeParam_plain plain v
  refine ⟨fun y other => ?_, fun interval => ?_, ?_⟩
  · rw [value, if_neg other]
  · rw [value, if_pos rfl, clampParam_eq interval]
  · rintro rfl
    rw [value, if_pos rfl]
    rfl

/-- R68: the three steps of a threshold, from the values that the clamped write leaves. -/
theorem storeParam_threshold {x : Param} (threshold : isThreshold x = true) (v : Nat) {su dn rb : Nat}
    (suspect : su = if x = .suspectAt then min 4095 v else s.param .suspectAt)
    (down : dn = if x = .downAt then min 4095 v else s.param .downAt)
    (recover : rb = if x = .recoverBelow then min 4095 v else s.param .recoverBelow) :
    (s.storeParam x v).param .downAt = dn ∧ (s.storeParam x v).param .suspectAt = min su dn ∧
    (s.storeParam x v).param .recoverBelow = if min su dn ≤ rb then min su dn - 1 else rb := by
  have written (y : Param) : (s.setParam x (clampParam x v)).param y =
      if x = y then min 4095 v else s.param y := by
    rw [param_setParam, clampParam_threshold threshold]
    exact if_congr eq_comm rfl rfl
  obtain ⟨down', suspect', recover', -⟩ := s.param_storeParam_threshold threshold v
  simp only [written, ← suspect, ← down, ← recover] at down' suspect' recover'
  exact ⟨down', suspect', recover'⟩

end State

/-- Settles O52: the identifier is read or refused, then the requester's tier decides; a store writes the
parameter set alone, by the clamp of the parameter or by the three steps of a threshold. -/
theorem writeParameterStores : Obligations.WriteParameterStores := by
  intro s p lost i a b c v hh octets
  have row := exec_writeParameter .run s
  obtain rfl : v = tripleValue a b c := octets.trans (by simp only [tripleValue, pairValue]; omega)
  refine ⟨fun above => ?range, fun x named untrusted => ?denied, fun x named trusted =>
    ⟨s.storeParam x (tripleValue a b c), ?done, s.storeParam_eq x _, ?plain, fun threshold => ?_⟩⟩
  case range =>
    exact exec_refused hh row (kindIs_cons _ _)
      (by simp only [answerWriteParameter, paramWriteOf_eq_none above])
  case denied =>
    have denied : ¬ s.trusted p 0 = true := by
      rw [State.trusted_iff]
      exact fun h => untrusted (Fin.le_zero_iff.mp h)
    exact exec_refused hh row (kindIs_cons _ _)
      (by simp only [answerWriteParameter, paramWriteOf_id named, if_neg denied])
  case done =>
    have allowed : s.trusted p 0 = true := State.trusted_iff 0 |>.mpr trusted.le
    refine exec_done hh row (kindIs_cons _ _) (by rw [s.storeParam_eq]) ?_
    simp only [answerWriteParameter, paramWriteOf_id named, if_pos allowed]
  case plain =>
    exact fun suspect down recover => State.storeParam_plain (isThreshold_eq_false suspect down recover) _
  have isThreshold : isThreshold x = true :=
    isThreshold_iff.mpr (by rcases threshold with h | h | h <;> simp [h])
  exact ⟨fun y suspect down recover =>
    (s.param_storeParam_threshold isThreshold (tripleValue a b c)).2.2.2 y (isThreshold_eq_false suspect down recover),
    fun su dn rb suspect down recover => State.storeParam_threshold isThreshold _ suspect down recover⟩

end Sys2Proof.Machine
end

section
/-! SET PORT (R78, R79, R81), the bodies of a wrong length and the unknown kinds (R166), and RESET EXCHANGE
(R172). -/

namespace Sys2Proof.Machine

/-! ## The rows of SET PORT (R78) -/

/-- The command that serves an action of SET PORT. -/
def setPortRow (a : PortAction) (phase : EnginePhase) : Instr :=
  match a with
  | .enable => .setPortEnable phase
  | .disable => .setPortDisable phase
  | .loopbackOn => .setPortLoopbackOn phase
  | .loopbackOff => .setPortLoopbackOff phase
  | .ceiling => .setPortCeiling phase
  | .clearCounts => .setPortClearCounts phase

/-- What an action of SET PORT answers. -/
def answerAction : PortAction → State → Port → List Octet → Answer
  | .enable => answerEnable
  | .disable => answerDisable
  | .loopbackOn => answerLoopbackOn
  | .loopbackOff => answerLoopbackOff
  | .ceiling => answerCeiling
  | .clearCounts => answerClearCounts

theorem exec_setPortRow (a : PortAction) (phase : EnginePhase) (s : State) :
    exec (setPortRow a phase) s = .next (s.serve phase (setPortIs a) (answerAction a)) := by
  cases a <;> rfl

/-- The row that serves a SET PORT: that of its action, or the first when it carries none (log 18). -/
theorem rowFor_setPort (args : List Octet) (phase : EnginePhase) (straps : Straps) :
    rowFor (0x21 :: args) phase straps =
      setPortRow ((actionIn (0x21 :: args)).getD .enable) phase := by
  change (match actionIn (0x21 :: args) with
    | some .enable => Instr.setPortEnable phase
    | some .disable => .setPortDisable phase
    | some .loopbackOn => .setPortLoopbackOn phase
    | some .loopbackOff => .setPortLoopbackOff phase
    | some .ceiling => .setPortCeiling phase
    | some .clearCounts => .setPortClearCounts phase
    | none => .setPortEnable phase) = _
  cases actionIn (0x21 :: args) with
  | none => rfl
  | some a => cases a <;> rfl

theorem setPortIs_getD (args : List Octet) :
    setPortIs ((actionIn (0x21 :: args)).getD .enable) (0x21 :: args) = true := by
  rw [setPortIs, kindIs_cons]
  cases actionIn (0x21 :: args) with
  | none => rfl
  | some a => simp

/-- The bodies of an action of SET PORT for a port. -/
def PortAction.Names (a : PortAction) (q : Port) (args : List Octet) : Prop :=
  match a with
  | .loopbackOn => ∃ ready : Bool, args = one q.val ++ [2, if ready then 0 else 1]
  | .ceiling => ∃ n : Octet, args = one q.val ++ [4, n]
  | .enable | .disable | .loopbackOff | .clearCounts => args = one q.val ++ [a.octet]

theorem PortAction.Names.actionIn_eq {a : PortAction} {q : Port} {args : List Octet}
    (names : a.Names q args) : actionIn (0x21 :: args) = some a := by
  cases a with
  | loopbackOn => obtain ⟨ready, rfl⟩ := names; rfl
  | ceiling => obtain ⟨n, rfl⟩ := names; rfl
  | enable | disable | loopbackOff | clearCounts =>
    obtain rfl : args = _ := names
    rfl

theorem setPortIs_of_names {a : PortAction} {q : Port} {args : List Octet} (names : a.Names q args) :
    setPortIs a (0x21 :: args) = true := by
  rw [setPortIs, kindIs_cons, names.actionIn_eq]
  simp

/-- R78, check 2: a body that no port's action has is refused by every row. -/
theorem answerAction_of_unnamed {args : List Octet} (unnamed : ∀ a q, ¬ PortAction.Names a q args)
    (a : PortAction) (s : State) (p : Port) (k : Octet) :
    answerAction a s p (k :: args) = refuse s .range := by
  have plain {b : PortAction} (is : ∀ q, b.Names q args ↔ args = one q.val ++ [b.octet]) :
      plainAction b (k :: args) = none :=
    Option.eq_none_iff_forall_ne_some.mpr fun q read =>
      unnamed b q ((is q).mpr (plainAction_eq_some_iff.mp read))
  cases a with
  | enable => simp only [answerAction, answerEnable, plain (b := .enable) fun _ => Iff.rfl]
  | disable => simp only [answerAction, answerDisable, plain (b := .disable) fun _ => Iff.rfl]
  | loopbackOff => simp only [answerAction, answerLoopbackOff, plain (b := .loopbackOff) fun _ => Iff.rfl]
  | clearCounts => simp only [answerAction, answerClearCounts, plain (b := .clearCounts) fun _ => Iff.rfl]
  | loopbackOn =>
    have none : loopbackOnOf (k :: args) = none :=
      Option.eq_none_iff_forall_ne_some.mpr fun ⟨q, ready⟩ read =>
        unnamed .loopbackOn q ⟨ready, loopbackOnOf_eq_some_iff.mp read⟩
    simp only [answerAction, answerLoopbackOn, none]
  | ceiling =>
    have none : actionWith .ceiling (k :: args) = none :=
      Option.eq_none_iff_forall_ne_some.mpr fun ⟨q, n⟩ read =>
        unnamed .ceiling q ⟨n, actionWith_eq_some_iff.mp read⟩
    simp only [answerAction, answerCeiling, none]

section

variable {s : State} {p q : Port} {k : Octet}

theorem answerEnable_eq (s : State) (p q : Port) (k : Octet) :
    answerEnable s p (k :: (one q.val ++ [0])) =
      s.setPortAs p q (decide ((s.port q).state = .disabled)) (s.enablePort q) := by
  have read := (plainAction_eq_some_iff (a := .enable) (k := k) (q := q)).mpr rfl
  simp only [PortAction.octet] at read
  simp only [answerEnable, read]

theorem answerDisable_eq (s : State) (p q : Port) (k : Octet) :
    answerDisable s p (k :: (one q.val ++ [1])) =
      s.setPortAs p q (decide ((s.port q).state ≠ .disabled)) (s.disablePort q) := by
  have read := (plainAction_eq_some_iff (a := .disable) (k := k) (q := q)).mpr rfl
  simp only [PortAction.octet] at read
  simp only [answerDisable, read]

theorem answerLoopbackOn_eq (s : State) (p q : Port) (k : Octet) (ready : Bool) :
    answerLoopbackOn s p (k :: (one q.val ++ [2, if ready then 0 else 1])) =
      s.setPortAs p q (decide ((s.port q).state ≠ .disabled)) (s.loopbackOn q ready) := by
  have read := (loopbackOnOf_eq_some_iff (k := k) (q := q) (ready := ready)).mpr rfl
  simp only [answerLoopbackOn, read]

theorem answerLoopbackOff_eq (s : State) (p q : Port) (k : Octet) :
    answerLoopbackOff s p (k :: (one q.val ++ [3])) =
      s.setPortAs p q (s.port q).state.looped (s.loopbackOff q) := by
  have read := (plainAction_eq_some_iff (a := .loopbackOff) (k := k) (q := q)).mpr rfl
  simp only [PortAction.octet] at read
  simp only [answerLoopbackOff, read]

theorem answerCeiling_eq (s : State) (p q : Port) (k n : Octet) :
    answerCeiling s p (k :: (one q.val ++ [4, n])) =
      s.setPortAs p q true (s.storeCeiling q n.toNat) := by
  have read := (actionWith_eq_some_iff (a := .ceiling) (k := k) (q := q) (v := n)).mpr rfl
  simp only [PortAction.octet] at read
  simp only [answerCeiling, read]

theorem answerClearCounts_eq (s : State) (p q : Port) (k : Octet) :
    answerClearCounts s p (k :: (one q.val ++ [5])) = s.setPortAs p q true (s.clearCounts q) := by
  have read := (plainAction_eq_some_iff (a := .clearCounts) (k := k) (q := q)).mpr rfl
  simp only [PortAction.octet] at read
  simp only [answerClearCounts, read]

/-- R78: a body that names a port goes through the checks of a SET PORT of that port. -/
theorem answerAction_of_names {a : PortAction} {args : List Octet} (names : a.Names q args) (s : State)
    (p : Port) : ∃ allowed effect, answerAction a s p (0x21 :: args) = s.setPortAs p q allowed effect := by
  cases a with
  | enable => obtain rfl : args = _ := names; exact ⟨_, _, answerEnable_eq s p q _⟩
  | disable => obtain rfl : args = _ := names; exact ⟨_, _, answerDisable_eq s p q _⟩
  | loopbackOn => obtain ⟨ready, rfl⟩ := names; exact ⟨_, _, answerLoopbackOn_eq s p q _ ready⟩
  | loopbackOff => obtain rfl : args = _ := names; exact ⟨_, _, answerLoopbackOff_eq s p q _⟩
  | ceiling => obtain ⟨n, rfl⟩ := names; exact ⟨_, _, answerCeiling_eq s p q _ n⟩
  | clearCounts => obtain rfl : args = _ := names; exact ⟨_, _, answerClearCounts_eq s p q _⟩

/-! ## The checks (R78, checks 3 and 4) -/

theorem maySet_iff (s : State) (p q : Port) : s.maySet p q = true ↔
    s.tierOf (s.hostOf p) = 0 ∨ (s.tierOf (s.hostOf p) = 1 ∧ s.hostOf q = s.hostOf p) := by
  unfold State.maySet
  generalize s.tierOf (s.hostOf p) = tier
  fin_cases tier <;> simp

theorem maySet_eq_false (above : 1 < s.tierOf (s.hostOf p) ∨
    (s.tierOf (s.hostOf p) = 1 ∧ s.hostOf q ≠ s.hostOf p)) : s.maySet p q = false := by
  rw [← Bool.not_eq_true, maySet_iff]
  rintro (tier | ⟨tier, own⟩)
  · rw [tier] at above
    rcases above with h | ⟨h, -⟩
    · exact absurd h (by decide)
    · exact absurd h (by decide)
  · rw [tier] at above
    rcases above with h | ⟨-, other⟩
    · exact absurd h (by decide)
    · exact other own

theorem setPortAs_denied (denied : s.maySet p q = false) (allowed : Bool) (effect : State) :
    s.setPortAs p q allowed effect = refuse s .denied := by
  simp [State.setPortAs, denied]

theorem setPortAs_state (may : s.maySet p q = true) (effect : State) :
    s.setPortAs p q false effect = refuse s .state := by
  simp [State.setPortAs, may]

theorem setPortAs_done (may : s.maySet p q = true) (effect : State) :
    s.setPortAs p q true effect = accept effect (effect.portReport q) := by
  simp [State.setPortAs, may]

end

/-! ## The answers of SET PORT (R78 to R81) -/

section

variable {s : State} {p q : Port} {lost : Bool} {args : List Octet} {a : PortAction}

/-- R78: a SET PORT whose action the state of the port does not allow is refused with STATE. -/
theorem exec_setPortRow_state (hh : s.engine.held = some ⟨p, 0x21 :: args, lost⟩)
    (names : a.Names q args) (may : s.maySet p q = true) {allowed : Bool}
    {effect : State} (answers : answerAction a s p (0x21 :: args) = s.setPortAs p q allowed effect)
    (disallowed : allowed = false) :
    exec (setPortRow a .run) s = .next (s.answered p lost 0x21 .state []) := by
  subst disallowed
  exact exec_refused hh (exec_setPortRow a .run s) (setPortIs_of_names names)
    (answers.trans (setPortAs_state may effect))

/-- R78 to R81: a SET PORT that passes the checks is answered with the port report on the state that its effect
has left. -/
theorem exec_setPortRow_done (hh : s.engine.held = some ⟨p, 0x21 :: args, lost⟩)
    (names : a.Names q args) (may : s.maySet p q = true) {allowed : Bool}
    {effect : State} (answers : answerAction a s p (0x21 :: args) = s.setPortAs p q allowed effect)
    (passes : allowed = true) (held : effect.engine.held = s.engine.held) :
    exec (setPortRow a .run) s = .next (effect.answered p lost 0x21 .done (effect.portReport q)) := by
  subst passes
  exact exec_done hh (exec_setPortRow a .run s) (setPortIs_of_names names) held
    (answers.trans (setPortAs_done may effect))

end

end Sys2Proof.Machine

section

open Sys2Proof Sys2Proof.Machine

/-- Settles O49: whichever row serves it, a body is read or refused with RANGE, then the requester's tier and the
port's state decide. -/
theorem setPortRefused : Obligations.SetPortRefused := by
  refine ⟨fun s p lost args straps hh => ⟨fun unread => ?range, fun q above named => ?denied⟩,
    fun s p q lost args hh permitted => ?state⟩
  case range =>
    rw [rowFor_setPort]
    refine exec_refused hh (exec_setPortRow _ .run s) (setPortIs_getD args) (answerAction_of_unnamed ?_ _ s p _)
    intro a q names
    obtain ⟨enable, disable, ready, notReady, off, ceiling, clear⟩ := unread q
    cases a with
    | enable => exact enable names
    | disable => exact disable names
    | loopbackOff => exact off names
    | clearCounts => exact clear names
    | ceiling => obtain ⟨n, body⟩ := names; exact ceiling n body
    | loopbackOn =>
      obtain ⟨b, body⟩ := names
      cases b with
      | true => exact ready body
      | false => exact notReady body
  case denied =>
    obtain ⟨a, names⟩ : ∃ a : PortAction, a.Names q args := by
      rcases named with h | h | h | h | h | ⟨n, h⟩ | h
      · exact ⟨.enable, h⟩
      · exact ⟨.disable, h⟩
      · exact ⟨.loopbackOn, true, h⟩
      · exact ⟨.loopbackOn, false, h⟩
      · exact ⟨.loopbackOff, h⟩
      · exact ⟨.ceiling, n, h⟩
      · exact ⟨.clearCounts, h⟩
    obtain ⟨allowed, effect, answers⟩ := answerAction_of_names names s p
    rw [rowFor_setPort, names.actionIn_eq]
    exact exec_refused hh (exec_setPortRow a .run s) (setPortIs_of_names names)
      (answers.trans (setPortAs_denied (maySet_eq_false above) _ _))
  case state =>
    have may := (maySet_iff s p q).mpr permitted
    refine ⟨?_, ?_, ?_, ?_⟩
    · rintro rfl other
      exact exec_setPortRow_state (a := .enable) hh rfl may (answerEnable_eq s p q _)
        (decide_eq_false other)
    · rintro rfl disabled
      exact exec_setPortRow_state (a := .disable) hh rfl may (answerDisable_eq s p q _)
        (decide_eq_false (not_not.mpr disabled))
    · intro body disabled
      obtain ⟨ready, rfl⟩ : ∃ ready : Bool, args = one q.val ++ [2, if ready then 0 else 1] := by
        rcases body with h | h
        · exact ⟨true, h⟩
        · exact ⟨false, h⟩
      exact exec_setPortRow_state (a := .loopbackOn) hh ⟨ready, rfl⟩ may
        (answerLoopbackOn_eq s p q _ ready) (decide_eq_false (not_not.mpr disabled))
    · rintro rfl line
      exact exec_setPortRow_state (a := .loopbackOff) hh rfl may (answerLoopbackOff_eq s p q _) line

/-- Settles O50: each of the three actions of a permitted host, by its effect. -/
theorem setPortSimpleActions : Obligations.SetPortSimpleActions := by
  intro s p q lost args sweep hh permitted
  have may := (maySet_iff s p q).mpr permitted
  refine ⟨?enable, fun n body => ⟨s.storeCeiling q n.toNat, ?answer, ?effect⟩, ?clear⟩
  case enable =>
    rintro rfl disabled u rfl
    exact exec_setPortRow_done (a := .enable) hh rfl may (answerEnable_eq s p q _)
      (decide_eq_true disabled) rfl
  case answer =>
    subst body
    exact exec_setPortRow_done (a := .ceiling) hh ⟨n, rfl⟩ may (answerCeiling_eq s p q _ n) rfl
      (by simp [State.storeCeiling_frame])
  case effect =>
    have laws (r : PortRecord) : SweepLaws (s.setPort q r) := sweep
    by_cases raised : (s.port q).ceiling < max 1 (min 30 n.toNat)
    · have event : s.storeCeiling q n.toNat =
          (s.setPort q { s.port q with ceiling := max 1 (min 30 n.toNat) }).capacityEvent.settleSweep :=
        if_pos raised
      obtain ⟨routes', sweep', settled⟩ := State.settleSweep_capacityEvent (laws _)
      refine ⟨?_, fun _ => ?_, fun kept => absurd raised (not_lt.mpr kept)⟩
      · rw [event, settled]
        rfl
      · rw [event]
        exact State.capacityEvent_capacityEvent (s.setPort q _)
    · have event : s.storeCeiling q n.toNat =
          s.setPort q { s.port q with ceiling := max 1 (min 30 n.toNat) } := if_neg raised
      rw [event]
      exact ⟨rfl, fun h => absurd h raised, fun _ => ⟨rfl, rfl⟩⟩
  case clear =>
    rintro rfl u rfl
    exact exec_setPortRow_done (a := .clearCounts) hh rfl may (answerClearCounts_eq s p q _) rfl rfl

end
end

section
/-! The rows of the command table (R163, R166): the unknown kinds, the bodies of a wrong length, and the row that
takes a request in its turn; and the resets (R172). -/

namespace Sys2Proof.Machine

/-! ## Bodies of a wrong length (R166) -/

section

variable {k : Octet} {args : List Octet}

theorem oneNumber_of_length (n : Nat) (length : args.length ≠ 1) : oneNumber n (k :: args) = none := by
  unfold oneNumber
  split
  case h_1 body => simp_all
  case h_2 => rfl

theorem bareBody_of_length (length : args.length ≠ 0) : bareBody (k :: args) = none :=
  bareBody_eq_none k (mt List.length_eq_zero_iff.mpr length)

theorem descReadOf_of_length (length : args.length ≠ 2) : descReadOf (k :: args) = none := by
  unfold descReadOf
  split
  case h_1 body => simp_all
  case h_2 => rfl

theorem rangeOf_of_length (length : args.length ≠ 2) : rangeOf (k :: args) = none := by
  unfold rangeOf
  split
  case h_1 body => simp_all
  case h_2 => rfl

theorem routeWriteOf_of_length (length : args.length ≠ 8) : routeWriteOf (k :: args) = none := by
  unfold routeWriteOf
  split
  case h_1 body => simp_all
  case h_2 => rfl

theorem descWriteOf_of_length (path : args.length ≠ 10) (divert : args.length ≠ 8) :
    descWriteOf (k :: args) = none := by
  unfold descWriteOf
  split
  case h_1 body => simp_all
  case h_2 body => simp_all
  case h_3 => rfl

theorem injectionOf_of_length (length : args.length ≠ 3) : injectionOf (k :: args) = none := by
  unfold injectionOf
  split
  case h_1 body => simp_all
  case h_2 => rfl

theorem bulkOrderOf_of_length (length : args.length ≠ 12) : bulkOrderOf (k :: args) = none := by
  unfold bulkOrderOf
  split
  case h_1 body => simp_all
  case h_2 => rfl

theorem paramWriteOf_of_length (length : args.length ≠ 4) : paramWriteOf (k :: args) = none := by
  unfold paramWriteOf
  split
  case h_1 body => simp_all
  case h_2 => rfl

/-- R78: a SET PORT has two octets after its kind, or three. -/
theorem PortAction.Names.length {a : PortAction} {q : Port} (names : a.Names q args) :
    args.length = 2 ∨ args.length = 3 := by
  cases a with
  | loopbackOn => obtain ⟨ready, rfl⟩ := names; exact .inr rfl
  | ceiling => obtain ⟨n, rfl⟩ := names; exact .inr rfl
  | enable | disable | loopbackOff | clearCounts =>
    obtain rfl : args = _ := names
    exact .inl rfl

end

/-! ## RESET EXCHANGE (R172) -/

/-- R172: a RESET EXCHANGE whose service leaves no reset due resets nothing. -/
theorem exec_resetExchange_of_not_due {s t : State} {phase : EnginePhase} (straps : Straps)
    (served : s.serve phase (kindIs 0x5F) answerResetExchange = t)
    (phases : s.engine.resetPhase ≠ .none ∨ t.engine.resetPhase ≠ .due) :
    exec (.resetExchange phase straps) s = .next t := by
  change Host.Outcome.next _ = _
  rw [served, if_neg (not_and_or.mpr phases)]

theorem exec_resetExchange_of_due {s t : State} {phase : EnginePhase} (straps : Straps)
    (served : s.serve phase (kindIs 0x5F) answerResetExchange = t) (before : s.engine.resetPhase = .none)
    (due : t.engine.resetPhase = .due) :
    exec (.resetExchange phase straps) s = .next (t.resetNow straps) := by
  change Host.Outcome.next _ = _
  rw [served, if_pos ⟨before, due⟩]

/-- R166: a refused RESET EXCHANGE resets nothing. -/
theorem exec_resetExchange_refused {s : State} {p : Port} {lost : Bool} {args : List Octet} {r : Result}
    (straps : Straps) (hh : s.engine.held = some ⟨p, 0x5F :: args, lost⟩)
    (refused : answerResetExchange s p (0x5F :: args) = refuse s r) :
    exec (.resetExchange .run straps) s = .next (s.answered p lost 0x5F r []) := by
  refine exec_resetExchange_of_not_due straps ?_ ?_
  · rw [State.serve_run_of_held s hh (kindIs_cons _ _), State.execute_refuse s hh refused]
    rfl
  · change _ ∨ s.engine.resetPhase ≠ .due
    cases s.engine.resetPhase <;> simp

theorem answerResetExchange_of_length {args : List Octet} (length : args.length ≠ 0) (s : State)
    (p : Port) (k : Octet) : answerResetExchange s p (k :: args) = refuse s .range := by
  simp only [answerResetExchange, bareBody_of_length length]

/-! ## The rows of the command table -/

theorem not_code_of_unknown {k : Octet} (unknown : k ∉ kindCodes) {n : Nat}
    (known : BitVec.ofNat 8 n ∈ kindCodes) : k.toNat ≠ n := fun code =>
  unknown (by rwa [octet_of_toNat code])

theorem lengthAllowed_of_unknown {k : Octet} (unknown : k ∉ kindCodes) (n : Nat) :
    lengthAllowed k.toNat n = true := by
  unfold lengthAllowed
  split
  case h_22 => rfl
  all_goals
    rename_i code
    exact absurd code (not_code_of_unknown unknown (by decide))

theorem rowFor_of_unknown {k : Octet} (unknown : k ∉ kindCodes) (args : List Octet) (phase : EnginePhase)
    (straps : Straps) : rowFor (k :: args) phase straps = .unknownKind phase := by
  unfold rowFor
  split
  case h_22 => rfl
  all_goals
    rename_i code
    exact absurd code (not_code_of_unknown unknown (by decide))

/-- What the row of a request does with it: the row takes it, and refuses it with RANGE when its length is not its
kind's. -/
def RowServes (k : Octet) (args : List Octet) (row : EnginePhase → Instr) : Prop :=
  ∃ serves act, serves (k :: args) = true ∧
    (∀ phase s, exec (row phase) s = .next (s.serve phase serves act)) ∧
    (lengthAllowed k.toNat (args.length + 1) = false → ∀ s p, act s p (k :: args) = refuse s .range)

/-- A row that serves one kind alone, whose reader takes no body but of one length. -/
theorem RowServes.of_length {k : Octet} {args : List Octet} {row : EnginePhase → Instr}
    {act : State → Port → List Octet → Answer} {n : Nat}
    (allowed : ∀ m, lengthAllowed k.toNat m = (m == n + 1))
    (serves : ∀ phase s, exec (row phase) s = .next (s.serve phase (kindIs k) act))
    (unread : args.length ≠ n → ∀ s p, act s p (k :: args) = refuse s .range) :
    RowServes k args row := by
  refine ⟨kindIs k, act, kindIs_cons k args, serves, fun length => unread fun same => ?_⟩
  rw [allowed, same, beq_self_eq_true] at length
  cases length

/-- Every row but that of RESET EXCHANGE serves its requests. -/
theorem rowServes_rowFor (k : Octet) (args : List Octet) (straps : Straps) (other : k ≠ 0x5F) :
    RowServes k args fun phase => rowFor (k :: args) phase straps := by
  by_cases known : k ∈ kindCodes
  case neg =>
    refine ⟨kindUnknown, answerUnknown, by simpa [kindUnknown] using known, fun phase s => ?_, fun length => ?_⟩
    · dsimp only
      rw [rowFor_of_unknown known]
      rfl
    · rw [lengthAllowed_of_unknown known] at length
      cases length
  case pos =>
    simp only [kindCodes, List.mem_cons, List.not_mem_nil, or_false] at known
    rcases known with rfl | rfl | rfl | rfl | rfl | rfl | rfl | rfl | rfl | rfl | rfl | rfl | rfl | rfl | rfl |
      rfl | rfl | rfl | rfl | rfl | rfl
    · exact .of_length (n := 1) (fun _ => rfl) exec_readRoute fun length s p => by
        simp only [answerReadRoute, oneNumber_of_length 128 length]
    · exact .of_length (n := 8) (fun _ => rfl) exec_writeRoute fun length s p => by
        simp only [answerWriteRoute, routeWriteOf_of_length length]
    · exact .of_length (n := 2) (fun _ => rfl) exec_readDescriptor fun length s p => by
        simp only [answerReadDescriptor, descReadOf_of_length length]
    · refine ⟨_, _, kindIs_cons _ args, exec_writeDescriptor, fun length s p => ?_⟩
      have length : (args.length + 1 == 11 || args.length + 1 == 9) = false := length
      simp only [Bool.or_eq_false_iff, beq_eq_false_iff_ne] at length
      simp only [answerWriteDescriptor, descWriteOf_of_length (k := 0x15) (args := args) (by omega) (by omega)]
    · exact .of_length (n := 1) (fun _ => rfl) exec_readPort fun length s p => by
        simp only [answerReadPort, oneNumber_of_length 8 length]
    · simp only [rowFor_setPort]
      refine ⟨_, _, setPortIs_getD args, exec_setPortRow _, fun length s p => ?_⟩
      have length : (args.length + 1 == 4 || args.length + 1 == 3) = false := length
      simp only [Bool.or_eq_false_iff, beq_eq_false_iff_ne] at length
      exact answerAction_of_unnamed (fun a q names => by have := names.length; omega) _ s p _
    · exact .of_length (n := 1) (fun _ => rfl) (fun _ _ => rfl) fun length s p => by
        simp only [answerProbePort, oneNumber_of_length 8 length]
    · exact .of_length (n := 3) (fun _ => rfl) (fun _ _ => rfl) fun length s p => by
        simp only [answerInject, injectionOf_of_length length]
    · exact .of_length (n := 1) (fun _ => rfl) exec_readGroup fun length s p => by
        simp only [answerReadGroup, oneNumber_of_length 4 length]
    · exact .of_length (n := 1) (fun _ => rfl) exec_readTrunk fun length s p => by
        simp only [answerReadTrunk, oneNumber_of_length 8 length]
    · exact .of_length (n := 12) (fun _ => rfl) (fun _ _ => rfl) fun length s p => by
        simp only [answerBulkRoute, bulkOrderOf_of_length length]
    · exact .of_length (n := 0) (fun _ => rfl) (fun _ _ => rfl) fun length s p => by
        simp only [answerBulkAbort, bareBody_of_length length]
    · exact .of_length (n := 2) (fun _ => rfl) (fun _ _ => rfl) fun length s p => by
        simp only [answerReviewRange, rangeOf_of_length length]
    · exact .of_length (n := 0) (fun _ => rfl) exec_readSweep fun length s p => by
        simp only [answerReadSweep, bareBody_of_length length]
    · exact .of_length (n := 0) (fun _ => rfl) (fun _ _ => rfl) fun length s p => by
        simp only [answerTakeEvent, bareBody_of_length length]
    · exact .of_length (n := 1) (fun _ => rfl) exec_setMask fun length s p =>
        writesOwnRecord_setMask.range (maskOf_eq_none _ length)
    · exact .of_length (n := 2) (fun _ => rfl) exec_setUrgency fun length s p =>
        writesOwnRecord_setUrgency.range (urgencyWriteOf_eq_none_of_length _ length)
    · exact .of_length (n := 0) (fun _ => rfl) exec_clearAlarm fun length s p =>
        writesOwnRecord_clearAlarm.range (bareBody_of_length length)
    · exact .of_length (n := 1) (fun _ => rfl) exec_readParameters fun length s p => by
        simp only [answerReadParameters, oneNumber_of_length 22 length]
    · exact .of_length (n := 4) (fun _ => rfl) exec_writeParameter fun length s p => by
        simp only [answerWriteParameter, paramWriteOf_of_length length]
    · exact absurd rfl other

end Sys2Proof.Machine

section

open Sys2Proof Sys2Proof.Machine

/-- Settles O53: the kind codes of the table each have their row, whose reader takes no body of another
length. -/
theorem unknownKindsAndWrongLengths : Obligations.UnknownKindsAndWrongLengths := by
  intro s p lost k args straps hh
  constructor
  · intro unknown
    refine exec_refused (serves := kindUnknown) (act := answerUnknown) hh rfl ?_ rfl
    simpa [kindUnknown, kindCodes] using unknown
  · intro length
    by_cases reset : k = 0x5F
    · subst reset
      have wrong : args.length ≠ 0 := fun same => by rw [same] at length; cases length
      exact exec_resetExchange_refused straps hh (answerResetExchange_of_length wrong s p _)
    · obtain ⟨serves, act, served, row, range⟩ := rowServes_rowFor k args straps reset
      exact exec_refused hh (row .run s) served (range length s p)

end
end

section
/-! The queue of commands, the round of the request engine (R163), the sending of a response (R162) and the resets
(R172). -/

namespace Sys2Proof.Machine

/-! ## The round of the engine (R163) -/

/-- The ports of the round come in the order of their distances from the pointer. -/
theorem roundFrom_pairwise : ∀ pointer : Option Port,
    (roundFrom pointer).Pairwise fun p q => roundDistance pointer p < roundDistance pointer q := by
  decide

theorem mem_roundFrom (pointer : Option Port) (p : Port) : p ∈ roundFrom pointer := by
  revert pointer p
  decide

namespace State

variable {s : State} {p : Port}

theorem eligible_iff (s : State) (p : Port) :
    s.eligible p = true ↔ (s.control p).requests ≠ [] ∧ (s.control p).responses.length < 2 := by
  simp [eligible]

/-- R163: the eligible port at the least distance from the pointer is the next. -/
theorem nextPort_of_least (eligible : s.eligible p = true)
    (least : ∀ q, s.eligible q = true →
      roundDistance s.engine.pointer p ≤ roundDistance s.engine.pointer q) : s.nextPort = some p := by
  obtain ⟨before, after, split⟩ := List.append_of_mem (mem_roundFrom s.engine.pointer p)
  refine List.find?_eq_some_iff_append.mpr ⟨eligible, before, after, split, fun q earlier => ?_⟩
  have round := roundFrom_pairwise s.engine.pointer
  rw [split] at round
  have nearer := (List.pairwise_append.mp round).2.2 q earlier p (List.mem_cons_self ..)
  rw [Bool.not_eq_true', ← Bool.not_eq_true]
  exact fun h => absurd (least q h) (not_le.mpr nearer)

/-- R163: a free engine takes the oldest request of the next port, when the row serves it. -/
theorem takeRequest_of_next {body : List Octet} {rest : List (List Octet)} {serves : List Octet → Bool}
    (free : s.engine.held = none) (phase : s.engine.resetPhase = .none) (next : s.nextPort = some p)
    (requests : (s.control p).requests = body :: rest) (served : serves body = true) :
    s.takeRequest serves = s.holdRequest p body rest := by
  have engineFree : s.engineFree = true := by simp [engineFree, free, phase]
  simp only [takeRequest, engineFree, next, requests, served, if_true]

end State

/-! ## The resets (R172) -/

namespace State

variable (straps : Straps) (lines : LineMeasures) (l : List Instr)

theorem fresh_storesReset : StoresReset (fresh straps lines l) := by
  refine ⟨fun c => ?_, fun p n => ?_, fun p => ?_, fun d => ?_⟩
  · simp [fresh, route, Route.reset]
  · simp [fresh, holder]
  · simp [fresh, usedCount]
  · simp [fresh, desc, Descriptor.reset]

theorem fresh_monitorsReset : MonitorsReset (fresh straps lines l) := by
  refine ⟨fun p => ?_, rfl, rfl, rfl, rfl, rfl, rfl, rfl, rfl, rfl, rfl, rfl, fun g => ?_⟩
  · simp [fresh, port, PortRecord.reset]
  · simp [fresh, group, GroupRecord.reset]

theorem hostRecordClear_reset : HostRecordClear HostRecord.reset := by
  simp [HostRecordClear, HostRecord.reset]

theorem fresh_enginesReset : EnginesReset (fresh straps lines l) := by
  refine ⟨rfl, fun c => ?_, rfl, rfl, rfl, rfl, rfl, rfl, rfl, fun h => ?_, fun p => ?_, rfl,
    fresh_param straps lines l⟩
  · simp [fresh, queued, strandedHas, Sweep.reset]
  · have record : (fresh straps lines l).hostRecord h = HostRecord.reset := by simp [fresh, hostRecord]
    rw [record]
    exact hostRecordClear_reset
  · simp [fresh, control, Control.reset]

theorem fresh_exchangeReset : ExchangeReset (fresh straps lines l) := by
  refine ⟨fun c => ?_, fun p n => ?_, fun p => ?_⟩ <;> simp [fresh, Exchange.reset]

/-- R172: the card as a reset leaves it. -/
theorem fresh_afterReset : AfterReset straps (fresh straps lines l) :=
  ⟨fresh_storesReset straps lines l, fresh_monitorsReset straps lines l, fresh_enginesReset straps lines l,
    fresh_exchangeReset straps lines l, rfl, rfl, rfl⟩

/-- R50: a receiver starts by the measure of its line. -/
theorem startsBy_start (m : LineMeasure) : startsBy m (Framer.start m).state := by
  simp [startsBy, Framer.start, startState, carriesSignal]

theorem fresh_receiversStart : ReceiversStart lines (fresh straps lines l) := by
  refine ⟨fun k => ?_, fun p => ?_⟩
  · have start : (fresh straps lines l).trunk k = Framer.start lines.trunks[k] := by simp [fresh, trunk]
    rw [start]
    exact ⟨startsBy_start _, rfl, rfl, rfl⟩
  · have start : (fresh straps lines l).pathRx p = PathRx.start lines.paths[p] := by simp [fresh, pathRx]
    rw [start]
    exact ⟨startsBy_start _, rfl, rfl, rfl, rfl, rfl⟩

end State

/-! ## RESET EXCHANGE (R172) -/

/-- R172: an accepted RESET EXCHANGE puts a reset in hand. -/
theorem answerResetExchange_of_trusted {s : State} {p : Port} (k : Octet) (trusted : s.trusted p 0 = true) :
    answerResetExchange s p [k] =
      accept (s.setEngine { s.engine with resetPhase := s.acceptedReset p }) [] := by
  simp only [answerResetExchange, bareBody_kind, trusted, if_true]

/-- R172: what the service of an accepted RESET EXCHANGE leaves. -/
theorem serve_resetExchange {s : State} {p : Port} {lost : Bool} (hh : s.engine.held = some ⟨p, [0x5F], lost⟩)
    (trusted : s.trusted p 0 = true) :
    s.serve .run (kindIs 0x5F) answerResetExchange =
      (s.setEngine { s.engine with resetPhase := if lost then .due else .waiting p }).answered
        p lost 0x5F .done [] := by
  have phase : s.acceptedReset p = if lost then .due else .waiting p := by
    simp [State.acceptedReset, State.responseLost, hh]
  rw [State.serve_run_of_held s hh (kindIs_cons _ _),
    State.execute_accept s (by simpa using hh) (answerResetExchange_of_trusted _ trusted), phase]
  rfl

end Sys2Proof.Machine

section

open Sys2Proof Sys2Proof.Machine

/-- Settles O1, by the definition of a step. -/
theorem stepRunsFrontCommand : Obligations.StepRunsFrontCommand := by
  intro s c rest front
  simp only [step, front]

/-- Settles O2: both resets leave the fresh card. -/
theorem everyResetRestoresCard : Obligations.EveryResetRestoresCard := by
  refine ⟨fun s straps lines => ?_, fun s straps due => ?_⟩
  · exact ⟨_, rfl, State.fresh_afterReset _ _ _, State.fresh_receiversStart _ _ _, rfl⟩
  · refine ⟨s.resetNow straps, congrArg Host.Outcome.next (if_pos due), State.fresh_afterReset _ _ _,
      State.fresh_receiversStart _ _ _, rfl⟩

/-- Settles O3: the body, then the requester's tier; an accepted request waits for its response to be sent, or is
due at once. -/
theorem resetExchangeRequest : Obligations.ResetExchangeRequest := by
  intro s p lost args straps hh phase
  refine ⟨fun nonempty => ?range, ?denied, ?waiting, ?due⟩
  case range =>
    exact exec_resetExchange_refused straps hh
      (answerResetExchange_of_length (mt List.length_eq_zero_iff.mp nonempty) s p _)
  case denied =>
    rintro rfl untrusted
    refine exec_resetExchange_refused straps hh ?_
    have denied : ¬ s.trusted p 0 = true := by
      rw [State.trusted_iff]
      exact fun h => untrusted (Fin.le_zero_iff.mp h)
    simp only [answerResetExchange, bareBody_kind, if_neg denied]
  case waiting =>
    rintro rfl tier rfl
    exact exec_resetExchange_of_not_due straps
      (serve_resetExchange hh ((State.trusted_iff 0).mpr tier.le)) (.inr nofun)
  case due =>
    rintro rfl tier rfl
    refine ⟨_, exec_resetExchange_of_due straps
      (serve_resetExchange hh ((State.trusted_iff 0).mpr tier.le)) phase rfl, ?_, ?_⟩
    · exact State.fresh_afterReset _ _ _
    · exact State.fresh_receiversStart _ _ _

/-- Settles O16, by the definition of the command. -/
theorem responseLeavesQueue : Obligations.ResponseLeavesQueue := by
  intro s p body rest front sent
  have length : (s.control p).sent = recordLength body := sent
  have row : exec (.responseSent p) s = execResponseSent p s := rfl
  rw [row]
  refine ⟨fun ordinary => ?_, fun isReset => ?_⟩
  · simp only [execResponseSent, front, length, ordinary, if_true]
    rfl
  · simp only [execResponseSent, front, length, isReset, if_true]
    rfl

/-- Settles O17: the row of the request's kind serves it, whichever it is, and the port is the first eligible one
of the round. -/
theorem engineTakesInTurn : Obligations.EngineTakesInTurn := by
  intro s p body rest straps free phase nonempty requests room nearest
  have eligible : s.eligible p = true := (s.eligible_iff p).mpr ⟨by simp [requests], room⟩
  have next := State.nextPort_of_least eligible fun q h =>
    nearest q ((s.eligible_iff q).mp h).1 ((s.eligible_iff q).mp h).2
  have held : s.holdRequest p body rest =
      { s with
        ctl := s.ctl.set p { s.control p with requests := rest }
        engine := { pointer := some p, held := some ⟨p, body, false⟩, resetPhase := .none } } := by
    rw [← phase]
    rfl
  rw [← held]
  obtain ⟨k, args, rfl⟩ := List.exists_cons_of_ne_nil nonempty
  by_cases reset : k = 0x5F
  · subst reset
    refine exec_resetExchange_of_not_due straps
      (State.takeRequest_of_next free phase next requests (kindIs_cons _ _)) (.inr ?_)
    rw [held]
    exact nofun
  · obtain ⟨serves, act, served, row, -⟩ := rowServes_rowFor k args straps reset
    rw [row .take]
    exact congrArg Host.Outcome.next (State.takeRequest_of_next free phase next requests served)

end
end

section
/-! The layouts of the responses (R14, R41, R77, R127, R165, chapter 11). -/

namespace Sys2Proof.Machine

/-- R156: attention by the latch or by a presentable source. -/
theorem attentionRule (s : State) (h : HostId) : AttentionRule s h := by
  have all (x : Source) : x ∈ allSources := by cases x <;> decide
  unfold AttentionRule State.needsAttention
  rw [Bool.or_eq_true, List.any_eq_true]
  refine or_congr Iff.rfl ⟨fun ⟨x, _, presentable⟩ => ⟨x, ?_⟩, fun ⟨x, above, raised⟩ => ⟨x, all x, ?_⟩⟩
  · simpa [State.presentable] using presentable
  · simp [State.presentable, above, raised]

/-! ## The path sets of a standing (R6) -/

theorem Standing.current_eq_some {x : Standing} {cur : CurrentSet}
    (has : x = .routed cur ∨ ∃ m, x = .staged cur m) : x.current = some cur := by
  rcases has with rfl | ⟨m, rfl⟩ <;> rfl

theorem Standing.current_eq_none {x : Standing} (path : x.currentPath = none) : x.current = none := by
  cases x with
  | routed | staged => cases path
  | _ => rfl

theorem Standing.move_eq_none {x : Standing} (path : x.stagedPath = none) : x.move = none := by
  cases x with
  | staged => cases path
  | _ => rfl

/-! ## The octets at their places -/

@[simp] theorem octetAt_cons_zero (o : Octet) (l : List Octet) : octetAt (o :: l) 0 = o := rfl

@[simp] theorem octetAt_cons_succ (o : Octet) (l : List Octet) (i : Nat) :
    octetAt (o :: l) (i + 1) = octetAt l i := rfl

@[simp] theorem octetsAt_cons_succ (o : Octet) (l : List Octet) (i n : Nat) :
    octetsAt (o :: l) (i + 1) n = octetsAt l i n := rfl

@[simp] theorem octetsAt_cons_zero (o : Octet) (l : List Octet) (n : Nat) :
    octetsAt (o :: l) 0 (n + 1) = o :: octetsAt l 0 n := rfl

@[simp] theorem octetsAt_zero (l : List Octet) : octetsAt l 0 0 = [] := rfl

theorem octetAt_drop (l : List Octet) (n i : Nat) : octetAt (l.drop n) i = octetAt l (n + i) := by
  simp [octetAt, List.getD_eq_getElem?_getD]

/-! ## Octets of flags -/

section

variable {n : Nat} (x : BitVec n) (b : Bool)

/-- A flag joined below is bit 0. -/
theorem getLsbD_append_ofBool_zero : (x ++ BitVec.ofBool b).getLsbD 0 = b := by
  rw [BitVec.getLsbD_append, if_pos Nat.one_pos, BitVec.getLsbD_ofBool]
  simp

/-- The bits above a flag joined below are those before it. -/
theorem getLsbD_append_ofBool_succ (i : Nat) : (x ++ BitVec.ofBool b).getLsbD (i + 1) = x.getLsbD i := by
  simp [BitVec.getLsbD_append]

end

namespace State

variable (s : State)

/-! ## The status octet (R165) -/

theorem statusOctet_overrun (p : Port) : (s.statusOctet p).getLsbD 0 = (s.control p).overrunFlag :=
  getLsbD_append_ofBool_zero _ _

theorem statusOctet_attention (p : Port) :
    (s.statusOctet p).getLsbD 1 = s.needsAttention (s.hostOf p) :=
  (getLsbD_append_ofBool_succ _ _ 0).trans (getLsbD_append_ofBool_zero _ _)

theorem statusOctet_tier (p : Port) :
    ((s.statusOctet p).extractLsb' 2 2).toNat = (s.tierOf (s.hostOf p)).val := by
  have bits : (s.statusOctet p).extractLsb' 2 2 = BitVec.ofNat 2 (s.tierOf (s.hostOf p)).val := by
    refine BitVec.eq_of_getLsbD_eq fun i hi => ?_
    have place : (s.statusOctet p).getLsbD (2 + i) =
        (Config.statusSpare ++ BitVec.ofNat 2 (s.tierOf (s.hostOf p)).val).getLsbD i := by
      rw [show 2 + i = i + 1 + 1 by omega]
      exact (getLsbD_append_ofBool_succ _ _ _).trans (getLsbD_append_ofBool_succ _ _ _)
    simp only [BitVec.getLsbD_extractLsb', hi, decide_true, Bool.true_and, place, BitVec.getLsbD_append,
      if_true]
  rw [bits, BitVec.toNat_ofNat]
  exact Nat.mod_eq_of_lt (s.tierOf (s.hostOf p)).isLt

/-! ## The route report (R14) -/

theorem routeFlags_bits (c : Circuit) :
    (s.routeFlags c).getLsbD 0 = preferredOf (s.route c).standing.current ∧
    (s.routeFlags c).getLsbD 1 = stagedPreferredOf (s.route c).standing.move ∧
    (s.routeFlags c).getLsbD 2 = (s.route c).placed ∧
    (s.routeFlags c).getLsbD 3 = (s.route c).stationLost ∧
    (s.routeFlags c).getLsbD 4 = s.queued c := by
  have zero {n : Nat} (x : BitVec n) (b : Bool) := getLsbD_append_ofBool_zero x b
  have succ {n : Nat} (x : BitVec n) (b : Bool) (i : Nat) := getLsbD_append_ofBool_succ x b i
  refine ⟨zero _ _, (succ _ _ 0).trans (zero _ _), ?_, ?_, ?_⟩
  · exact (succ _ _ 1).trans ((succ _ _ 0).trans (zero _ _))
  · exact (succ _ _ 2).trans ((succ _ _ 1).trans ((succ _ _ 0).trans (zero _ _)))
  · exact (succ _ _ 3).trans ((succ _ _ 2).trans ((succ _ _ 1).trans ((succ _ _ 0).trans (zero _ _))))

/-- The octets of a route report that take one place each, with the pairs among them. -/
theorem routeReport_eq (c : Circuit) : ∃ d₁ d₂ p₁ p₂ v₁ v₂ q₁ q₂ w₁ w₂,
    descOctets (s.route c).fields.head = [d₁, d₂] ∧
    pathOctets ((s.route c).standing.current.map CurrentSet.path) = [p₁, p₂] ∧
    descOctets ((s.route c).standing.current.map CurrentSet.via) = [v₁, v₂] ∧
    pathOctets ((s.route c).standing.move.map StagedSet.path) = [q₁, q₂] ∧
    descOctets ((s.route c).standing.move.map StagedSet.via) = [w₁, w₂] ∧
    s.routeReport c =
      [BitVec.ofNat 8 c.val, BitVec.ofNat 8 (s.route c).standing.code, d₁, d₂,
        BitVec.ofNat 8 (s.route c).fields.tier.val, BitVec.ofNat 8 (s.route c).fields.cls.val,
        BitVec.ofNat 8 (s.route c).fields.discipline.code,
        BitVec.ofNat 8 (s.route c).fields.offset.val, p₁, p₂, v₁, v₂, q₁, q₂, w₁, w₂,
        BitVec.ofNat 8 (stagedTimerOf (s.route c).standing.move / 256),
        BitVec.ofNat 8 (stagedTimerOf (s.route c).standing.move),
        BitVec.ofNat 8 (s.route c).moves, s.routeFlags c] := by
  have desc (d : Option Desc) : ∃ a b, descOctets d = [a, b] := by cases d <;> exact ⟨_, _, rfl⟩
  have path (q : Option PathSlot) : ∃ a b, pathOctets q = [a, b] := by cases q <;> exact ⟨_, _, rfl⟩
  obtain ⟨d₁, d₂, head⟩ := desc (s.route c).fields.head
  obtain ⟨p₁, p₂, current⟩ := path ((s.route c).standing.current.map CurrentSet.path)
  obtain ⟨v₁, v₂, via⟩ := desc ((s.route c).standing.current.map CurrentSet.via)
  obtain ⟨q₁, q₂, staged⟩ := path ((s.route c).standing.move.map StagedSet.path)
  obtain ⟨w₁, w₂, stagedVia⟩ := desc ((s.route c).standing.move.map StagedSet.via)
  refine ⟨d₁, d₂, p₁, p₂, v₁, v₂, q₁, q₂, w₁, w₂, head, current, via, staged, stagedVia, ?_⟩
  simp only [routeReport, head, current, via, staged, stagedVia, one, two, List.cons_append, List.nil_append]

/-! ## The port report (R77) -/

theorem portFlags_bits (p : Port) :
    (s.portFlags p).getLsbD 0 = (s.port p).losHold ∧
    (s.portFlags p).getLsbD 1 = (s.pathRx p).farEndReady ∧
    (s.portFlags p).getLsbD 2 = readySettingBit (s.port p).state := by
  have zero {n : Nat} (x : BitVec n) (b : Bool) := getLsbD_append_ofBool_zero x b
  have succ {n : Nat} (x : BitVec n) (b : Bool) (i : Nat) := getLsbD_append_ofBool_succ x b i
  exact ⟨zero _ _, (succ _ _ 0).trans (zero _ _), (succ _ _ 1).trans ((succ _ _ 0).trans (zero _ _))⟩

theorem portReport_eq (p : Port) : s.portReport p =
    [BitVec.ofNat 8 p.val, BitVec.ofNat 8 (s.port p).state.code, BitVec.ofNat 8 ((s.port p).h / 256),
      BitVec.ofNat 8 (s.port p).h, BitVec.ofNat 8 (s.port p).q,
      BitVec.ofNat 8 (s.pathRx p).framer.state.code, s.portFlags p,
      BitVec.ofNat 8 (verdictCode (s.port p).state), BitVec.ofNat 8 (s.usedCount p),
      BitVec.ofNat 8 (s.port p).ceiling,
      BitVec.ofNat 8 ((s.port p).counts.fae / 256), BitVec.ofNat 8 (s.port p).counts.fae,
      BitVec.ofNat 8 ((s.port p).counts.ccf / 256), BitVec.ofNat 8 (s.port p).counts.ccf,
      BitVec.ofNat 8 ((s.port p).counts.ferd / 256), BitVec.ofNat 8 (s.port p).counts.ferd,
      BitVec.ofNat 8 ((s.port p).counts.los / 256), BitVec.ofNat 8 (s.port p).counts.los,
      BitVec.ofNat 8 ((s.port p).counts.down / 256), BitVec.ofNat 8 (s.port p).counts.down,
      BitVec.ofNat 8 ((s.port p).counts.overrun / 256), BitVec.ofNat 8 (s.port p).counts.overrun,
      BitVec.ofNat 8 ((s.port p).failBack.getD 0 / 65536),
      BitVec.ofNat 8 ((s.port p).failBack.getD 0 / 256), BitVec.ofNat 8 ((s.port p).failBack.getD 0),
      BitVec.ofNat 8 (s.hostOf p).val, BitVec.ofNat 8 (s.groupOf p).val] := by
  simp only [portReport, one, two, three, List.cons_append, List.nil_append]

/-! ## The sweep report (R127) -/

/-- The extents, template and originator of the walk record. -/
theorem orderOctets_some (o : WalkOrder) : ∃ d₁ d₂, descOctets o.template.head = [d₁, d₂] ∧
    orderOctets (some o) =
      [BitVec.ofNat 8 o.trunkFirst.val, BitVec.ofNat 8 o.trunkLast.val, BitVec.ofNat 8 o.slotFirst.val,
        BitVec.ofNat 8 o.slotLast.val, BitVec.ofNat 8 o.template.service.code, d₁, d₂,
        BitVec.ofNat 8 o.template.tier.val, BitVec.ofNat 8 o.template.cls.val,
        BitVec.ofNat 8 o.template.discipline.code, BitVec.ofNat 8 o.template.mode.code,
        o.template.reportedValue, BitVec.ofNat 8 o.originator.val,
        BitVec.ofNat 8 o.originatorTier.val] := by
  obtain ⟨d₁, d₂, head, -⟩ := descOrAbsent_descOctets o.template.head
  refine ⟨d₁, d₂, head, ?_⟩
  simp only [orderOctets, head, one, List.cons_append, List.nil_append]

theorem length_orderOctets (order : Option WalkOrder) : (orderOctets order).length = 14 := by
  cases order with
  | none => rfl
  | some o =>
    obtain ⟨d₁, d₂, -, octets⟩ := orderOctets_some o
    rw [octets]
    rfl

theorem sweepReport_eq : s.sweepReport =
    [BitVec.ofNat 8 (if decide (s.sweep.state = .running) then 1 else 0),
      BitVec.ofNat 8 s.sweepQueue.length,
      BitVec.ofNat 8 (s.sweepQueue.filter fun c => decide ((s.route c).standing = .displaced)).length,
      BitVec.ofNat 8 ((s.sweepQueue.head?.map Fin.val).getD 0xFF),
      BitVec.ofNat 8 s.strandedCircuits.length,
      BitVec.ofNat 8 ((s.strandedCircuits.head?.map Fin.val).getD 0xFF),
      BitVec.ofNat 8 (if decide (s.walker.state = .walking) then 1 else 0)] ++
    (orderOctets s.walker.order ++
      [BitVec.ofNat 8 s.walker.total,
        BitVec.ofNat 8 ((s.walker.cursor.map fun x => x.1.val).getD 0xFF),
        BitVec.ofNat 8 ((s.walker.cursor.map fun x => x.2.val).getD 0xFF),
        BitVec.ofNat 8 s.walker.written, BitVec.ofNat 8 s.walker.skipped]) := by
  simp only [sweepReport, Walker.cursorOctets, one, yesNo, oneOrNone, List.cons_append, List.nil_append,
    List.append_assoc]

/-- The counts of the walk, behind its order. -/
def walkTail : List Octet :=
  [BitVec.ofNat 8 s.walker.total, BitVec.ofNat 8 ((s.walker.cursor.map fun x => x.1.val).getD 0xFF),
    BitVec.ofNat 8 ((s.walker.cursor.map fun x => x.2.val).getD 0xFF),
    BitVec.ofNat 8 s.walker.written, BitVec.ofNat 8 s.walker.skipped]

/-- The walk order stands at places 8 to 21 of the sweep report, and the counts of the walk behind it. -/
theorem drop_sweepReport : s.sweepReport.drop 7 = orderOctets s.walker.order ++ s.walkTail := by
  rw [sweepReport_eq]
  rfl

theorem octetsAt_sweepReport_order {i n : Nat} (fits : i + n ≤ 14) :
    octetsAt s.sweepReport (7 + i) n = octetsAt (orderOctets s.walker.order) i n := by
  have length := length_orderOctets s.walker.order
  rw [octetsAt, ← List.drop_drop, drop_sweepReport, List.drop_append_of_le_length (by omega),
    List.take_append_of_le_length (by rw [List.length_drop]; omega), octetsAt]

theorem octetAt_sweepReport_order {i : Nat} (fits : i < 14) :
    octetAt s.sweepReport (7 + i) = octetAt (orderOctets s.walker.order) i := by
  have length := length_orderOctets s.walker.order
  rw [← octetAt_drop, drop_sweepReport, octetAt, List.getD_append _ _ _ _ (by omega), octetAt]

theorem drop_sweepReport_tail : s.sweepReport.drop 21 = s.walkTail := by
  rw [show 21 = 7 + 14 from rfl, ← List.drop_drop, drop_sweepReport,
    List.drop_left' (length_orderOctets s.walker.order)]

theorem octetsAt_sweepReport_tail (i n : Nat) :
    octetsAt s.sweepReport (21 + i) n = octetsAt s.walkTail i n := by
  rw [octetsAt, ← List.drop_drop, drop_sweepReport_tail, octetsAt]

theorem octetAt_sweepReport_tail (i : Nat) : octetAt s.sweepReport (21 + i) = octetAt s.walkTail i := by
  rw [← octetAt_drop, drop_sweepReport_tail]

end State

end Sys2Proof.Machine

section

open Sys2Proof Sys2Proof.Machine

/-- Settles O18: each report written out, and its octets and flags read at their places. -/
theorem responseLayouts : Obligations.ResponseLayouts := by
  refine ⟨attentionRule, fun s p => ⟨s.statusOctet_overrun p, s.statusOctet_attention p, s.statusOctet_tier p⟩,
    ?route, ?port, ?desc, ?sweep⟩
  case route =>
    rintro s c r l rfl rfl
    obtain ⟨d₁, d₂, p₁, p₂, v₁, v₂, q₁, q₂, w₁, w₂, head, current, via, staged, stagedVia, report⟩ :=
      s.routeReport_eq c
    obtain ⟨preferred, stagedPreferred, placed, lost, queued⟩ := s.routeFlags_bits c
    rw [report]
    simp only [octetAt_cons_succ, octetAt_cons_zero, octetsAt_cons_succ, octetsAt_cons_zero, octetsAt_zero,
      preferred, stagedPreferred, placed, lost, queued]
    refine ⟨rfl, trivial, ?code, ?head, trivial, trivial, ?discipline, trivial, fun cur has => ?current,
      fun empty => ?noCurrent, fun cur m standing => ?staged, fun empty => ?noStaged, trivial, trivial,
      trivial, trivial⟩
    case code => cases (s.route c).standing <;> rfl
    case head =>
      rw [← head]
      cases (s.route c).fields.head <;> rfl
    case discipline => cases (s.route c).fields.discipline <;> rfl
    case current =>
      rw [Standing.current_eq_some has] at current via ⊢
      cases current
      exact ⟨rfl, rfl, via.symm, rfl⟩
    case noCurrent =>
      rw [Standing.current_eq_none empty] at current via ⊢
      cases current
      cases via
      exact ⟨rfl, rfl⟩
    case staged =>
      rw [standing] at staged stagedVia ⊢
      cases staged
      exact ⟨rfl, rfl, stagedVia.symm, rfl, rfl⟩
    case noStaged =>
      rw [Standing.move_eq_none empty] at staged stagedVia ⊢
      cases staged
      cases stagedVia
      exact ⟨rfl, rfl⟩
  case port =>
    rintro s p r l rfl rfl
    obtain ⟨losHold, ready, setting⟩ := s.portFlags_bits p
    simp only [s.portReport_eq, octetAt_cons_succ, octetAt_cons_zero, octetsAt_cons_succ,
      octetsAt_cons_zero, octetsAt_zero, losHold, ready]
    refine ⟨rfl, trivial, ?state, rfl, trivial, ?framer, trivial, trivial, ?_, ?verdict, trivial, trivial, rfl,
      ?failBack, rfl, rfl⟩
    case state => cases (s.port p).state <;> rfl
    case framer => cases (s.pathRx p).framer.state <;> rfl
    case verdict =>
      cases (s.port p).state with
      | loopback ready v => cases v <;> rfl
      | _ => rfl
    case failBack => cases (s.port p).failBack <;> rfl
    rintro ready v loopback
    rw [setting, loopback]
    rfl
  case desc =>
    rintro s d r rfl
    refine ⟨Config.poolSlotOctet d, ?_⟩
    have flag (b : Bool) : BitVec.ofNat 8 (if b then 1 else 0) = if b then (1 : Octet) else 0 := by
      cases b <;> rfl
    cases kind : (s.desc d).kind with
    | path p rule alternative =>
      simp only [State.descReport, kind, one, yesNo, flag, List.cons_append, List.nil_append]
      cases rule <;> cases alternative <;> rfl
    | divert target shift =>
      simp only [State.descReport, kind, one, two, yesNo, flag, List.cons_append, List.nil_append]
      rfl
  case sweep =>
    rintro s w l rfl rfl
    have flag (x : Prop) [Decidable x] :
        BitVec.ofNat 8 (if decide x = true then 1 else 0) = if x then (1 : Octet) else 0 := by
      by_cases h : x <;> simp [h]
    have order {i n : Nat} (fits : i + n ≤ 14) := s.octetsAt_sweepReport_order fits
    have tail (i n : Nat) := s.octetsAt_sweepReport_tail i n
    rw [order (i := 0) (n := 14) (by decide), order (i := 0) (n := 5) (by decide),
      order (i := 5) (n := 2) (by decide), order (i := 7) (n := 4) (by decide),
      order (i := 12) (n := 2) (by decide), s.octetAt_sweepReport_order (i := 11) (by decide),
      s.octetAt_sweepReport_tail 0, tail 1 2, tail 3 2]
    simp only [s.sweepReport_eq, List.cons_append, octetAt_cons_zero, octetAt_cons_succ]
    refine ⟨?length, flag _, trivial, trivial, ?front, trivial, ?waiting, flag _, ?noOrder, ?order, rfl, ?cursor,
      rfl⟩
    case length => simp [State.length_orderOctets]
    case front => cases s.sweepQueue <;> rfl
    case waiting => cases s.strandedCircuits <;> rfl
    case noOrder =>
      intro none
      rw [none]
      rfl
    case order =>
      intro o walks
      obtain ⟨d₁, d₂, heads, octets⟩ := State.orderOctets_some o
      rw [walks, octets]
      simp only [octetAt_cons_succ, octetAt_cons_zero, octetsAt_cons_succ, octetsAt_cons_zero, octetsAt_zero]
      refine ⟨?service, ?head, ?modes, ?value, trivial⟩
      case service => cases o.template.service <;> rfl
      case head =>
        rw [← heads]
        cases o.template.head <;> rfl
      case modes => cases o.template.discipline <;> cases o.template.mode <;> rfl
      case value =>
        intro v mode
        simp only [Template.reportedValue, mode]
    case cursor =>
      rw [State.walkTail]
      cases s.walker.cursor <;> rfl

end
end

section
/-! The attention controller (chapter 10): what an occurrence records, the sources and their details, and the source
that a TAKE EVENT presents. -/

namespace Sys2Proof.Machine

/-! ## The first member of a set (R152) -/

/-- The first member of a numbering that a test picks out. -/
theorem find?_finRange_of_first {n : Nat} {f : Fin n → Bool} {i : Fin n} (member : f i = true)
    (first : ∀ j, j < i → f j = false) : (List.finRange n).find? f = some i := by
  obtain ⟨before, after, split⟩ := List.append_of_mem (List.mem_finRange i)
  have sorted := List.pairwise_lt_finRange n
  rw [split] at sorted
  refine List.find?_eq_some_iff_append.mpr ⟨member, before, after, split, fun j earlier => ?_⟩
  rw [first j ((List.pairwise_append.mp sorted).2.2 j earlier i (List.mem_cons_self ..))]
  rfl

theorem firstMember_of_firstOf {n : Nat} {v : Vector Bool n} {i : Fin n} (first : FirstOf v i) :
    firstMember v = some i :=
  find?_finRange_of_first first.1 first.2

theorem firstMember_isSome_iff {n : Nat} (v : Vector Bool n) :
    (firstMember v).isSome = true ↔ ∃ i : Fin n, v[i] = true := by
  simp [firstMember]

theorem dropFirst_of_firstOf {n : Nat} {v : Vector Bool n} {i : Fin n} (first : FirstOf v i) :
    dropFirst v = v.set i false := by
  simp only [dropFirst, firstMember_of_firstOf first]

theorem memberOctets_memberIndex (p : Port) (m : Bool) :
    memberOctets (memberIndex p m) = [BitVec.ofNat 8 p.val, if m then 1 else 0] := by
  revert p m
  decide

theorem firstMemberOctets_of_firstOf {v : Vector Bool 16} {p : Port} {m : Bool}
    (first : FirstOf v (memberIndex p m)) :
    firstMemberOctets v = [BitVec.ofNat 8 p.val, if m then 1 else 0] := by
  simp only [firstMemberOctets, firstMember_of_firstOf first, memberOctets_memberIndex]

/-! ## The sources (10.2, R152 to R154, R157) -/

theorem sourceNumbers (s : State) (h : HostId) : SourceNumbers s h := by
  refine ⟨rfl, rfl, rfl, rfl, rfl, rfl, rfl, rfl, rfl, rfl, rfl, fun x n number => ?_⟩
  have index : sourceIndex x = n := Fin.ext (Nat.succ.inj number)
  simp only [State.urgency, index]

theorem takenRule (r : HostRecord) : TakenRule r := by
  have taken {n : Nat} {v : Vector Bool n} {i : Fin n} (first : FirstOf v i) := dropFirst_of_firstOf first
  refine ⟨fun i first => ?_, fun i first => ?_, fun i first => ?_, fun i first => ?_, rfl, rfl, rfl, rfl, rfl,
    rfl, rfl⟩
  · rw [HostRecord.taken, taken first]
  · rw [HostRecord.taken, taken first]
  · rw [HostRecord.taken, taken first]
  · rw [HostRecord.taken, taken first]

namespace State

variable {s : State}

theorem raisedRule (s : State) (h : HostId) : RaisedRule s h := by
  refine ⟨firstMember_isSome_iff _, firstMember_isSome_iff _, firstMember_isSome_iff _,
    firstMember_isSome_iff _, ?_, ?_, decide_eq_true_iff, decide_eq_true_iff, decide_eq_true_iff, ?_, Iff.rfl⟩
  · simp [raised, strandedCircuits]
  · simp [raised, alarmTrunks, inAlarm]
  · simp [raised, Option.isSome_iff_ne_none]

theorem strandedCircuits_head_of_first {c : Circuit} (stranded : s.strandedHas c = true)
    (first : ∀ d : Circuit, d < c → s.strandedHas d = false) : s.strandedCircuits.head? = some c := by
  rw [strandedCircuits, List.head?_filter]
  exact find?_finRange_of_first stranded first

theorem strandedCircuits_of_none (none : ∀ c : Circuit, s.strandedHas c = false) :
    s.strandedCircuits = [] := by
  simp [strandedCircuits, none]

theorem detailRule (s : State) (h : HostId) : DetailRule s h := by
  have flag (b : Bool) : one (if b then 1 else 0) = [if b then (1 : Octet) else 0] := by cases b <;> rfl
  refine ⟨fun p m => firstMemberOctets_of_firstOf, fun p m => firstMemberOctets_of_firstOf,
    fun p m => firstMemberOctets_of_firstOf, fun g first => ?_, fun c stranded first => ?_, fun none => ?_,
    ⟨octetOfSet s.inAlarm, rfl, fun k => octetOfSet_getLsbD _ k⟩, fun c d k latest => ?_, fun c latest => ?_,
    fun p n passed latest => ?_, fun completed w k done => ?_, rfl⟩
  · simp only [detailOctets, firstMember_of_firstOf first, one]
  · simp only [detailOctets, strandedCircuits_head_of_first stranded first]
    rfl
  · simp only [detailOctets, strandedCircuits_of_none none]
    rfl
  · simp only [detailOctets, latest]
    cases k <;> rfl
  · simp only [detailOctets, latest]
    rfl
  · simp only [detailOctets, latest]
    cases passed <;> rfl
  · simp only [detailOctets, done]
    cases completed <;> rfl

/-- R155: the exchange is lost when no port is left in service. -/
theorem exchangeLost_iff (s : State) : s.exchangeLost = true ↔
    ∀ q : Port, (s.port q).state ≠ .up ∧ (s.port q).state ≠ .suspect := by
  have out (q : Port) : s.inService q = false ↔ (s.port q).state ≠ .up ∧ (s.port q).state ≠ .suspect := by
    unfold inService
    cases (s.port q).state <;> simp [PortState.inService]
  simp [exchangeLost, out]

end State

/-! ## The source presented (R157) -/

/-- The better of the source held and the next in number order. -/
def better (u : Source → Urgency) (best : Option Source) (x : Source) : Option Source :=
  match best with
  | none => some x
  | some b => if u b < u x then some x else some b

theorem foldl_better_mem {u : Source → Urgency} {l : List Source} {x : Source}
    (best : l.foldl (better u) none = some x) : x ∈ l := by
  induction l using List.reverseRecOn with
  | nil => cases best
  | append_singleton l y ih =>
    rw [List.foldl_append, List.foldl_cons, List.foldl_nil] at best
    cases before : l.foldl (better u) none with
    | none =>
      rw [before] at best
      cases best
      simp
    | some b =>
      rw [before] at best
      simp only [better] at best
      split at best
      · cases best
        simp
      · cases best
        exact List.mem_append_left _ (ih before)

theorem foldl_better_of_least {u : Source → Urgency} {l : List Source} {x : Source}
    (least : ∀ y ∈ l, ¬ u x < u y) : l.foldl (better u) (some x) = some x := by
  induction l with
  | nil => rfl
  | cons y l ih =>
    rw [List.foldl_cons, better, if_neg (least y (List.mem_cons_self ..))]
    exact ih fun z member => least z (List.mem_cons_of_mem _ member)

/-- Of sources in number order, the one of highest urgency, and of lowest number among equals. -/
theorem foldl_better_eq_some {u : Source → Urgency} {l : List Source}
    (sorted : l.Pairwise fun x y => x.number < y.number) {x : Source} (member : x ∈ l)
    (best : ∀ y ∈ l, y ≠ x → u y < u x ∨ u y = u x ∧ x.number < y.number) :
    l.foldl (better u) none = some x := by
  obtain ⟨before, after, rfl⟩ := List.append_of_mem member
  obtain ⟨-, sortedAfter, order⟩ := List.pairwise_append.mp sorted
  have taken : better u (before.foldl (better u) none) x = some x := by
    cases held : before.foldl (better u) none with
    | none => rfl
    | some y =>
      have earlier := foldl_better_mem held
      have lower := order y earlier x (List.mem_cons_self ..)
      rcases best y (List.mem_append_left _ earlier) (by rintro rfl; omega) with less | ⟨-, higher⟩
      · exact if_pos less
      · omega
  rw [List.foldl_append, List.foldl_cons, taken]
  refine foldl_better_of_least fun y later => ?_
  have higher := (List.pairwise_cons.mp sortedAfter).1 y later
  rcases best y (by simp [later]) (by rintro rfl; omega) with less | ⟨same, -⟩
  · exact not_lt.mpr less.le
  · exact not_lt.mpr same.le

theorem allSources_sorted : allSources.Pairwise fun x y => x.number < y.number := by decide

theorem mem_allSources (x : Source) : x ∈ allSources := by cases x <;> decide

namespace State

variable {s : State} {h : HostId}

theorem presentable_iff (s : State) (h : HostId) (x : Source) :
    s.presentable h x = true ↔ (s.hostRecord h).mask < s.urgency h x ∧ s.raised h x = true := by
  simp [presentable]

theorem topSource_eq (s : State) (h : HostId) :
    s.topSource h = (allSources.filter fun x => s.presentable h x).foldl (better (s.urgency h)) none := rfl

/-- R157: the presentable source of highest urgency, and of lowest number among equals, is on top. -/
theorem topSource_eq_some {x : Source} (raised : s.raised h x = true)
    (above : (s.hostRecord h).mask < s.urgency h x)
    (best : ∀ y, s.raised h y = true → (s.hostRecord h).mask < s.urgency h y → y ≠ x →
      s.urgency h y < s.urgency h x ∨ s.urgency h y = s.urgency h x ∧ x.number < y.number) :
    s.topSource h = some x := by
  rw [topSource_eq]
  refine foldl_better_eq_some (allSources_sorted.filter _) ?_ fun y member => ?_
  · exact List.mem_filter.mpr ⟨mem_allSources x, (s.presentable_iff h x).mpr ⟨above, raised⟩⟩
  · obtain ⟨above', raised'⟩ := (s.presentable_iff h y).mp (List.mem_filter.mp member).2
    exact best y raised' above'

theorem topSource_eq_none (quiet : ∀ x, s.raised h x = true → s.urgency h x ≤ (s.hostRecord h).mask) :
    s.topSource h = none := by
  have empty : (allSources.filter fun x => s.presentable h x) = [] :=
    List.filter_eq_nil_iff.mpr fun x _ presentable => by
      obtain ⟨above, raised⟩ := (s.presentable_iff h x).mp presentable
      exact absurd (quiet x raised) (not_le.mpr above)
  rw [topSource_eq, empty]
  rfl

end State

theorem exec_takeEvent (phase : EnginePhase) (s : State) :
    exec (.takeEvent phase) s = .next (s.serve phase (kindIs 0x40) answerTakeEvent) := rfl

end Sys2Proof.Machine

section

open Sys2Proof Sys2Proof.Machine

/-- Settles O38, occurrence by occurrence. -/
theorem occurrenceReachesEveryHost : Obligations.OccurrenceReachesEveryHost := by
  intro s o handed
  refine ⟨_, congrArg Host.Outcome.next (if_pos handed), rfl, fun h => ?_⟩
  have record (u : State) : (u.recordAll o).hostRecord h = (u.hostRecord h).record o := by
    simp [State.recordAll, State.hostRecord]
  rw [record]
  cases o <;> rfl

/-- Settles O39: the sources by their rules, and a TAKE EVENT by the latch, then by the source on top. -/
theorem takeEventAnswers : Obligations.TakeEventAnswers := by
  refine ⟨fun s h => ⟨sourceNumbers s h, s.raisedRule h, s.detailRule h⟩, takenRule, State.exchangeLost_iff, ?_⟩
  rintro s p lost args h rfl hh
  have row := exec_takeEvent .run s
  refine ⟨fun nonempty => ?range, ?latch, ?none, ?source⟩
  case range =>
    exact exec_refused hh row (kindIs_cons _ _)
      (by simp only [answerTakeEvent, bareBody_eq_none _ nonempty])
  case latch =>
    rintro rfl latch
    refine exec_done hh row (kindIs_cons _ _) rfl ?_
    simp only [answerTakeEvent, bareBody_kind, latch, if_true]
    rfl
  case none =>
    rintro rfl latch quiet
    refine exec_done hh row (kindIs_cons _ _) rfl ?_
    simp only [answerTakeEvent, bareBody_kind, latch, State.topSource_eq_none quiet]
    rfl
  case source =>
    rintro x rfl latch raised above best
    refine exec_done (u := s.takeSource (s.hostOf p) x) hh row (kindIs_cons _ _) rfl ?_
    simp only [answerTakeEvent, bareBody_kind, latch, State.topSource_eq_some raised above best]
    rfl

end
end

section
/-! BULK ROUTE, BULK ABORT and REVIEW RANGE (R141, R145, R147, R148): their operands, their checks and what they
leave. -/

namespace Sys2Proof.Machine

/-! ## The operands (R141, R147) -/

theorem offsetModeOf_eq_some_iff {m v : Octet} {mode : OffsetMode} :
    offsetModeOf m v = some mode ↔
      m = BitVec.ofNat 8 mode.code ∧ v.toNat ≤ 29 ∧ ∀ x, mode = .value x → v.toNat = x.val := by
  unfold offsetModeOf
  constructor
  · intro read
    obtain ⟨value, fits, read⟩ := Option.bind_eq_some_iff.mp read
    have number := toNat_of_octetFin fits
    have within : v.toNat ≤ 29 := by omega
    split at read
    case h_4 => cases read
    all_goals
      rename_i code
      cases read
      refine ⟨octet_of_toNat code, within, fun x same => ?_⟩
      cases same
    exact number
  · rintro ⟨rfl, within, value⟩
    obtain ⟨x, number⟩ : ∃ x : Fin 30, v.toNat = x.val := ⟨⟨v.toNat, by omega⟩, rfl⟩
    have fits : octetFin 30 v = some x := by
      rw [octet_of_toNat number]
      exact octetFin_ofNat (by decide) x
    rw [fits]
    cases mode with
    | keep => rfl
    | stationSlot => rfl
    | value y =>
      have same : x = y := Fin.ext (number.symm.trans (value y rfl))
      rw [same]
      rfl

/-- The octets of a template, as a BULK ROUTE carries them. -/
def Template.octets (t : Template) : List Octet :=
  one t.service.code ++ descOctets t.head ++ one t.tier.val ++ one t.cls.val ++ one t.discipline.code
    ++ one t.mode.code ++ [t.valueOctet]

theorem templateOf_eq_some_iff {sv h₁ h₂ t k d m v : Octet} {x : Template} :
    templateOf sv h₁ h₂ t k d m v = some x ↔
      [sv, h₁, h₂, t, k, d, m, v] = x.octets ∧ headAllowed x.service x.head = true ∧ x.ValueFits := by
  unfold templateOf
  simp only [Option.bind_eq_bind, Option.bind_eq_some_iff, Option.ite_none_right_eq_some, Option.some.injEq,
    serviceOf_eq_some_iff, descOrAbsent_eq_some_iff, octetFin_eq_some_iff (n := 4) (by decide),
    disciplineOf_eq_some_iff, offsetModeOf_eq_some_iff]
  constructor
  · rintro ⟨service, rfl, head, heads, tier, rfl, cls, rfl, discipline, rfl, mode, ⟨rfl, within, value⟩,
      allowed, rfl⟩
    refine ⟨?_, allowed, within, value⟩
    simp only [Template.octets, one, ← heads]
    rfl
  · rintro ⟨octets, allowed, within, value⟩
    obtain ⟨d₁, d₂, heads, -⟩ := descOrAbsent_descOctets x.head
    simp only [Template.octets, one, heads, List.cons_append, List.nil_append, List.cons.injEq, and_true]
      at octets
    obtain ⟨rfl, rfl, rfl, rfl, rfl, rfl, rfl, rfl⟩ := octets
    exact ⟨x.service, rfl, x.head, heads.symm, x.tier, rfl, x.cls, rfl, x.discipline, rfl, x.mode,
      ⟨rfl, within, value⟩, allowed, rfl⟩

/-- A body that BULK ROUTE accepts is the encoding of what is read. -/
theorem octets_of_bulkOrderOf {k : Octet} {args : List Octet} {b : BulkOrder}
    (read : bulkOrderOf (k :: args) = some b) :
    args = b.octets ∧ headAllowed b.template.service b.template.head = true ∧ b.template.ValueFits := by
  unfold bulkOrderOf at read
  split at read
  case h_2 => cases read
  case h_1 body =>
    simp only [Option.bind_eq_bind, Option.bind_eq_some_iff, Option.some.injEq, templateOf_eq_some_iff,
      octetFin_eq_some_iff (n := 8) (by decide), octetFin_eq_some_iff (n := 16) (by decide)] at read
    obtain ⟨t₁, rfl, t₂, rfl, s₁, rfl, s₂, rfl, x, ⟨octets, checks⟩, rfl⟩ := read
    obtain ⟨rfl, rfl⟩ : k = _ ∧ args = _ := by simpa using body
    refine ⟨?_, checks⟩
    rw [octets]
    simp only [BulkOrder.octets, Template.octets, one, List.cons_append, List.nil_append, List.append_assoc]

theorem bulkOrderOf_octets (k : Octet) {b : BulkOrder}
    (allowed : headAllowed b.template.service b.template.head = true) (fits : b.template.ValueFits) :
    bulkOrderOf (k :: b.octets) = some b := by
  obtain ⟨d₁, d₂, heads, -⟩ := descOrAbsent_descOctets b.template.head
  have read : templateOf (BitVec.ofNat 8 b.template.service.code) d₁ d₂ (BitVec.ofNat 8 b.template.tier.val)
      (BitVec.ofNat 8 b.template.cls.val) (BitVec.ofNat 8 b.template.discipline.code)
      (BitVec.ofNat 8 b.template.mode.code) b.template.valueOctet = some b.template := by
    refine templateOf_eq_some_iff.mpr ⟨?_, allowed, fits⟩
    simp only [Template.octets, one, heads, List.cons_append, List.nil_append]
  simp [bulkOrderOf, BulkOrder.octets, one, heads, read, octetFin_ofNat]

theorem rangeOf_eq_some_iff {k : Octet} {args : List Octet} {first last : Circuit} :
    rangeOf (k :: args) = some (first, last) ↔ args = one first.val ++ one last.val := by
  constructor
  · intro read
    unfold rangeOf at read
    split at read
    case h_2 => cases read
    case h_1 body =>
      simp only [Option.bind_eq_bind, Option.bind_eq_some_iff, Option.some.injEq, Prod.mk.injEq,
        octetFin_eq_some_iff (n := 128) (by decide)] at read
      obtain ⟨_, rfl, _, rfl, rfl, rfl⟩ := read
      obtain ⟨rfl, rfl⟩ : k = _ ∧ args = _ := by simpa using body
      rfl
  · rintro rfl
    simp [rangeOf, one, octetFin_ofNat]

theorem exec_bulkRoute (phase : EnginePhase) (s : State) :
    exec (.bulkRoute phase) s = .next (s.serve phase (kindIs 0x30) answerBulkRoute) := rfl

theorem exec_bulkAbort (phase : EnginePhase) (s : State) :
    exec (.bulkAbort phase) s = .next (s.serve phase (kindIs 0x31) answerBulkAbort) := rfl

theorem exec_reviewRange (phase : EnginePhase) (s : State) :
    exec (.reviewRange phase) s = .next (s.serve phase (kindIs 0x32) answerReviewRange) := rfl

/-! ## The review of a range (R147, R148) -/

namespace State

variable {s : State}

/-- R126: an event that leaves a RUNNING engine a circuit in the queue raises no SWEEP IDLE. -/
theorem settleSweep_of_kept (kept : s.sweep.state = .running → ∃ c, s.queued c = true) :
    ∃ w, s.settleSweep = { s with sweep := w } := by
  by_cases queued : ∃ c, s.queued c = true
  · obtain ⟨c, queued⟩ := queued
    exact ⟨{ s.sweep with state := .running }, settleSweep_of_queued s queued⟩
  · have idle : s.sweep.state ≠ .running := fun running => queued (kept running)
    exact ⟨s.sweep, settleSweep_of_runningLaw s (iff_of_false idle queued)⟩

theorem reviewable_iff (x : Standing) :
    x.reviewable = true ↔ x = .stranded ∨ ∃ cur, x = .routed cur := by
  cases x <;> simp [Standing.reviewable]

theorem inRange_iff (first last c : Circuit) : inRange first last c = true ↔
    first ≤ last ∧ first ≤ c ∧ c ≤ last ∨ last < first ∧ (first ≤ c ∨ c ≤ last) := by
  unfold inRange
  by_cases order : first ≤ last
  · simp [order, not_lt.mpr order]
  · simp [order, not_le.mp order]

/-- R148: the review of a range changes the route table and the sweep alone. -/
theorem reviewRange_eq (laws : SweepLaws s) (tier : Tier) (first last : Circuit) :
    ∃ r w, s.reviewRange tier first last = { s with routes := r, sweep := w } := by
  obtain ⟨r, q, x, review⟩ : ∃ r q x, s.reviewRange tier first last = settleSweep
      { s with routes := r, sweep := { s.sweep with queued := q, stranded := x } } := ⟨_, _, _, rfl⟩
  obtain ⟨w, settled⟩ := settleSweep_of_kept
    (s := { s with routes := r, sweep := { s.sweep with queued := q, stranded := x } }) fun running => by
      obtain ⟨c, queued⟩ := laws.2.mp running
      refine ⟨c, ?_⟩
      rw [← queued_settleSweep, ← review, queued_reviewRange, queued, Bool.true_or]
  exact ⟨r, w, by rw [review, settled]⟩

theorem reviews_iff (s : State) (tier : Tier) (first last c : Circuit) :
    s.reviews tier first last c = true ↔
      (first ≤ last ∧ first ≤ c ∧ c ≤ last ∨ last < first ∧ (first ≤ c ∨ c ≤ last)) ∧
      tier ≤ (s.route c).fields.tier ∧
      ((s.route c).standing = .stranded ∨ ∃ cur, (s.route c).standing = .routed cur) := by
  simp only [reviews, Bool.and_eq_true, inRange_iff, reviewable_iff, decide_eq_true_iff, and_assoc]

end State

theorem extentSize_128 (first last : Circuit) : extentSize 128 first.val last.val =
    if first ≤ last then last.val + 1 - first.val else last.val + 129 - first.val := by
  simp only [extentSize, Fin.le_def]
  split_ifs <;> omega

end Sys2Proof.Machine

section

open Sys2Proof Sys2Proof.Machine

/-- Settles O32: the body, the state of the walker and the tier of the originator decide. -/
theorem bulkWalkStartsAndAborts : Obligations.BulkWalkStartsAndAborts := by
  refine ⟨fun s p lost args hh unread => ?range, fun s p lost b hh allowed fits => ⟨fun walking => ?busy,
    fun idle => ⟨_, rfl, ?starts⟩⟩, fun s p lost hh => ⟨fun idle => ?state, fun o walking order =>
    ⟨fun above => ?denied, fun trusted => ?aborts⟩⟩⟩
  case range =>
    have none : bulkOrderOf (0x30 :: args) = none :=
      Option.eq_none_iff_forall_ne_some.mpr fun b read => by
        obtain ⟨octets, allowed, fits⟩ := octets_of_bulkOrderOf read
        rcases unread b octets with headless | unfit
        · rw [headless] at allowed
          cases allowed
        · exact unfit fits
    exact exec_refused hh (exec_bulkRoute .run s) (kindIs_cons _ _) (by simp only [answerBulkRoute, none])
  case busy =>
    refine exec_refused hh (exec_bulkRoute .run s) (kindIs_cons _ _) ?_
    simp only [answerBulkRoute, bulkOrderOf_octets _ allowed fits, walking, if_true]
  case starts =>
    refine exec_done hh (exec_bulkRoute .run s) (kindIs_cons _ _) rfl ?_
    simp only [answerBulkRoute, bulkOrderOf_octets _ allowed fits, idle, reduceCtorEq, if_false]
    rfl
  case state =>
    refine exec_refused hh (exec_bulkAbort .run s) (kindIs_cons _ _) ?_
    simp only [answerBulkAbort, bareBody_kind, idle]
  case denied =>
    have untrusted : ¬ s.trusted p o.originatorTier = true := by
      rw [State.trusted_iff]
      exact not_le.mpr above
    refine exec_refused hh (exec_bulkAbort .run s) (kindIs_cons _ _) ?_
    simp only [answerBulkAbort, bareBody_kind, walking, order, if_neg untrusted]
  case aborts =>
    refine exec_done (u := s.endWalk false) hh (exec_bulkAbort .run s) (kindIs_cons _ _) rfl ?_
    simp only [answerBulkAbort, bareBody_kind, walking, order, (State.trusted_iff _).mpr trusted, if_true]
    rfl

/-- Settles O33: the circuits picked are those that the review of the range takes. -/
theorem reviewRangeQueues : Obligations.ReviewRangeQueues := by
  refine ⟨fun s p lost args hh unread => ?range, ?_⟩
  case range =>
    have none : rangeOf (0x32 :: args) = none :=
      Option.eq_none_iff_forall_ne_some.mpr fun ⟨first, last⟩ read =>
        unread first last (rangeOf_eq_some_iff.mp read)
    exact exec_refused hh (exec_reviewRange .run s) (kindIs_cons _ _) (by simp only [answerReviewRange, none])
  rintro s p lost first last tier picked sweep hh rfl picks
  obtain rfl : picked = s.reviews (s.tierOf (s.hostOf p)) first last :=
    funext fun c => Bool.eq_iff_iff.mpr ((picks c).trans (s.reviews_iff _ first last c).symm)
  have read : rangeOf (0x32 :: (one first.val ++ one last.val)) = some (first, last) :=
    rangeOf_eq_some_iff.mpr rfl
  refine ⟨s.reviewRange (s.tierOf (s.hostOf p)) first last, _, ?run, rfl, ?frame, fun c => ?entry⟩
  case run =>
    refine exec_done (args := one first.val ++ one last.val) hh (exec_reviewRange .run s) (kindIs_cons _ _)
      (by simp) ?_
    simp only [answerReviewRange, read, extentSize_128, State.reviewCount]
  case frame =>
    obtain ⟨r, w, settled⟩ := State.reviewRange_eq sweep (s.tierOf (s.hostOf p)) first last
    rw [settled]
  rw [State.route_reviewRange, State.queued_reviewRange, State.strandedHas_reviewRange]
  refine ⟨fun reviews => ?_, fun reviews => by simp [reviews]⟩
  have reviewable := (State.reviewable_iff _).mp (State.reviewable_of_reviews reviews)
  simp only [reviews, Bool.or_true, Bool.not_true, Bool.and_false, if_true, true_and]
  refine ⟨fun stranded => by rw [stranded]; rfl, fun unstranded => ?_⟩
  obtain ⟨cur, routed⟩ := reviewable.resolve_left unstranded
  have same : (s.route c).standing.underReview = (s.route c).standing := by rw [routed]; rfl
  rw [same]

end
end

section
/-! The group monitor (R97 to R100), the reviews (R102, R103, R106, R113) and a step of a bulk walk (R143, R144). -/

namespace Sys2Proof.Machine

namespace State

variable {s : State}

/-! ## A DOWN entry (R97, R98) -/

theorem entryQualifies_iff (s : State) (p : Port) : s.entryQualifies p = true ↔
    0 < s.param .groupWindow ∧
      ∃ q m, (s.group (s.groupOf p)).lastDown = some (q, m) ∧ q ≠ p ∧ s.now - m ≤ s.param .groupWindow := by
  unfold entryQualifies
  cases last : (s.group (s.groupOf p)).lastDown with
  | none => simp
  | some x =>
    obtain ⟨q, m⟩ := x
    simp only [Bool.and_eq_true, decide_eq_true_iff, Option.some.injEq, Prod.mk.injEq]
    constructor
    · rintro ⟨⟨window, other⟩, recent⟩
      exact ⟨window, q, m, ⟨rfl, rfl⟩, other, recent⟩
    · rintro ⟨window, _, _, ⟨rfl, rfl⟩, other, recent⟩
      exact ⟨⟨window, other⟩, recent⟩

theorem setGroup_self (s : State) (g : Group) : s.setGroup g (s.group g) = s := by
  simp [setGroup, group]

theorem setGroup_setGroup (s : State) (g : Group) (r x : GroupRecord) :
    (s.setGroup g r).setGroup g x = s.setGroup g x := by
  simp [setGroup]

theorem takeDownEntry_of_unqualified {p : Port} (unqualified : ¬ s.entryQualifies p = true) :
    s.takeDownEntry p =
      s.setGroup (s.groupOf p) { s.group (s.groupOf p) with lastDown := some (p, s.now) } := by
  unfold takeDownEntry
  dsimp only
  rw [if_neg unqualified]

theorem suspectGroup_eq (s : State) (g : Group) :
    s.suspectGroup g =
      { s with
        groups := s.groups.set g
          { s.group g with state := .suspect, hold := some (s.param .groupHold) }
        handed :=
          { s.handed with
            occurrences := s.handed.occurrences ++ [.groupSuspect g]
            groupDrains :=
              if s.param .drain ≠ 0 then s.handed.groupDrains ++ [g] else s.handed.groupDrains } } := by
  unfold suspectGroup
  dsimp only
  by_cases drain : s.param .drain = 0
  · rw [if_neg (by simp [isOn, drain]), if_neg (not_not.mpr drain)]
    rfl
  · rw [if_pos (by simpa [isOn] using drain), if_pos drain]
    rfl

/-- R97: a DOWN entry that qualifies makes a CLEAR group SUSPECT. -/
theorem takeDownEntry_of_clear {p : Port} (qualified : s.entryQualifies p = true)
    (clear : (s.group (s.groupOf p)).state = .clear) :
    s.takeDownEntry p =
      { s with
        groups := s.groups.set (s.groupOf p)
          { state := .suspect, lastDown := some (p, s.now), hold := some (s.param .groupHold) }
        handed :=
          { s.handed with
            occurrences := s.handed.occurrences ++ [.groupSuspect (s.groupOf p)]
            groupDrains :=
              if s.param .drain ≠ 0 then s.handed.groupDrains ++ [s.groupOf p]
              else s.handed.groupDrains } } := by
  unfold takeDownEntry
  dsimp only
  rw [if_pos qualified, clear]
  dsimp only
  rw [suspectGroup_eq, group_setGroup_self]
  simp only [setGroup, Vector.set_set]
  rfl

/-- R98: a DOWN entry that qualifies starts the hold of a SUSPECT group afresh. -/
theorem takeDownEntry_of_suspect {p : Port} (qualified : s.entryQualifies p = true)
    (suspect : (s.group (s.groupOf p)).state = .suspect) :
    s.takeDownEntry p =
      s.setGroup (s.groupOf p)
        { state := .suspect, lastDown := some (p, s.now), hold := some (s.param .groupHold) } := by
  unfold takeDownEntry
  dsimp only
  rw [if_pos qualified, suspect]
  dsimp only
  rw [setGroup_setGroup, group_setGroup_self]

/-! ## The clearing of a group (R99, R100) -/

theorem recovering_iff (x : PortState) :
    x.recovering = true ↔ x = .down ∨ x = .awaitProbe ∨ x = .probing := by
  cases x <;> simp [PortState.recovering]

theorem memberOut_iff (s : State) (g : Group) :
    s.memberOut g = true ↔ ∃ p : Port, s.groupOf p = g ∧ (s.port p).state.recovering = true := by
  simp [memberOut, members]

/-- R100: what becomes of a SUSPECT group whose hold has stopped. -/
theorem examineGroup_of_stopped {g : Group} (suspect : (s.group g).state = .suspect)
    (stopped : (s.group g).hold = none) :
    s.examineGroup g =
      s.setGroup g
        { s.group g with
          state := if ∃ p : Port, s.groupOf p = g ∧ ((s.port p).state = .down ∨
              (s.port p).state = .awaitProbe ∨ (s.port p).state = .probing)
            then .suspect else .clear } := by
  have out := s.memberOut_iff g
  simp only [recovering_iff] at out
  unfold examineGroup
  dsimp only
  by_cases h : s.memberOut g = true
  · rw [if_neg (by simp [h]), if_pos (out.mp h), ← suspect]
    exact (s.setGroup_self g).symm
  · rw [if_pos ⟨suspect, stopped, by simpa using h⟩, if_neg (fun members => h (out.mpr members))]

theorem examineGroup_of_kept {g : Group} (kept : (s.group g).state = .clear ∨ (s.group g).hold ≠ none) :
    s.examineGroup g = s := by
  unfold examineGroup
  dsimp only
  rw [if_neg]
  rintro ⟨suspect, stopped, -⟩
  rcases kept with clear | running
  · rw [clear] at suspect
    cases suspect
  · exact running stopped

/-! ## Reviews (R113) -/

/-- R126: a review takes no circuit out of the queue, so it raises no SWEEP IDLE. -/
theorem reviewWhere_eq (laws : SweepLaws s) (picks : CurrentSet → Bool) :
    ∃ w, s.reviewWhere picks = { s with sweep := w } := by
  obtain ⟨q, review⟩ : ∃ q, s.reviewWhere picks =
      settleSweep { s with sweep := { s.sweep with queued := q } } := ⟨_, rfl⟩
  obtain ⟨w, settled⟩ := settleSweep_of_kept (s := { s with sweep := { s.sweep with queued := q } })
    fun running => by
      obtain ⟨c, queued⟩ := laws.2.mp running
      refine ⟨c, ?_⟩
      rw [← queued_settleSweep, ← review]
      exact (s.queued_reviewWhere picks c).mpr (.inl queued)
  exact ⟨w, by rw [review, settled]⟩

/-! ## A step of a walk (R143, R144) -/

/-- R144: the step that brings the counts to the total ends the walk, with the counts that it leaves. -/
theorem walkStep_eq (s : State) (o : WalkOrder) {t : Trunk} {slot : StationSlot}
    (trunk : t = o.trunkOfStep (s.walker.written + s.walker.skipped))
    (station : slot = o.slotOfStep (s.walker.written + s.walker.skipped)) :
    s.walkStep o =
      if (s.stepRecord o t slot).written + (s.stepRecord o t slot).skipped = s.walker.total then
        ((s.applyStep o (circuitAt t slot) slot).setWalker (s.stepRecord o t slot)).endWalk true
      else (s.applyStep o (circuitAt t slot) slot).setWalker (s.stepRecord o t slot) := by
  subst trunk station
  rfl

end State

end Sys2Proof.Machine

section

open Sys2Proof Sys2Proof.Machine

/-- Settles O27: whether the entry qualifies, then the state of its group. -/
theorem downEntryTaken : Obligations.DownEntryTaken := by
  rintro s p _ rfl handed
  have row : exec (.downEntry p) s = .next
      ((s.setHanded { s.handed with downEntries := s.handed.downEntries.erase p }).takeDownEntry p) :=
    congrArg Host.Outcome.next (if_pos handed)
  have qualifies := (s.setHanded { s.handed with
    downEntries := s.handed.downEntries.erase p }).entryQualifies_iff p
  rw [row]
  refine ⟨fun qualified => ⟨fun clear => ?_, fun suspect => ?_⟩, fun unqualified => ?_⟩
  · rw [State.takeDownEntry_of_clear (qualifies.mpr qualified) clear]
    rfl
  · rw [State.takeDownEntry_of_suspect (qualifies.mpr qualified) suspect]
    rfl
  · rw [State.takeDownEntry_of_unqualified (mt qualifies.mp unqualified)]
    rfl

/-- Settles O29: each of the three is one review, after the entry or the timer is taken. -/
theorem reviewsJoinQueue : Obligations.ReviewsJoinQueue := by
  intro s i picks u sweep cause
  have review (u : State) (same : u.routes = s.routes ∧ u.sweep = s.sweep) {i : Instr}
      (row : exec i s = .next (u.reviewWhere picks)) :
      ∃ t, exec i s = .next t ∧ t = { u with sweep := t.sweep } ∧
        ∀ c : Circuit, t.strandedHas c = s.strandedHas c ∧
          (t.queued c = true ↔
            s.queued c = true ∨ ∃ cur, (s.route c).standing = .routed cur ∧ picks cur = true) := by
    obtain ⟨w, settled⟩ := State.reviewWhere_eq (sweep.of_same same.1 same.2) picks
    refine ⟨_, row, by rw [settled], fun c => ⟨?_, ?_⟩⟩
    · rw [State.strandedHas_reviewWhere, State.strandedHas_congr (t := s) (by rw [same.2])]
    · rw [State.queued_reviewWhere, State.queued_congr (t := s) (by rw [same.2]), State.route_congr same.1]
  rcases cause with ⟨p, rfl, handed, is, rfl⟩ | ⟨g, rfl, handed, is, rfl⟩ | ⟨p, rfl, expired, is, rfl⟩
  · obtain rfl := funext is
    exact review (s.setHanded { s.handed with portDrains := s.handed.portDrains.erase p }) ⟨rfl, rfl⟩
      (congrArg Host.Outcome.next (if_pos handed))
  · obtain rfl := funext is
    exact review (s.setHanded { s.handed with groupDrains := s.handed.groupDrains.erase g }) ⟨rfl, rfl⟩
      (congrArg Host.Outcome.next (if_pos handed))
  · have row : exec (.failBackExpiry p) s = .next
        (if s.isOn .failBackEnable then
          (s.setPort p { s.port p with failBack := none }).reviewWhere fun cur => !cur.preferred
        else s.setPort p { s.port p with failBack := none }) :=
      congrArg Host.Outcome.next (if_pos expired)
    by_cases enabled : s.param .failBackEnable = 0
    · rw [if_neg (by simp [State.isOn, enabled])] at row
      refine ⟨_, row, rfl, fun c => ⟨rfl, ?_⟩⟩
      simp only [is, enabled]
      simp [State.queued]
    · rw [if_pos (by simpa [State.isOn] using enabled)] at row
      obtain rfl : picks = fun cur => !cur.preferred := funext fun cur => by simp [is, enabled]
      exact review (s.setPort p { s.port p with failBack := none }) ⟨rfl, rfl⟩ row

/-- Settles O31: the write or the skip, the record of the walk after it, and the end of the walk. -/
theorem bulkStepTreatsEntry : Obligations.BulkStepTreatsEntry := by
  intro s o tr sl c passed w k u walking order due trunk station circuit isPassed written skipped written'
  subst circuit
  have applied : u = s.applyStep o (circuitAt tr sl) sl := by
    rw [written', isPassed]
    rfl
  have record : s.stepRecord o tr sl =
      { s.walker with
        cursor := some (tr, sl), written := w, skipped := k, stepsDue := s.walker.stepsDue - 1 } := by
    rw [written, skipped, isPassed]
    rfl
  have frame : u.ports = s.ports ∧ u.descs = s.descs ∧ u.ctl = s.ctl ∧ u.hosts = s.hosts := by
    rw [applied]
    simp
  have fields : passed = true → (u.route (circuitAt tr sl)).fields =
      o.template.fields (s.route (circuitAt tr sl)).fields.offset sl := fun h => by
    rw [written', if_pos h, State.writeEntry_route_fields]
  have skips : passed = false → u = s := fun h => by rw [written', h, if_neg Bool.false_ne_true]
  refine ⟨_, State.exec_bulkStep_of_due walking order due, ?_⟩
  rw [State.walkStep_eq s o trunk station, record, ← applied]
  by_cases ended : w + k = s.walker.total
  · simp only [if_pos ended]
    refine ⟨rfl, rfl, frame.1, frame.2.1, frame.2.2.1, frame.2.2.2, fields, fun h => ?_⟩
    rw [skips h]
    exact ⟨rfl, rfl, rfl, rfl⟩
  · simp only [if_neg ended, List.append_nil]
    refine ⟨rfl, ?_, frame.1, frame.2.1, frame.2.2.1, frame.2.2.2, fields, fun h => ?_⟩
    · rw [← walking]
      rfl
    · rw [skips h]
      exact ⟨rfl, rfl, rfl, rfl⟩

end
end

section
/-! Cutover (chapter 8), the order of the sweep queue (R110), and the resolution at its front (chapter 7). -/

namespace Sys2Proof.Machine

theorem bump8_eq (n : Nat) : bump8 n = min 255 (n + 1) := rfl

namespace State

variable {s : State}

/-! ## Cutover (R132) -/

theorem capacityIf_eq (s : State) (b : Bool) :
    ∃ r w, s.capacityIf b = { s with routes := r, sweep := w } := by
  cases b with
  | false => exact ⟨s.routes, s.sweep, by simp only [capacityIf, Bool.false_eq_true, if_false]⟩
  | true => exact capacityEvent_eq s

theorem capacityIf_sweep_state (s : State) (b : Bool) : (s.capacityIf b).sweep.state = s.sweep.state := by
  cases b with
  | false => simp only [capacityIf, Bool.false_eq_true, if_false]
  | true => exact capacityEvent_sweep_state s

/-- R126: the sweep that settles after a slot may have come free raises no SWEEP IDLE, no circuit having left the
queue. -/
theorem settleSweep_capacityIf_eq {t : State} (laws : SweepLaws s) (b : Bool)
    (sweep : t.sweep = s.sweep) :
    ∃ r w, (t.capacityIf b).settleSweep = { t with routes := r, sweep := w } := by
  obtain ⟨w, settled⟩ := settleSweep_of_kept (s := t.capacityIf b) fun running => by
    rw [capacityIf_sweep_state, sweep] at running
    obtain ⟨c, queued⟩ := laws.2.mp running
    refine ⟨c, ?_⟩
    rw [queued_capacityIf, queued_congr (t := s) (by rw [sweep]), queued, Bool.true_or]
  obtain ⟨r, w', capacity⟩ := capacityIf_eq t b
  exact ⟨r, w, by rw [settled, capacity]⟩

theorem cutover_eq (laws : SweepLaws s) (c : Circuit) (cur : CurrentSet) (m : StagedSet) :
    ∃ r o u w, s.cutover c cur m = { s with routes := r, occ := o, used := u, sweep := w } := by
  obtain ⟨r, w, settled⟩ := settleSweep_capacityIf_eq (t := ((s.makeCurrent m.path c).releaseSlot
    cur.path).setRoute c { s.route c with
      standing := .routed m.asCurrent, moves := bump8 (s.route c).moves }) laws
    (s.inService cur.path.port) rfl
  exact ⟨r, _, _, w, settled⟩

/-- The state in which a CUTOVER's release is a capacity event. -/
theorem queued_cutover (c : Circuit) (cur : CurrentSet) (m : StagedSet) (d : Circuit) :
    (s.cutover c cur m).queued d =
      (s.queued d || (s.inService cur.path.port && s.strandedHas d)) := by
  unfold cutover
  rw [queued_settleSweep, queued_capacityIf]
  rfl

theorem strandedHas_cutover (c : Circuit) (cur : CurrentSet) (m : StagedSet) (d : Circuit) :
    (s.cutover c cur m).strandedHas d = (!s.inService cur.path.port && s.strandedHas d) := by
  unfold cutover
  rw [strandedHas_settleSweep, strandedHas_capacityIf]
  rfl

theorem CapacityEvent.of_reads {t : State}
    (route : ∀ c, s.strandedHas c = true → t.route c = { s.route c with standing := .displaced })
    (queued : ∀ c, s.strandedHas c = true → t.queued c = true)
    (stranded : ∀ c, s.strandedHas c = true → t.strandedHas c = false) : CapacityEvent s t :=
  fun c h => ⟨route c h, queued c h, stranded c h⟩

/-- R12: the release of a slot on a port in service returns every stranded circuit to the queue. -/
theorem cutover_capacityEvent {c : Circuit} (unstranded : s.strandedHas c = false) (cur : CurrentSet)
    (m : StagedSet) (service : s.inService cur.path.port = true) :
    CapacityEvent s (s.cutover c cur m) := fun d stranded => by
  have ne : d ≠ c := fun h => by rw [h, unstranded] at stranded; cases stranded
  rw [route_cutover s unstranded, queued_cutover, strandedHas_cutover, service, stranded]
  simp [ne]

theorem cutover_strandedStay {c : Circuit} {cur : CurrentSet} {m : StagedSet}
    (staged : (s.route c).standing = .staged cur m) (unstranded : s.strandedHas c = false)
    (service : s.inService cur.path.port = false) : StrandedStay s (s.cutover c cur m) :=
  fun d stranded => by
    have ne : d ≠ c := fun h => by rw [h, staged] at stranded; cases stranded
    rw [route_cutover s unstranded, strandedHas_cutover, service]
    simp [ne]

end State

end Sys2Proof.Machine

section

open Sys2Proof Sys2Proof.Machine Sys2Proof.Machine.State

/-- Settles O22: either event is the cutover of the circuit, and the expiry raises FORCED CUTOVER after it. -/
theorem stagedCircuitCutOver : Obligations.StagedCircuitCutOver := by
  intro s c cur m i laws staged differ event
  have unstranded : s.strandedHas c = false :=
    State.not_stranded_of_code laws.1 (by simp [staged, Standing.code])
  obtain ⟨t, handed, run, shape⟩ : ∃ (t : State) (handed : Handed), exec i s = .next t ∧
      t = { s.cutover c cur m with handed := handed } ∧
      (i = .blockEndPassage c → handed = s.handed) ∧
      (i = .stagedTimerExpiry c → handed =
        { s.handed with occurrences := s.handed.occurrences ++ [.forcedCutover c] }) := by
    obtain ⟨r, o, u, w, cut⟩ := cutover_eq laws c cur m
    obtain ⟨rfl, passed⟩ | ⟨rfl, expired⟩ := event
    · refine ⟨s.cutover c cur m, s.handed, ?_, by rw [cut], fun _ => rfl, (by simp)⟩
      simp only [exec, execBlockEndPassage, staged, passed, if_true]
    · refine ⟨(s.cutover c cur m).raise (.forcedCutover c),
        { s.handed with occurrences := s.handed.occurrences ++ [.forcedCutover c] }, ?_,
        by rw [cut]; rfl, (by simp), fun _ => rfl⟩
      simp only [exec, execStagedTimerExpiry, staged, expired, if_true]
  obtain ⟨rfl, passage, expiry⟩ := shape
  refine ⟨_, run, ?frame, ?route, ?new, ?old, ?others, ?used, ?capacity, ?stay, passage, expiry⟩
  case frame =>
    obtain ⟨r, o, u, w, cut⟩ := cutover_eq laws c cur m
    rw [cut]
  case route => exact (route_cutover s unstranded cur m c).trans (if_pos rfl)
  case new => exact (holder_cutover s c m.path).trans (by simp [differ.symm])
  case old => exact (holder_cutover s c cur.path).trans (if_pos rfl)
  case others =>
    exact fun q new old => (holder_cutover s c q).trans ((if_neg old).trans (if_neg new))
  case used => exact usedCount_cutover s c cur m
  case capacity => exact cutover_capacityEvent unstranded cur m
  case stay => exact cutover_strandedStay staged unstranded

end

end

section
/-! The order of the sweep queue (R110), and the resolution at its front (R115 to R121). -/

namespace Sys2Proof.Machine

theorem queueRank_lt_eight (r : Route) : queueRank r < 8 := by
  unfold queueRank
  split_ifs <;> omega

/-- R110: the rank orders two circuits by DISPLACED first, then by class. -/
theorem queueRank_lt_iff (a b : Route) : queueRank a < queueRank b ↔
    (if a.standing = .displaced then 0 else 1) < (if b.standing = .displaced then 0 else 1) ∨
    (if a.standing = .displaced then 0 else 1) = (if b.standing = .displaced then 0 else 1) ∧
      a.fields.cls < b.fields.cls := by
  unfold queueRank
  split_ifs <;> simp [Fin.lt_def, -Fin.val_fin_lt] <;> omega

theorem queueRank_eq_iff (a b : Route) : queueRank a = queueRank b ↔
    (if a.standing = .displaced then 0 else 1) = (if b.standing = .displaced then 0 else 1) ∧
      a.fields.cls = b.fields.cls := by
  unfold queueRank
  split_ifs <;> simp [Fin.ext_iff] <;> omega

/-- A state that differs from another in the route table, the slot map, the sweep and what it hands on alone. -/
theorem eq_of_frame {s t : State}
    (frame : t.descs = s.descs ∧ t.trunks = s.trunks ∧ t.rx = s.rx ∧ t.ctl = s.ctl ∧ t.ports = s.ports ∧
      t.checker = s.checker ∧ t.groups = s.groups ∧ t.walker = s.walker ∧ t.hosts = s.hosts ∧
      t.engine = s.engine ∧ t.params = s.params ∧ t.straps = s.straps ∧ t.time = s.time ∧
      t.exch = s.exch ∧ t.pending = s.pending) :
    t = { s with
      routes := t.routes, occ := t.occ, used := t.used, sweep := t.sweep, handed := t.handed } := by
  obtain ⟨descs, trunks, rx, ctl, ports, checker, groups, walker, hosts, engine, params, straps, time,
    exch, pending⟩ := frame
  rw [← descs, ← trunks, ← rx, ← ctl, ← ports, ← checker, ← groups, ← walker, ← hosts, ← engine, ← params,
    ← straps, ← time, ← exch, ← pending]

namespace State

variable {s : State}

theorem mem_sweepQueue (s : State) (c : Circuit) : c ∈ s.sweepQueue ↔ s.queued c = true := by
  simp only [sweepQueue, List.mem_flatMap, List.mem_filter, mem_allCircuits, List.mem_range,
    Bool.and_eq_true, beq_iff_eq, true_and]
  exact ⟨fun ⟨_, _, queued, _⟩ => queued, fun queued => ⟨_, queueRank_lt_eight _, queued, rfl⟩⟩

/-- R110: the queue is ordered by rank, and within one rank by circuit number. -/
theorem sweepQueue_pairwise (s : State) : s.sweepQueue.Pairwise fun c d =>
    queueRank (s.route c) < queueRank (s.route d) ∨
    queueRank (s.route c) = queueRank (s.route d) ∧ c < d := by
  unfold sweepQueue
  rw [List.pairwise_flatMap]
  refine ⟨fun k _ => ?_, List.pairwise_lt_range.imp fun {j k} below c hc d hd => .inl ?_⟩
  · rw [List.pairwise_filter]
    refine (List.pairwise_lt_finRange 128).imp fun {c d} below hc hd => .inr ⟨?_, below⟩
    simp only [Bool.and_eq_true, beq_iff_eq] at hc hd
    rw [hc.2, hd.2]
  · simp only [List.mem_filter, Bool.and_eq_true, beq_iff_eq] at hc hd
    rwa [hc.2.2, hd.2.2]

/-! ## The resolution at the front of the queue -/

theorem exec_resolution_of_front {c : Circuit} {rest : List Circuit} (front : s.sweepQueue = c :: rest) :
    exec .resolution s = .next ((s.leaveQueue c).applyOutcome c (s.resolve c)).settleSweep := by
  simp only [exec, execResolution, front]

theorem resolution_eq (s : State) (c : Circuit) (x : Resolved) :
    ((s.leaveQueue c).applyOutcome c x).settleSweep =
      { s with
        routes := ((s.leaveQueue c).applyOutcome c x).settleSweep.routes
        occ := ((s.leaveQueue c).applyOutcome c x).settleSweep.occ
        used := ((s.leaveQueue c).applyOutcome c x).settleSweep.used
        sweep := ((s.leaveQueue c).applyOutcome c x).settleSweep.sweep
        handed := ((s.leaveQueue c).applyOutcome c x).settleSweep.handed } :=
  eq_of_frame (by simp)

/-- R111, R126: what the settling of the sweep raises. -/
theorem settleSweep_sweepSettled {t : State} {raised : List Occurrence}
    (state : t.sweep.state = s.sweep.state)
    (handed : t.handed = { s.handed with occurrences := s.handed.occurrences ++ raised }) :
    SweepSettled s t.settleSweep raised := by
  refine ⟨settleSweep_runningLaw t, fun ⟨running, empty⟩ => ?_, fun kept => ?_⟩
  · simp only [queued_settleSweep] at empty
    have unqueued : ¬ allCircuits.any t.queued = true := fun h => by
      obtain ⟨c, queued⟩ := (any_queued_iff t).mp h
      rw [empty c] at queued
      cases queued
    unfold settleSweep
    rw [if_neg unqueued, if_pos (state.trans running), raise_handed, setSweep_handed, handed]
  · obtain ⟨w, settled⟩ := settleSweep_of_kept (s := t) fun running => by
      by_contra none
      refine kept ⟨state.symm.trans running, fun c => ?_⟩
      rw [queued_settleSweep, Bool.eq_false_iff]
      exact fun queued => none ⟨c, queued⟩
    rw [settled]
    exact handed

@[simp] theorem leaveQueue_holder (c : Circuit) (q : PathSlot) : (s.leaveQueue c).holder q = s.holder q :=
  rfl

@[simp] theorem leaveQueue_usedCount (c : Circuit) (p : Port) :
    (s.leaveQueue c).usedCount p = s.usedCount p := rfl

/-- R40: what a failure raises for its circuit. -/
def faultRaised (c : Circuit) : Option (FaultKind × Desc) → List Occurrence
  | some (k, d) => [.chainFault c d k]
  | none => []

theorem raiseChainFault_handed (s : State) (c : Circuit) (fault : Option (FaultKind × Desc)) :
    (s.raiseChainFault c fault).handed =
      { s.handed with occurrences := s.handed.occurrences ++ faultRaised c fault } := by
  cases fault with
  | none => simp only [raiseChainFault, faultRaised, List.append_nil]
  | some kd => rfl

/-! ### What an outcome is for a circuit that stands DISPLACED or ROUTED -/

theorem applyOutcome_of_placed {c : Circuit} (standing : (s.route c).standing = .displaced)
    (found : CurrentSet) : s.applyOutcome c (.result found) = s.place c found := by
  simp only [applyOutcome, standing]

theorem applyOutcome_of_stranded {c : Circuit} (standing : (s.route c).standing = .displaced)
    (fault : Option (FaultKind × Desc)) : s.applyOutcome c (.failure fault) = s.strand c fault := by
  simp only [applyOutcome, standing]

theorem applyOutcome_of_same {c : Circuit} {cur found : CurrentSet}
    (standing : (s.route c).standing = .routed cur) (same : found.path = cur.path) :
    s.applyOutcome c (.result found) = s.stay c cur found.preferred := by
  simp only [applyOutcome, standing, same, if_true]

theorem applyOutcome_of_prompt {c : Circuit} {cur found : CurrentSet}
    (standing : (s.route c).standing = .routed cur) (differ : found.path ≠ cur.path)
    (prompt : (s.route c).fields.discipline = .prompt) :
    s.applyOutcome c (.result found) = s.movePrompt c cur found := by
  simp only [applyOutcome, standing, differ, if_false, prompt]

theorem applyOutcome_of_clean {c : Circuit} {cur found : CurrentSet}
    (standing : (s.route c).standing = .routed cur) (differ : found.path ≠ cur.path)
    (clean : (s.route c).fields.discipline = .clean) :
    s.applyOutcome c (.result found) = s.stage c cur found := by
  simp only [applyOutcome, standing, differ, if_false, clean]

theorem applyOutcome_of_failed {c : Circuit} {cur : CurrentSet}
    (standing : (s.route c).standing = .routed cur) (fault : Option (FaultKind × Desc)) :
    s.applyOutcome c (.failure fault) = (s.stay c cur false).raiseChainFault c fault := by
  simp only [applyOutcome, standing]

/-! ### The slot map after a placement, a staging or a move -/

theorem holder_place (c : Circuit) (found : CurrentSet) (q : PathSlot) :
    (s.place c found).holder q = if q = found.path then some ⟨c, .current⟩ else s.holder q :=
  s.holder_holdSlot found.path q ⟨c, .current⟩

theorem usedCount_place (c : Circuit) (found : CurrentSet) (p : Port) :
    (s.place c found).usedCount p = s.usedCount p + if p = found.path.port then 1 else 0 :=
  s.usedCount_holdSlot found.path ⟨c, .current⟩ p

theorem holder_stage (c : Circuit) (cur found : CurrentSet) (q : PathSlot) :
    (s.stage c cur found).holder q = if q = found.path then some ⟨c, .staged⟩ else s.holder q :=
  s.holder_holdSlot found.path q ⟨c, .staged⟩

theorem usedCount_stage (c : Circuit) (cur found : CurrentSet) (p : Port) :
    (s.stage c cur found).usedCount p = s.usedCount p + if p = found.path.port then 1 else 0 :=
  s.usedCount_holdSlot found.path ⟨c, .staged⟩ p

theorem holder_movePrompt (c : Circuit) (old found : CurrentSet) (q : PathSlot) :
    (s.movePrompt c old found).holder q = if q = old.path then none
      else if q = found.path then some ⟨c, .current⟩ else s.holder q := by
  rw [movePrompt, capacityIf_holder, setRoute_holder, holder_releaseSlot, holder_holdSlot]

theorem usedCount_movePrompt (c : Circuit) (old found : CurrentSet) (p : Port) :
    (s.movePrompt c old found).usedCount p =
      s.usedCount p + (if p = found.path.port then 1 else 0) - if p = old.path.port then 1 else 0 := by
  rw [movePrompt, capacityIf_usedCount, setRoute_usedCount, usedCount_releaseSlot, usedCount_holdSlot]

theorem movePrompt_queued (c : Circuit) (old found : CurrentSet) (d : Circuit) :
    (s.movePrompt c old found).queued d =
      (s.queued d || (s.inService old.path.port && s.strandedHas d)) :=
  queued_capacityIf _ _ d

theorem movePrompt_strandedHas (c : Circuit) (old found : CurrentSet) (d : Circuit) :
    (s.movePrompt c old found).strandedHas d =
      (!s.inService old.path.port && s.strandedHas d) :=
  strandedHas_capacityIf _ _ d

theorem movePrompt_quiet (s : State) (c : Circuit) (old found : CurrentSet) :
    (s.movePrompt c old found).sweep.state = s.sweep.state ∧
    (s.movePrompt c old found).handed = s.handed :=
  ⟨capacityIf_sweep_state _ _, by simp [movePrompt]⟩

end State

end Sys2Proof.Machine

section

open Sys2Proof Sys2Proof.Machine Sys2Proof.Machine.State

/-- Settles O23: the rank of a circuit in the queue is its place in the order of DISPLACED first, then by
class. -/
theorem sweepQueueOrder : Obligations.SweepQueueOrder := by
  intro s
  refine ⟨mem_sweepQueue s, (sweepQueue_pairwise s).imp fun {c d} order => ?_⟩
  rw [queueRank_lt_iff, queueRank_eq_iff] at order
  tauto

end

end

section
/-! RESOLUTION of a DISPLACED and of a ROUTED circuit (R115 to R121). -/

namespace Sys2Proof.Machine.State

variable {s : State}

/-- R117: what a resolution without a result leaves of a DISPLACED circuit's slots. -/
theorem strand_handed (s : State) (c : Circuit) (fault : Option (FaultKind × Desc)) :
    (s.strand c fault).handed =
      { s.handed with occurrences := s.handed.occurrences ++ faultRaised c fault } := by
  unfold strand
  rw [raiseChainFault_handed]
  simp

theorem strand_sweep_state (s : State) (c : Circuit) (fault : Option (FaultKind × Desc)) :
    (s.strand c fault).sweep.state = s.sweep.state := by
  cases fault <;> rfl

theorem queued_strand (c : Circuit) (fault : Option (FaultKind × Desc)) (d : Circuit) :
    (s.strand c fault).queued d = s.queued d := by
  simp [strand]

theorem strandedHas_strand (c : Circuit) (fault : Option (FaultKind × Desc)) (d : Circuit) :
    (s.strand c fault).strandedHas d = (decide (d = c) || s.strandedHas d) := by
  simp [strand, strandedHas_joinStranded]

/-- R116, R117: the outcome for a DISPLACED circuit leaves every other circuit as it is. -/
theorem applyOutcome_displaced_others {c : Circuit} (standing : (s.route c).standing = .displaced)
    (x : Resolved) {d : Circuit} (ne : d ≠ c) :
    (s.applyOutcome c x).route d = s.route d ∧
    (s.applyOutcome c x).queued d = s.queued d ∧
    (s.applyOutcome c x).strandedHas d = s.strandedHas d := by
  cases x with
  | result found =>
    rw [applyOutcome_of_placed standing]
    exact ⟨(route_place s c d found).trans (if_neg ne), rfl, rfl⟩
  | failure fault =>
    rw [applyOutcome_of_stranded standing]
    exact ⟨(route_strand s c d fault).trans (if_neg ne), queued_strand c fault d, by
      simp [strandedHas_strand, ne]⟩

/-- R114: a circuit whose outcome is applied does not come back to the queue by it. -/
theorem applyOutcome_unqueued {c : Circuit} (unqueued : s.queued c = false)
    (unstranded : (s.route c).standing = .displaced ∨ s.strandedHas c = false) (x : Resolved) :
    (s.applyOutcome c x).queued c = false := by
  unfold applyOutcome
  split
  · exact unqueued
  · exact (queued_strand c _ c).trans unqueued
  case h_3 cur found standing =>
    rw [standing, or_iff_right (by simp)] at unstranded
    split_ifs
    · exact unqueued
    · split
      · rw [movePrompt_queued, unqueued, unstranded, Bool.and_false, Bool.or_false]
      · exact unqueued
  · exact (raiseChainFault_queued c c _).trans unqueued
  · exact unqueued

theorem leaveQueue_queued_self (s : State) (c : Circuit) : (s.leaveQueue c).queued c = false := by
  simp [queued_leaveQueue]

/-- A RESOLUTION that keeps the routed circuit's path or stages it leaves the stranded circuits. -/
theorem strandedStay_of_route {t : State} {c : Circuit} {cur : CurrentSet}
    (standing : (s.route c).standing = .routed cur)
    (route : ∀ d, d ≠ c → t.route d = s.route d)
    (stranded : ∀ d, t.strandedHas d = s.strandedHas d) : StrandedStay s t := fun d h =>
  ⟨route d fun same => (by rw [same, standing] at h; cases h), stranded d⟩

/-- R12, R119: a move off a port in service is a capacity event. -/
theorem movePrompt_capacityEvent {c : Circuit} (unstranded : s.strandedHas c = false)
    (old found : CurrentSet) (service : s.inService old.path.port = true) :
    CapacityEvent s (s.movePrompt c old found).settleSweep := fun d stranded => by
  have ne : d ≠ c := fun h => by rw [h, unstranded] at stranded; cases stranded
  rw [settleSweep_route, queued_settleSweep, strandedHas_settleSweep, route_movePrompt s unstranded,
    movePrompt_queued, movePrompt_strandedHas, service, stranded]
  simp [ne]

end Sys2Proof.Machine.State

section

open Sys2Proof Sys2Proof.Machine Sys2Proof.Machine.State

/-- Settles O24: the outcome of a DISPLACED circuit places or strands it. -/
theorem resolutionOfDisplaced : Obligations.ResolutionOfDisplaced := by
  intro s c rest front standing
  have left : ((s.leaveQueue c).route c).standing = .displaced := standing
  refine ⟨_, exec_resolution_of_front front, resolution_eq s c _, ?queue, fun d ne => ?others,
    fun found result => ?placed, fun fault failure => ?stranded⟩
  case queue =>
    rw [queued_settleSweep]
    exact applyOutcome_unqueued (leaveQueue_queued_self s c) (.inl left) _
  case others =>
    obtain ⟨route, queued, stranded⟩ := applyOutcome_displaced_others left (s.resolve c) ne
    rw [settleSweep_route, queued_settleSweep, strandedHas_settleSweep, route, queued, stranded]
    exact ⟨rfl, by simp [queued_leaveQueue, ne], rfl⟩
  case placed =>
    rw [result, applyOutcome_of_placed left]
    refine ⟨?_, ?_, fun q ne => ?_, fun p => ?_, settleSweep_sweepSettled rfl ?_⟩
    · rw [settleSweep_route]
      exact (route_place _ c c found).trans (if_pos rfl)
    · rw [settleSweep_holder]
      exact (holder_place c found _).trans (if_pos rfl)
    · rw [settleSweep_holder]
      exact (holder_place c found q).trans (if_neg ne)
    · rw [settleSweep_usedCount]
      exact usedCount_place c found p
    · simp [place]
  case stranded =>
    rw [failure, applyOutcome_of_stranded left]
    have settled : SweepSettled s ((s.leaveQueue c).strand c fault).settleSweep (faultRaised c fault) :=
      settleSweep_sweepSettled (strand_sweep_state _ c fault)
        (by simpa using strand_handed (s.leaveQueue c) c fault)
    refine ⟨?_, ?_, ?_, ?_, settled⟩
    · rw [settleSweep_route]
      exact (route_strand _ c c fault).trans (if_pos rfl)
    · rw [strandedHas_settleSweep, strandedHas_strand]
      simp
    · simp
    · simp

/-- Settles O25: the outcome of a ROUTED circuit keeps it, moves it or stages it. -/
theorem resolutionOfRouted : Obligations.ResolutionOfRouted := by
  intro s c rest cur front standing unstranded
  have left : ((s.leaveQueue c).route c).standing = .routed cur := standing
  refine ⟨_, exec_resolution_of_front front, resolution_eq s c _, ?queue, fun found result => ?settled,
    fun found result same => ?same, fun found result differ prompt => ?prompt,
    fun found result differ clean => ?clean, fun fault failure => ?failed⟩
  case queue =>
    rw [queued_settleSweep]
    exact applyOutcome_unqueued (leaveQueue_queued_self s c) (.inr unstranded) _
  case settled =>
    rw [result]
    by_cases same : found.path = cur.path
    · rw [applyOutcome_of_same left same]
      exact settleSweep_sweepSettled rfl (by simp [stay])
    · cases discipline : (s.route c).fields.discipline with
      | prompt =>
        rw [applyOutcome_of_prompt left same discipline]
        obtain ⟨state, handed⟩ := movePrompt_quiet (s.leaveQueue c) c cur found
        exact settleSweep_sweepSettled (by rw [state]; rfl) (by rw [handed]; simp)
      | clean =>
        rw [applyOutcome_of_clean left same discipline]
        exact settleSweep_sweepSettled rfl (by simp [stage])
  case same =>
    rw [result, applyOutcome_of_same left same]
    refine ⟨?_, ?_, ?_, strandedStay_of_route standing (fun d ne => ?_) fun d => ?_⟩
    · rw [settleSweep_route]
      exact (route_stay _ c c cur _).trans (if_pos rfl)
    · simp [stay]
    · simp [stay]
    · rw [settleSweep_route]
      exact (route_stay _ c d cur _).trans (if_neg ne)
    · rw [strandedHas_settleSweep]; rfl
  case prompt =>
    have unstranded' : (s.leaveQueue c).strandedHas c = false := unstranded
    rw [result, applyOutcome_of_prompt left differ prompt]
    refine ⟨?_, ?_, ?_, fun q new old => ?_, fun p => ?_, fun service =>
      movePrompt_capacityEvent unstranded' cur found service⟩
    · rw [settleSweep_route]
      exact (route_movePrompt _ unstranded' cur found c).trans (if_pos rfl)
    · rw [settleSweep_holder]
      exact (holder_movePrompt c cur found _).trans (by simp [differ])
    · rw [settleSweep_holder]
      exact (holder_movePrompt c cur found _).trans (if_pos rfl)
    · rw [settleSweep_holder]
      exact (holder_movePrompt c cur found q).trans ((if_neg old).trans (if_neg new))
    · rw [settleSweep_usedCount]
      exact usedCount_movePrompt c cur found p
  case clean =>
    rw [result, applyOutcome_of_clean left differ clean]
    refine ⟨?_, ?_, fun q ne => ?_, fun p => ?_,
      strandedStay_of_route standing (fun d ne => ?_) fun d => ?_⟩
    · rw [settleSweep_route]
      exact (route_stage _ c c cur found).trans (if_pos rfl)
    · rw [settleSweep_holder]
      exact (holder_stage c cur found _).trans (if_pos rfl)
    · rw [settleSweep_holder]
      exact (holder_stage c cur found q).trans (if_neg ne)
    · rw [settleSweep_usedCount]
      exact usedCount_stage c cur found p
    · rw [settleSweep_route]
      exact (route_stage _ c d cur found).trans (if_neg ne)
    · rw [strandedHas_settleSweep]; rfl
  case failed =>
    rw [failure, applyOutcome_of_failed left]
    have settled : SweepSettled s (((s.leaveQueue c).stay c cur false).raiseChainFault c fault).settleSweep
        (faultRaised c fault) :=
      settleSweep_sweepSettled (by cases fault <;> rfl)
        (by rw [raiseChainFault_handed]; simp [stay])
    refine ⟨?_, ?_, ?_, strandedStay_of_route standing (fun d ne => ?_) (fun d => ?_), settled⟩
    · rw [settleSweep_route, raiseChainFault_route]
      exact (route_stay _ c c cur _).trans (if_pos rfl)
    · simp [stay]
    · simp [stay]
    · rw [settleSweep_route, raiseChainFault_route]
      exact (route_stay _ c d cur _).trans (if_neg ne)
    · rw [strandedHas_settleSweep, raiseChainFault_strandedHas]; rfl

end

end

section
/-! The resolver (R27 to R40). -/

namespace Sys2Proof.Machine.State

variable {s : State}

/-! ## The offered slot (R32, R33) -/

theorem offset_val (base : Slot) (e : Offset) :
    (base + e).val + 1 = 1 + ((base.val + 1) - 1 + e.val) % 30 := by
  rw [Fin.val_add]
  omega

theorem poolSlot_eq_some {c : Circuit} {p : Port} {n : Slot} (found : s.poolSlot c p = some n) :
    s.slotFreeFor c ⟨p, n⟩ = true ∧ ∀ m : Slot, m < n → s.slotFreeFor c ⟨p, m⟩ = false := by
  unfold poolSlot at found
  obtain ⟨free, before, after, split, taken⟩ := List.find?_eq_some_iff_append.mp found
  refine ⟨free, fun m below => ?_⟩
  have order : (before ++ n :: after).Pairwise (· < ·) := split ▸ List.pairwise_lt_finRange 30
  have place : m ∈ before ++ n :: after := split ▸ List.mem_finRange m
  obtain early | late := List.mem_append.mp place
  · simpa using taken m early
  · have above := (List.pairwise_append.mp order).2.1
    obtain rfl | later := List.mem_cons.mp late
    · exact absurd below (lt_irrefl m)
    · exact absurd below (lt_asymm ((List.pairwise_cons.mp above).1 m later))

theorem poolSlot_eq_none {c : Circuit} {p : Port} (none : s.poolSlot c p = none) (m : Slot) :
    s.slotFreeFor c ⟨p, m⟩ = false := by
  unfold poolSlot at none
  simpa using List.find?_eq_none.mp none m (List.mem_finRange m)

theorem slotFreeFor_eq_false_iff (s : State) (c : Circuit) (q : PathSlot) : s.slotFreeFor c q = false ↔
    s.holder q ≠ none ∧ s.holder q ≠ some ⟨c, .current⟩ := by
  rw [← not_or, ← slotFreeFor_iff, Bool.not_eq_true]

/-! ## Usable slots (R34 to R36) -/

theorem portAccepts_iff (s : State) (pass : Pass) (p : Port) : s.portAccepts pass p = true ↔
    (match pass with
      | .first => (s.port p).state = .up ∧ (s.group (s.groupOf p)).state = .clear
      | .second => (s.port p).state = .up ∨ (s.port p).state = .suspect) := by
  cases pass with
  | first => simp [portAccepts]
  | second => cases state : (s.port p).state <;> simp [portAccepts, inService, state, PortState.inService]

theorem usable_iff (s : State) (pass : Pass) (c : Circuit) (q : PathSlot) :
    s.usable pass c q = true ↔
    s.portAccepts pass q.port = true ∧ s.slotFreeFor c q = true ∧ s.hasRoom c q.port = true := by
  simp only [usable, Bool.and_eq_true, and_assoc]

/-! ## One visit of a pass (R28 to R37) -/

theorem walk_of_withdrawn (pass : Pass) (c : Circuit) (left : Nat) {w : Walk}
    (withdrawn : (s.desc w.position).withdrawn = true) :
    s.walk pass c (left + 1) w = .fault .withdrawn w.position := by
  simp only [walk, withdrawn, if_true]

theorem walk_of_tier (pass : Pass) (c : Circuit) (left : Nat) {w : Walk}
    (live : (s.desc w.position).withdrawn = false)
    (above : (s.route c).fields.tier < raiseTier w.effectiveTier (s.desc w.position).tier) :
    s.walk pass c (left + 1) w = .fault .tier w.position := by
  simp only [walk, live, above, if_true, Bool.false_eq_true, if_false]

/-- R31: a visit to a DIVERT descriptor within the circuit's tier. -/
theorem walk_of_divert (pass : Pass) (c : Circuit) (left : Nat) {w : Walk} {target : Desc} {shift : Offset}
    (live : (s.desc w.position).withdrawn = false)
    (within : raiseTier w.effectiveTier (s.desc w.position).tier ≤ (s.route c).fields.tier)
    (divert : (s.desc w.position).kind = .divert target shift) :
    s.walk pass c (left + 1) w = s.walk pass c left
      { effectiveTier := some (raiseTier w.effectiveTier (s.desc w.position).tier)
        offset := w.offset + shift, firstPath := w.firstPath, position := target } := by
  rw [walk]
  simp only [live, not_lt.mpr within, Bool.false_eq_true, if_false, divert]
  rfl

/-- R37: a visit to a PATH descriptor whose offered slot is usable. -/
theorem walk_of_usable (pass : Pass) (c : Circuit) (left : Nat) {w : Walk} {p : Port} {rule : SlotRule}
    {alternative : Option Desc} {n : Slot}
    (live : (s.desc w.position).withdrawn = false)
    (within : raiseTier w.effectiveTier (s.desc w.position).tier ≤ (s.route c).fields.tier)
    (path : (s.desc w.position).kind = .path p rule alternative)
    (offered : s.offeredSlot c p rule w.offset = some n) (usable : s.usable pass c ⟨p, n⟩ = true) :
    s.walk pass c (left + 1) w =
      .result ⟨p, n⟩ w.position (decide (w.firstPath.getD w.position = w.position)) := by
  rw [walk]
  simp only [live, not_lt.mpr within, Bool.false_eq_true, if_false, path, offered,
    Option.filter_some, usable, if_true]

/-- R37: a visit to a PATH descriptor that offers no usable slot. -/
theorem walk_of_unusable (pass : Pass) (c : Circuit) (left : Nat) {w : Walk} {p : Port} {rule : SlotRule}
    {alternative : Option Desc}
    (live : (s.desc w.position).withdrawn = false)
    (within : raiseTier w.effectiveTier (s.desc w.position).tier ≤ (s.route c).fields.tier)
    (path : (s.desc w.position).kind = .path p rule alternative)
    (unusable : ∀ n, s.offeredSlot c p rule w.offset = some n → s.usable pass c ⟨p, n⟩ = false) :
    (alternative = none → s.walk pass c (left + 1) w = .exhausted) ∧
    (∀ a, alternative = some a → s.walk pass c (left + 1) w = s.walk pass c left
      { effectiveTier := some (raiseTier w.effectiveTier (s.desc w.position).tier)
        offset := w.offset, firstPath := some (w.firstPath.getD w.position), position := a }) := by
  have nothing : ((s.offeredSlot c p rule w.offset).filter fun n => s.usable pass c ⟨p, n⟩) = none := by
    rw [Option.filter_eq_none_iff]
    exact fun n offered => by simp [unusable n offered]
  rw [walk]
  simp only [live, not_lt.mpr within, Bool.false_eq_true, if_false, path, nothing]
  exact ⟨fun last => by subst last; rfl, fun a next => by subst next; rfl⟩

/-! ## A resolution (R38 to R40) -/

/-- R27: where a pass starts. -/
def walkStart (s : State) (c : Circuit) (d : Desc) : Walk :=
  { effectiveTier := none, offset := (s.route c).fields.offset, firstPath := none, position := d }

theorem runPass_of_head {c : Circuit} {d : Desc} (head : (s.route c).fields.head = some d) (pass : Pass) :
    s.runPass pass c = s.walk pass c 8 (s.walkStart c d) := by
  simp only [runPass, head, walkStart]

theorem resolve_of_first {c : Circuit} {q : PathSlot} {via : Desc} {first : Bool}
    (found : s.runPass .first c = .result q via first) : s.resolve c = .result ⟨q, via, first⟩ := by
  simp only [resolve, found]

/-- R38: without a result of the first pass the second decides. -/
theorem resolve_of_second {c : Circuit} (nothing : ∀ q via first, s.runPass .first c ≠ .result q via first) :
    s.resolve c = match s.runPass .second c with
      | .result path via _ => .result { path := path, via := via, preferred := false }
      | .exhausted => .failure none
      | .fault k d => .failure (some (k, d)) := by
  unfold resolve
  cases pass : s.runPass .first c with
  | result q via first => exact absurd pass (nothing q via first)
  | exhausted | fault => cases s.runPass .second c <;> rfl

end Sys2Proof.Machine.State

section

open Sys2Proof Sys2Proof.Machine Sys2Proof.Machine.State

/-- Settles O26: each clause is the lemma about the part of the resolver it speaks of. -/
theorem resolverOffersUsableSlots : Obligations.ResolverOffersUsableSlots := by
  refine ⟨fun s c p e => ⟨fun n => rfl, fun base => ?offset, fun n pool => ?pool, fun full => ?full⟩,
    fun s c found result => ?result, fun s pass c q => ?usable,
    fun s pass c left w x tier hx ht => ?visit, fun s c d start head hstart => ?resolve⟩
  case offset => exact congrArg some (offset_val base e)
  case pool =>
    obtain ⟨free, taken⟩ := poolSlot_eq_some pool
    exact ⟨(slotFreeFor_iff s c _).mp free, fun m below => (slotFreeFor_eq_false_iff s c _).mp (taken m below)⟩
  case full => exact fun m => (slotFreeFor_eq_false_iff s c _).mp (poolSlot_eq_none full m)
  case result =>
    obtain ⟨pass, usable, kind, live, tier, preferred⟩ := usable_of_resolve result
    obtain ⟨accepts, free, room⟩ := (usable_iff s pass c _).mp usable
    refine ⟨(slotFreeFor_iff s c _).mp free, (hasRoom_iff s c _).mp room, inService_of_portAccepts accepts,
      kind, live, tier, fun hp => ?_⟩
    rw [preferred hp] at accepts
    exact (portAccepts_iff s .first _).mp accepts
  case usable =>
    rw [usable_iff, portAccepts_iff, slotFreeFor_iff, hasRoom_iff] <;> cases pass <;> rfl
  case visit =>
    obtain rfl : tier = raiseTier w.effectiveTier x.tier := by
      rw [ht]; cases w.effectiveTier <;> rfl
    subst hx
    refine ⟨rfl, walk_of_withdrawn pass c left, walk_of_tier pass c left, fun live within =>
      ⟨fun target shift e divert he => ?divert,
        fun p rule alternative first path hfirst => ⟨fun n offered usable => ?offered, fun unusable => ?onward⟩⟩⟩
    case divert =>
      rw [walk_of_divert pass c left live within divert,
        show e = w.offset + shift from Fin.ext (he.trans (Fin.val_add _ _).symm)]
    case offered => rw [hfirst]; exact walk_of_usable pass c left live within path offered usable
    case onward => rw [hfirst]; exact walk_of_unusable pass c left live within path unusable
  case resolve =>
    have run := runPass_of_head head
    rw [show s.walkStart c d = start from hstart.symm] at run
    refine ⟨fun q via first found => resolve_of_first ((run .first).trans found), fun nothing => ?secondPass,
      fun p rule alternative n path live tier offered up clear free room => ?atHead⟩
    case secondPass =>
      have second := resolve_of_second fun q via first => run .first ▸ nothing q via first
      rw [run .second] at second
      exact ⟨fun q via first found => by rw [second, found], fun ended => by rw [second, ended],
        fun k x ended => by rw [second, ended]⟩
    case atHead =>
      subst hstart
      have usable : s.usable .first c ⟨p, n⟩ = true := (usable_iff s .first c _).mpr
        ⟨(portAccepts_iff s .first p).mpr ⟨up, clear⟩, (slotFreeFor_iff s c _).mpr (.inl free),
          (hasRoom_iff s c p).mpr (.inl room)⟩
      exact resolve_of_first ((run .first).trans
        ((walk_of_usable (w := s.walkStart c d) .first c 7 live tier path offered usable).trans
          (by simp [walkStart])))

end

end

section
/-! A write of one route entry, by its state (R17 to R19). -/

namespace Sys2Proof.Machine.State

variable {s : State}

@[simp] theorem joinQueue_holder (c : Circuit) (q : PathSlot) : (s.joinQueue c).holder q = s.holder q := rfl

@[simp] theorem joinQueue_usedCount (c : Circuit) (p : Port) :
    (s.joinQueue c).usedCount p = s.usedCount p := rfl

/-! ## A write IN SERVICE (R17, R18) -/

theorem writeInService_of_unplaced {c : Circuit}
    (standing : (s.route c).standing = .idle ∨ (s.route c).standing = .barred) (f : RouteFields) :
    s.writeInService c f = ((s.setRoute c
      { s.route c with fields := f, standing := .displaced, placed := false }).joinQueue c).settleSweep := by
  obtain idle | barred := standing
  · simp only [writeInService, idle]
  · simp only [writeInService, barred]

theorem writeInService_of_stranded {c : Circuit} (standing : (s.route c).standing = .stranded)
    (f : RouteFields) :
    s.writeInService c f = (((s.setRoute c
      { s.route c with fields := f, standing := .displaced }).leaveStranded c).joinQueue c).settleSweep := by
  simp only [writeInService, standing]

theorem writeInService_of_displaced {c : Circuit} (standing : (s.route c).standing = .displaced)
    (f : RouteFields) :
    s.writeInService c f =
      (s.setRoute c { s.route c with fields := f, standing := .displaced }).settleSweep := by
  simp only [writeInService, standing]

theorem writeInService_of_routed {c : Circuit} {cur : CurrentSet}
    (standing : (s.route c).standing = .routed cur) (f : RouteFields) :
    s.writeInService c f =
      ((s.setRoute c { s.route c with fields := f }).joinQueue c).settleSweep := by
  simp only [writeInService, standing]

theorem writeInService_of_staged {c : Circuit} {cur : CurrentSet} {m : StagedSet}
    (standing : (s.route c).standing = .staged cur m) (f : RouteFields) :
    s.writeInService c f = ((((s.releaseSlot m.path).setRoute c
      { s.route c with fields := f, standing := .routed cur }).joinQueue c).capacityIf
        (s.inService m.path.port)).settleSweep := by
  simp only [writeInService, standing]

/-- R17, R18: the circuit written IN SERVICE is in the queue when the sweep settles, and nothing has been handed
on. -/
theorem writeInService_settles (laws : SweepLaws s) (c : Circuit) (f : RouteFields) :
    ∃ v : State, s.writeInService c f = v.settleSweep ∧ v.queued c = true ∧ v.strandedHas c = false ∧
      v.handed = s.handed := by
  have unstranded (code : (s.route c).standing.code ≠ 5) : s.strandedHas c = false :=
    not_stranded_of_code laws.1 code
  cases standing : (s.route c).standing with
  | idle =>
    exact ⟨_, writeInService_of_unplaced (.inl standing) f, by simp [queued_joinQueue],
      unstranded (by simp [standing, Standing.code]), rfl⟩
  | barred =>
    exact ⟨_, writeInService_of_unplaced (.inr standing) f, by simp [queued_joinQueue],
      unstranded (by simp [standing, Standing.code]), rfl⟩
  | stranded =>
    exact ⟨_, writeInService_of_stranded standing f, by simp [queued_joinQueue],
      by simp [strandedHas_leaveStranded], rfl⟩
  | displaced =>
    exact ⟨_, writeInService_of_displaced standing f,
      (laws.1.at_circuit c).1 (by simp [standing, Standing.code]),
      unstranded (by simp [standing, Standing.code]), rfl⟩
  | routed cur =>
    exact ⟨_, writeInService_of_routed standing f, by simp [queued_joinQueue],
      unstranded (by simp [standing, Standing.code]), rfl⟩
  | staged cur m =>
    have none := unstranded (by simp [standing, Standing.code])
    exact ⟨_, writeInService_of_staged standing f, by simp [queued_capacityIf, queued_joinQueue],
      by simp [strandedHas_capacityIf, none], by simp⟩

theorem writeEntry_inService_eq (laws : SweepLaws s) (c : Circuit) (f : RouteFields) :
    s.writeEntry c .inService f = { s with
      routes := (s.writeEntry c .inService f).routes, occ := (s.writeEntry c .inService f).occ
      used := (s.writeEntry c .inService f).used, sweep := (s.writeEntry c .inService f).sweep } := by
  obtain ⟨v, settles, queued, -, handed⟩ := writeInService_settles laws c f
  have kept : (s.writeEntry c .inService f).handed = s.handed := by
    rw [writeEntry, settles, settleSweep_of_queued v queued]
    exact handed
  have frame := eq_of_frame (writeEntry_frame s c .inService f)
  rwa [kept] at frame

/-- R18: the write of a STAGED circuit cancels its move, whose slot coming free is a capacity event. -/
theorem writeInService_capacityEvent {c : Circuit} {cur : CurrentSet} {m : StagedSet}
    (standing : (s.route c).standing = .staged cur m) (unstranded : s.strandedHas c = false)
    (f : RouteFields) (service : s.inService m.path.port = true) :
    CapacityEvent s (s.writeInService c f) := fun d stranded => by
  have ne : d ≠ c := fun h => by rw [h, unstranded] at stranded; cases stranded
  rw [writeInService_of_staged standing, service, settleSweep_route, queued_settleSweep,
    strandedHas_settleSweep, route_capacityIf, queued_capacityIf, strandedHas_capacityIf]
  simp [stranded, ne]

/-- R17, R18: the write IN SERVICE of a circuit that is not STAGED leaves the slot map and every other circuit. -/
theorem writeInService_of_unstaged {c : Circuit} (unstaged : ∀ cur m, (s.route c).standing ≠ .staged cur m)
    (f : RouteFields) : (s.writeInService c f).occ = s.occ ∧ (s.writeInService c f).used = s.used ∧
      ∀ d : Circuit, d ≠ c → (s.writeInService c f).route d = s.route d ∧
        (s.writeInService c f).queued d = s.queued d ∧
        (s.writeInService c f).strandedHas d = s.strandedHas d := by
  cases standing : (s.route c).standing with
  | idle =>
    rw [writeInService_of_unplaced (.inl standing)]
    exact ⟨by simp, by simp, fun d ne => by simp [ne, queued_joinQueue]⟩
  | barred =>
    rw [writeInService_of_unplaced (.inr standing)]
    exact ⟨by simp, by simp, fun d ne => by simp [ne, queued_joinQueue]⟩
  | stranded =>
    rw [writeInService_of_stranded standing]
    exact ⟨by simp, by simp, fun d ne => by simp [ne, queued_joinQueue, strandedHas_leaveStranded]⟩
  | displaced =>
    rw [writeInService_of_displaced standing]
    exact ⟨by simp, by simp, fun d ne => by simp [ne]⟩
  | routed cur =>
    rw [writeInService_of_routed standing]
    exact ⟨by simp, by simp, fun d ne => by simp [ne, queued_joinQueue]⟩
  | staged cur m => exact absurd standing (unstaged cur m)

/-! ## A write BARRED or IDLE (R19) -/

/-- R19: whether a write out of service frees a slot on a port in service. -/
def freesInService (s : State) (c : Circuit) : Bool :=
  (s.route c).standing.slots.any fun q => s.inService q.port

theorem route_writeOutOfService (c d : Circuit) (f : RouteFields) (x : Standing) (n : Nat) :
    (s.writeOutOfService c f x n).route d =
      if d = c then { s.route c with fields := f, standing := x, moves := n }
      else if s.freesInService c && s.strandedHas d then { s.route d with standing := .displaced }
      else s.route d := by
  unfold writeOutOfService freesInService
  rw [settleSweep_route, route_capacityIf]
  by_cases same : d = c <;> simp [same, strandedHas_leaveStranded]

theorem queued_writeOutOfService (c d : Circuit) (f : RouteFields) (x : Standing) (n : Nat) :
    (s.writeOutOfService c f x n).queued d =
      (decide (d ≠ c) && (s.queued d || (s.freesInService c && s.strandedHas d))) := by
  unfold writeOutOfService freesInService
  rw [queued_settleSweep, queued_capacityIf]
  by_cases same : d = c <;> simp [same, strandedHas_leaveStranded, queued_leaveQueue]

theorem strandedHas_writeOutOfService (c d : Circuit) (f : RouteFields) (x : Standing) (n : Nat) :
    (s.writeOutOfService c f x n).strandedHas d =
      (decide (d ≠ c) && (!s.freesInService c && s.strandedHas d)) := by
  unfold writeOutOfService freesInService
  rw [strandedHas_settleSweep, strandedHas_capacityIf]
  by_cases same : d = c <;> simp [same, strandedHas_leaveStranded]

theorem holder_writeOutOfService (c : Circuit) (f : RouteFields) (x : Standing) (n : Nat) (q : PathSlot) :
    (s.writeOutOfService c f x n).holder q =
      if q ∈ (s.route c).standing.slots then none else s.holder q := by
  unfold writeOutOfService
  rw [settleSweep_holder, capacityIf_holder]
  exact holder_releaseAll s _ q

/-- R126: a write out of service takes its circuit out of the queue, so the sweep may fall IDLE. -/
theorem writeOutOfService_sweepSettled (s : State) (c : Circuit) (f : RouteFields) (x : Standing) (n : Nat) :
    SweepSettled s (s.writeOutOfService c f x n) [] := by
  unfold writeOutOfService
  refine settleSweep_sweepSettled ?_ (by simp)
  rw [capacityIf_sweep_state]
  simp [leaveStranded, leaveQueue]

/-- R19: a write whose service is not IN SERVICE. -/
theorem writeEntry_of_outOfService {v : Service} (out : v ≠ .inService) (c : Circuit) (f : RouteFields) :
    s.writeEntry c v f = s.writeOutOfService c f (if v = .idle then .idle else .barred)
      (if v = .idle then 0 else (s.route c).moves) := by
  cases v with
  | inService => exact absurd rfl out
  | barred | idle => rfl

end Sys2Proof.Machine.State

section

open Sys2Proof Sys2Proof.Machine Sys2Proof.Machine.State

/-- Settles O47: a write IN SERVICE by the standing of the entry, and a write out of service by whether a slot it
frees lies on a port in service. -/
theorem routeWriteByState : Obligations.RouteWriteByState := by
  refine ⟨fun s c f t laws ht => ?inService, fun s c v f t laws out ht => ?outOfService⟩
  case inService =>
    obtain ⟨v, settles, queued, unstranded, -⟩ := writeInService_settles laws c f
    have shape := writeEntry_inService_eq laws c f
    rw [show s.writeEntry c .inService f = s.writeInService c f from rfl] at ht shape
    rw [ht]
    refine ⟨shape, ?queued, ?running, ?unstranded, fun unplaced => ?unplaced, fun waiting => ?waiting,
      fun cur routed => ?routed, fun cur m staged => ?staged, fun unstaged =>
        writeInService_of_unstaged unstaged f⟩
    case queued => rw [settles, queued_settleSweep]; exact queued
    case running => rw [settles, settleSweep_of_queued v queued]; rfl
    case unstranded => rw [settles, strandedHas_settleSweep]; exact unstranded
    case unplaced => rw [writeInService_of_unplaced unplaced]; simp
    case waiting =>
      obtain stranded | displaced := waiting
      · rw [writeInService_of_stranded stranded]; simp
      · rw [writeInService_of_displaced displaced]; simp
    case routed => rw [writeInService_of_routed routed]; simp
    case staged =>
      have none : s.strandedHas c = false := not_stranded_of_code laws.1 (by simp [staged, Standing.code])
      refine ⟨?_, ?_, fun q ne => ?_, fun p => ?_, writeInService_capacityEvent staged none f⟩
      · rw [writeInService_of_staged staged]; simp [route_capacityIf, none]
      · rw [writeInService_of_staged staged]; simp [holder_releaseSlot]
      · rw [writeInService_of_staged staged]; simp [holder_releaseSlot, ne]
      · rw [writeInService_of_staged staged]; simp [usedCount_releaseSlot]
  case outOfService =>
    rw [writeEntry_of_outOfService out] at ht
    rw [ht]
    refine ⟨eq_of_frame (by simp), ?self, ?unqueued, ?unstranded,
      writeOutOfService_sweepSettled s c f _ _, fun q held => ?freed, fun q kept => ?kept,
      fun frees d ne stranded => ?capacity, fun quiet d ne => ?others⟩
    case self => rw [route_writeOutOfService]; simp
    case unqueued => rw [queued_writeOutOfService]; simp
    case unstranded => rw [strandedHas_writeOutOfService]; simp
    case freed => rw [holder_writeOutOfService, if_pos held]
    case kept => rw [holder_writeOutOfService, if_neg kept]
    case capacity =>
      have frees : s.freesInService c = true := List.any_eq_true.mpr frees
      rw [route_writeOutOfService, queued_writeOutOfService, strandedHas_writeOutOfService, frees, stranded]
      simp [ne]
    case others =>
      have quiet : s.freesInService c = false := List.any_eq_false.mpr fun q held => by simp [quiet q held]
      rw [route_writeOutOfService, queued_writeOutOfService, strandedHas_writeOutOfService, quiet]
      simp [ne]

end

end

section
/-! What an event at one port leaves of the records of the other ports, and of what has been handed on: a port in
AWAIT PROBE may be taken into PROBING, and the lists only grow. -/

namespace Sys2Proof.Machine

/-! ## The record of a port that may meanwhile have been taken into PROBING -/

/-- A record that is kept, or taken from AWAIT PROBE into PROBING. -/
def Probed (r r' : PortRecord) : Prop := r' = r ∨ r.state = .awaitProbe ∧ r' = { r with state := .probing }

namespace Probed

variable {r r' r'' : PortRecord}

theorem refl (r : PortRecord) : Probed r r := .inl rfl

theorem trans (a : Probed r r') (b : Probed r' r'') : Probed r r'' := by
  obtain rfl | ⟨await, rfl⟩ := a
  · exact b
  · obtain rfl | ⟨await', -⟩ := b
    · exact .inr ⟨await, rfl⟩
    · cases await'

theorem h (a : Probed r r') : r'.h = r.h := by
  obtain rfl | ⟨-, rfl⟩ := a <;> rfl

theorem q (a : Probed r r') : r'.q = r.q := by
  obtain rfl | ⟨-, rfl⟩ := a <;> rfl

theorem counts (a : Probed r r') : r'.counts = r.counts := by
  obtain rfl | ⟨-, rfl⟩ := a <;> rfl

theorem failBack (a : Probed r r') : r'.failBack = r.failBack := by
  obtain rfl | ⟨-, rfl⟩ := a <;> rfl

theorem inService (a : Probed r r') : r'.state.inService = r.state.inService := by
  obtain rfl | ⟨await, rfl⟩ := a
  · rfl
  · rw [await]; rfl

/-- Only AWAIT PROBE is left. -/
theorem state_of_ne (a : Probed r r') (ne : r.state ≠ .awaitProbe) : r'.state = r.state := by
  obtain rfl | ⟨await, -⟩ := a
  · rfl
  · exact absurd await ne

theorem eq_of_ne (a : Probed r r') (ne : r.state ≠ .awaitProbe) : r' = r :=
  a.resolve_right fun ⟨await, _⟩ => ne await

theorem state_of_awaiting (a : Probed r r') (awaits : r.state = .awaitProbe ∨ r.state = .probing) :
    r'.state = .awaitProbe ∨ r'.state = .probing := by
  obtain rfl | ⟨-, rfl⟩ := a
  · exact awaits
  · exact .inr rfl

/-- Only PROBING is reached. -/
theorem state_of_ne' (a : Probed r r') (ne : r'.state ≠ .probing) : r' = r := by
  obtain rfl | ⟨-, rfl⟩ := a
  · rfl
  · exact absurd rfl ne

end Probed

/-! ## What has been handed on only grows -/

/-- Every list of what has been handed on is continued. -/
def HandsOn (a b : Handed) : Prop :=
  a.occurrences <+: b.occurrences ∧ a.downEntries <+: b.downEntries ∧ a.upEntries <+: b.upEntries ∧
  a.portDrains <+: b.portDrains ∧ a.groupDrains <+: b.groupDrains

namespace HandsOn

theorem refl (a : Handed) : HandsOn a a :=
  ⟨List.prefix_rfl, List.prefix_rfl, List.prefix_rfl, List.prefix_rfl, List.prefix_rfl⟩

theorem of_eq {a b : Handed} (same : b = a) : HandsOn a b := by rw [same]; exact refl a

theorem trans {a b c : Handed} (x : HandsOn a b) (y : HandsOn b c) : HandsOn a c := by
  obtain ⟨occ, down, up, port, group⟩ := x
  obtain ⟨occ', down', up', port', group'⟩ := y
  exact ⟨occ.trans occ', down.trans down', up.trans up', port.trans port', group.trans group'⟩

theorem occurrence {a b : Handed} (x : HandsOn a b) {o : Occurrence} (h : o ∈ a.occurrences) :
    o ∈ b.occurrences := x.1.subset h

theorem downEntry {a b : Handed} (x : HandsOn a b) {p : Port} (h : p ∈ a.downEntries) :
    p ∈ b.downEntries := x.2.1.subset h

theorem upEntry {a b : Handed} (x : HandsOn a b) {p : Port} (h : p ∈ a.upEntries) :
    p ∈ b.upEntries := x.2.2.1.subset h

theorem portDrain {a b : Handed} (x : HandsOn a b) {p : Port} (h : p ∈ a.portDrains) :
    p ∈ b.portDrains := x.2.2.2.1.subset h

theorem groupDrain {a b : Handed} (x : HandsOn a b) {g : Group} (h : g ∈ a.groupDrains) :
    g ∈ b.groupDrains := x.2.2.2.2.subset h

end HandsOn

namespace State

variable {s : State}

theorem raise_handsOn (s : State) (o : Occurrence) : HandsOn s.handed (s.raise o).handed :=
  ⟨List.prefix_append _ _, List.prefix_rfl, List.prefix_rfl, List.prefix_rfl, List.prefix_rfl⟩

theorem handDownEntry_handsOn (s : State) (p : Port) : HandsOn s.handed (s.handDownEntry p).handed :=
  ⟨List.prefix_rfl, List.prefix_append _ _, List.prefix_rfl, List.prefix_rfl, List.prefix_rfl⟩

theorem handUpEntry_handsOn (s : State) (p : Port) : HandsOn s.handed (s.handUpEntry p).handed :=
  ⟨List.prefix_rfl, List.prefix_rfl, List.prefix_append _ _, List.prefix_rfl, List.prefix_rfl⟩

theorem handPortDrain_handsOn (s : State) (p : Port) : HandsOn s.handed (s.handPortDrain p).handed :=
  ⟨List.prefix_rfl, List.prefix_rfl, List.prefix_rfl, List.prefix_append _ _, List.prefix_rfl⟩

theorem settleSweep_handsOn (s : State) : HandsOn s.handed s.settleSweep.handed := by
  unfold settleSweep
  split_ifs
  · exact .refl _
  · exact raise_handsOn _ _
  · exact .refl _

theorem portDeparture_handsOn (s : State) (p : Port) : HandsOn s.handed (s.portDeparture p).handed := by
  unfold portDeparture
  refine HandsOn.trans ?_ (settleSweep_handsOn _)
  dsimp only
  exact .refl _

theorem departed_handsOn (s : State) (p : Port) (x : PortState) : HandsOn s.handed (s.departed p x).handed := by
  unfold departed
  refine HandsOn.trans ?_ (portDeparture_handsOn _ p)
  split_ifs
  · exact (raise_handsOn (s.setPort p _) _).trans (handDownEntry_handsOn _ p)
  · exact raise_handsOn (s.setPort p _) _

theorem leaveService_handed (s : State) (p : Port) (x : PortState) :
    (s.leaveService p x).handed = (s.departed p x).handed := by
  rw [leaveService_eq]
  simp

theorem leaveService_handsOn (s : State) (p : Port) (x : PortState) :
    HandsOn s.handed (s.leaveService p x).handed := by
  rw [leaveService_handed]
  exact departed_handsOn s p x

theorem enterSuspect_handsOn (s : State) (p : Port) : HandsOn s.handed (s.enterSuspect p).handed := by
  unfold enterSuspect
  dsimp only
  split_ifs
  · exact (raise_handsOn _ _).trans (handPortDrain_handsOn _ p)
  · exact raise_handsOn _ _

theorem capacityEvent_handed (s : State) : s.capacityEvent.handed = s.handed := by simp

theorem enterUp_handsOn (s : State) (p : Port) : HandsOn s.handed (s.enterUp p).handed := by
  unfold enterUp
  refine HandsOn.trans ?_ (settleSweep_handsOn _)
  rw [capacityEvent_handed]
  exact (raise_handsOn (s.setPort p _) _).trans (handUpEntry_handsOn _ p)

end State

end Sys2Proof.Machine
end

section
/-! The records of the ports after a change of state of one of them, and the comparison of a score with the
thresholds (R63). -/

namespace Sys2Proof.Machine.State

variable {s : State}

/-! ## The checker's entry leaves the records (R85, R89) -/

/-- R85: only the port of the oldest entry can be taken into PROBING. -/
theorem takeProbe_port_of_unqueued {q : Port} (unqueued : ∀ e ∈ s.checker.queue, e.port ≠ q) :
    s.takeProbe.port q = s.port q := by
  cases idle : s.checker.state with
  | seeding e | counting e => rw [takeProbe_of_busy s (by simp [idle])]
  | idle =>
    cases queue : s.checker.queue with
    | nil => rw [takeProbe_of_empty s queue]
    | cons e rest =>
      have ne : e.port ≠ q := unqueued e (by simp [queue])
      rw [takeProbe_of_entry s idle queue]
      cases e.kind with
      | demand => simp [port]
      | recovery => simp [port, Fin.val_ne_of_ne ne]

theorem takeProbe_port_probed (oldest : OldestAwaits s) (q : Port) :
    Probed (s.port q) (s.takeProbe.port q) := by
  cases idle : s.checker.state with
  | seeding e | counting e => rw [takeProbe_of_busy s (by simp [idle])]; exact .refl _
  | idle =>
    cases queue : s.checker.queue with
    | nil => rw [takeProbe_of_empty s queue]; exact .refl _
    | cons e rest =>
      rw [takeProbe_of_entry s idle queue]
      cases kind : e.kind with
      | demand => left; simp [port]
      | recovery =>
        by_cases same : q = e.port
        · right; subst same; exact ⟨oldest e rest queue kind, by simp [port]⟩
        · left; simp [port, Ne.symm (Fin.val_ne_of_ne same)]

/-- R89: a cancelled entry leaves the record of its port, and takes at most the oldest entry's port into PROBING. -/
theorem cancelProbe_port_self (core : ProbeCore s) {t : State} {p : Port} (checker : t.checker = s.checker) :
    (t.cancelProbe p).port p = t.port p := by
  unfold cancelProbe
  rw [checker]
  split
  case isTrue served =>
    rw [takeProbe_port_of_unqueued (q := p) (s := t.setChecker s.checker.toIdle) fun e member =>
      core.1.not_mem_queue served e member]
    rfl
  case isFalse => rfl

theorem cancelProbe_port_other (core : ProbeCore s) {t : State} {p : Port} (checker : t.checker = s.checker)
    (others : ∀ q, q ≠ p → t.port q = s.port q) {q : Port} (ne : q ≠ p) :
    Probed (s.port q) ((t.cancelProbe p).port q) := by
  unfold cancelProbe
  rw [checker]
  split
  case isTrue served =>
    have oldest : OldestAwaits (t.setChecker s.checker.toIdle) := fun e rest queue recovery => by
      have queue : s.checker.queue = e :: rest := queue
      have other : e.port ≠ p := core.1.not_mem_queue served e (by simp [queue])
      rw [setChecker_port, others e.port other]
      exact core.oldestAwaits e rest queue recovery
    have taken := takeProbe_port_probed oldest q
    rwa [setChecker_port, others q ne] at taken
  case isFalse => exact .inl (others q ne)

/-! ## Changes of state (section 4.5) -/

theorem leaveService_port_self (core : ProbeCore s) (p : Port) (x : PortState) :
    (s.leaveService p x).port p = departedRecord (s.port p) x := by
  rw [leaveService_eq, latchIfLost_port, cancelProbe_port_self core (s.departed_checker p x), departed_port,
    if_pos rfl]

theorem leaveService_port_other (core : ProbeCore s) (p : Port) (x : PortState) {q : Port} (ne : q ≠ p) :
    Probed (s.port q) ((s.leaveService p x).port q) := by
  rw [leaveService_eq, latchIfLost_port]
  exact cancelProbe_port_other core (s.departed_checker p x) (fun q ne => by rw [departed_port, if_neg ne]) ne

theorem setback_port_self (core : ProbeCore s) (p : Port) :
    (s.setback p).port p = { s.port p with state := .down, q := 0 } := by
  unfold setback
  rw [cancelProbe_port_self (s := s) (t := s.setPort p _) core rfl, port_setPort_self]

theorem setback_port_other (core : ProbeCore s) (p : Port) {q : Port} (ne : q ≠ p) :
    Probed (s.port q) ((s.setback p).port q) := by
  unfold setback
  exact cancelProbe_port_other (s := s) (t := s.setPort p _) core rfl
    (fun q ne => port_setPort_ne s ne _) ne

theorem setback_handed (s : State) (p : Port) : (s.setback p).handed = s.handed := by
  simp [setback]

theorem leaveService_down_handed (s : State) (p : Port) :
    Occurrence.pathDown p false ∈ (s.leaveService p .down).handed.occurrences ∧
    p ∈ (s.leaveService p .down).handed.downEntries := by
  rw [leaveService_handed, departed, if_pos rfl]
  obtain ⟨occurrences, downs, -⟩ := portDeparture_handsOn
    (((s.setPort p (departedRecord (s.port p) .down)).raise (.pathDown p false)).handDownEntry p) p
  exact ⟨occurrences.subset (by simp [raise, handDownEntry]), downs.subset (by simp [handDownEntry])⟩

theorem isOn_iff (s : State) (x : Param) : s.isOn x = true ↔ s.param x ≠ 0 := by
  simp [isOn]

theorem enterSuspect_handed (s : State) (p : Port) :
    Occurrence.pathSuspect p false ∈ (s.enterSuspect p).handed.occurrences ∧
    (s.param .drain ≠ 0 → p ∈ (s.enterSuspect p).handed.portDrains) := by
  unfold enterSuspect
  dsimp only
  rw [← isOn_iff]
  split_ifs with on
  · exact ⟨by simp [raise, handPortDrain], fun _ => by simp [handPortDrain]⟩
  · exact ⟨by simp [raise], fun h => absurd h on⟩

/-! ## The comparison with the thresholds (R63) -/

theorem inService_iff (s : State) (p : Port) :
    s.inService p = true ↔ (s.port p).state = .up ∨ (s.port p).state = .suspect := by
  unfold inService
  cases (s.port p).state <;> simp [PortState.inService]

theorem compareScore_of_departs {p : Port} (service : s.inService p = true)
    (down : s.param .downAt ≤ (s.port p).h) : s.compareScore p = s.leaveService p .down := by
  obtain up | suspect := (inService_iff s p).mp service
  · simp only [compareScore, up, down, if_true]
  · simp only [compareScore, suspect, down, if_true]

theorem compareScore_of_suspects {p : Port} (up : (s.port p).state = .up)
    (low : (s.port p).h < s.param .downAt) (suspect : s.param .suspectAt ≤ (s.port p).h) :
    s.compareScore p = s.enterSuspect p := by
  simp only [compareScore, up, not_le.mpr low, suspect, if_true, if_false]

theorem compareScore_of_setback {p : Port}
    (awaits : (s.port p).state = .awaitProbe ∨ (s.port p).state = .probing)
    (down : s.param .downAt ≤ (s.port p).h) : s.compareScore p = s.setback p := by
  obtain await | probing := awaits
  · simp only [compareScore, await, down, if_true]
  · simp only [compareScore, probing, down, if_true]

theorem compareScore_of_up {p : Port} (up : (s.port p).state = .up)
    (low : (s.port p).h < s.param .downAt) (below : (s.port p).h < s.param .suspectAt) :
    s.compareScore p = s := by
  simp only [compareScore, up, not_le.mpr low, not_le.mpr below, if_false]

theorem compareScore_of_low {p : Port} (state : (s.port p).state ≠ .up)
    (low : (s.port p).h < s.param .downAt) : s.compareScore p = s := by
  unfold compareScore
  cases standing : (s.port p).state with
  | up => exact absurd standing state
  | _ => simp only [not_le.mpr low, if_false]

theorem compareScore_of_out {p : Port}
    (out : (s.port p).state = .down ∨ (s.port p).state = .disabled ∨ (s.port p).state.looped = true) :
    s.compareScore p = s := by
  unfold compareScore
  cases standing : (s.port p).state with
  | down | disabled | loopback => rfl
  | up | suspect | awaitProbe | probing => simp [standing, PortState.looped] at out

/-- R63: the change of state that the comparison makes, when it makes one. -/
theorem compareScore_cases (s : State) (p : Port) : s.compareScore p = s.leaveService p .down ∨
    s.compareScore p = s.enterSuspect p ∨ s.compareScore p = s.setback p ∨ s.compareScore p = s := by
  unfold compareScore
  dsimp only
  split
  case h_1 | h_2 | h_3 | h_4 => split_ifs <;> simp
  all_goals simp

theorem compareScore_port_other (core : ProbeCore s) (p : Port) {q : Port} (ne : q ≠ p) :
    Probed (s.port q) ((s.compareScore p).port q) := by
  obtain leaves | suspects | back | same := compareScore_cases s p
  · rw [leaves]; exact leaveService_port_other core p _ ne
  · rw [suspects]; left; rw [enterSuspect_port, if_neg ne]
  · rw [back]; exact setback_port_other core p ne
  · rw [same]; exact .refl _

theorem compareScore_handsOn (s : State) (p : Port) : HandsOn s.handed (s.compareScore p).handed := by
  obtain leaves | suspects | back | same := compareScore_cases s p
  · rw [leaves]; exact leaveService_handsOn s p _
  · rw [suspects]; exact enterSuspect_handsOn s p
  · rw [back]; exact .of_eq (setback_handed s p)
  · rw [same]; exact .refl _

/-- R63: what the comparison leaves, when a change of score has left the port's state, quiet count and DOWN count. -/
theorem compareScore_scoreCompared {v : State} {p : Port} (core : ProbeCore v) (params : v.params = s.params)
    (state : (v.port p).state = (s.port p).state) (quiet : (v.port p).q = (s.port p).q)
    (downs : (v.port p).counts.down = (s.port p).counts.down) : ScoreCompared s (v.compareScore p) p := by
  have param (x : Param) : s.param x = v.param x := param_congr params.symm x
  have score : ((v.compareScore p).port p).h = (v.port p).h := (compareScore_port_score v p p).1
  have service : s.inService p = v.inService p := by rw [inService, inService, state]
  simp only [ScoreCompared, score, param, ← state, ← quiet, ← downs, service]
  refine ⟨fun service down => ?departs, fun up low suspect => ?suspects, fun up low below => ?up,
    fun suspect low => ?suspect, fun awaits down => ?setback, fun awaits low => ?awaits, fun out => ?out⟩
  case departs =>
    rw [compareScore_of_departs service down, leaveService_port_self core]
    obtain ⟨raised, handed⟩ := leaveService_down_handed v p
    exact ⟨rfl, rfl, rfl, rfl, raised, handed⟩
  case suspects =>
    obtain ⟨raised, handed⟩ := enterSuspect_handed v p
    rw [compareScore_of_suspects up low suspect, enterSuspect_port, if_pos rfl]
    exact ⟨rfl, rfl, rfl, rfl, raised, handed⟩
  case up =>
    rw [compareScore_of_up up low below]
    exact ⟨up, rfl, rfl⟩
  case suspect =>
    rw [compareScore_of_low (by simp [suspect]) low]
    exact ⟨suspect, rfl, rfl⟩
  case setback =>
    rw [compareScore_of_setback awaits down, setback_port_self core]
    exact ⟨rfl, rfl, rfl⟩
  case awaits =>
    rw [compareScore_of_low (by rintro up; simp [up] at awaits) low]
    exact ⟨awaits, rfl, rfl⟩
  case out =>
    rw [compareScore_of_out (out.imp_right .inl)]
    exact ⟨rfl, rfl, rfl⟩

end Sys2Proof.Machine.State
end

section
/-! Line events at the health monitor (R62, R63), and the end of a record on a control slot (R160, R161). -/

namespace Sys2Proof.Machine

namespace State

variable {s : State}

/-! ## Line events -/

/-- R62: a line event before the comparison with the thresholds. -/
def weighed (s : State) (p : Port) (e : LineEvent) : State := (s.addScore p (s.weight e)).countEvent p e

theorem lineEvent_eq (s : State) (p : Port) (e : LineEvent) :
    s.lineEvent p e = (s.weighed p e).compareScore p := rfl

theorem weighed_port_self (s : State) (p : Port) (e : LineEvent) : (s.weighed p e).port p =
    { s.port p with h := scored (s.port p).h (s.weight e), counts := (s.port p).counts.count e } := by
  simp [weighed, countEvent, addScore, scored, satAdd]

theorem weighed_port_other (s : State) (p : Port) (e : LineEvent) {q : Port} (ne : q ≠ p) :
    (s.weighed p e).port q = s.port q := by
  simp [weighed, countEvent, addScore, ne]

theorem weighed_core (core : ProbeCore s) (p : Port) (e : LineEvent) : ProbeCore (s.weighed p e) :=
  ((s.addScore_probeKept p _).trans (countEvent_probeKept _ p e) core).1

theorem lineEvent_port_other (core : ProbeCore s) (p : Port) (e : LineEvent) {q : Port} (ne : q ≠ p) :
    Probed (s.port q) ((s.lineEvent p e).port q) := by
  rw [lineEvent_eq, ← weighed_port_other s p e ne]
  exact compareScore_port_other (weighed_core core p e) p ne

theorem lineEvent_handsOn (s : State) (p : Port) (e : LineEvent) :
    HandsOn s.handed (s.lineEvent p e).handed :=
  compareScore_handsOn (s.weighed p e) p

theorem down_count (n : Counts) (e : LineEvent) : (n.count e).down = n.down := by
  cases e <;> rfl

/-- R62, R63: the score of the port of a line event is compared. -/
theorem lineEvent_scoreCompared (core : ProbeCore s) (p : Port) (e : LineEvent) :
    ScoreCompared s (s.lineEvent p e) p := by
  rw [lineEvent_eq]
  refine compareScore_scoreCompared (weighed_core core p e) rfl ?_ ?_ ?_ <;> rw [weighed_port_self]
  exact down_count _ e

end State

/-! ## The comparison after further events at the other ports -/

theorem ScoreCompared.later {s t u : State} {p : Port} (compared : ScoreCompared s t p)
    (record : Probed (t.port p) (u.port p)) (handed : HandsOn t.handed u.handed) :
    ScoreCompared s u p := by
  obtain ⟨departs, suspects, up, suspect, setback, awaits, out⟩ := compared
  simp only [ScoreCompared, record.h, record.q, record.counts, record.failBack]
  refine ⟨fun service low => ?_, fun h low sus => ?_, fun h low sus => ?_, fun h low => ?_, fun h down => ?_,
    fun h low => ?_, fun h => ?_⟩
  · obtain ⟨state, q, timer, downs, raised, entry⟩ := departs service low
    exact ⟨(record.state_of_ne (by simp [state])).trans state, q, timer, downs, handed.occurrence raised,
      handed.downEntry entry⟩
  · obtain ⟨state, q, timer, downs, raised, drain⟩ := suspects h low sus
    exact ⟨(record.state_of_ne (by simp [state])).trans state, q, timer, downs, handed.occurrence raised,
      fun on => handed.portDrain (drain on)⟩
  · obtain ⟨state, kept⟩ := up h low sus
    exact ⟨(record.state_of_ne (by simp [state])).trans state, kept⟩
  · obtain ⟨state, kept⟩ := suspect h low
    exact ⟨(record.state_of_ne (by simp [state])).trans state, kept⟩
  · obtain ⟨state, kept⟩ := setback h down
    exact ⟨(record.state_of_ne (by simp [state])).trans state, kept⟩
  · obtain ⟨state, kept⟩ := awaits h low
    exact ⟨record.state_of_awaiting state, kept⟩
  · obtain ⟨state, kept⟩ := out h
    refine ⟨(record.state_of_ne ?_).trans state, kept⟩
    rw [state]
    rintro await
    simp [await] at h

theorem ScoreCompared.earlier {s t u : State} {p : Port} (compared : ScoreCompared t u p)
    (params : t.params = s.params) (record : Probed (s.port p) (t.port p)) : ScoreCompared s u p := by
  have param (x : Param) : t.param x = s.param x := State.param_congr params x
  have service : t.inService p = s.inService p := record.inService
  obtain ⟨departs, suspects, up, suspect, setback, awaits, out⟩ := compared
  simp only [param, service, record.q, record.counts] at departs suspects up suspect setback awaits out
  have state {x : PortState} (ne : x ≠ .awaitProbe) (h : (s.port p).state = x) : (t.port p).state = x :=
    (record.state_of_ne (by rwa [h])).trans h
  refine ⟨departs, fun h => suspects (state (by simp) h), fun h => up (state (by simp) h),
    fun h => suspect (state (by simp) h), fun h => setback (record.state_of_awaiting h),
    fun h => awaits (record.state_of_awaiting h), fun h => ?_⟩
  have same : (t.port p).state = (s.port p).state :=
    record.state_of_ne (by rintro await; simp [await] at h)
  rw [← same] at h ⊢
  exact out h

namespace State

variable {s : State}

/-! ## The end of a record (R161) -/

theorem exec_controlRecord (s : State) (p : Port) : exec (.controlRecord p) s = .next (s.takeEnded p) := rfl

theorem endRecord_of_accepted (p : Port) {len : Nat} {body : List Octet} {check : Octet}
    (sum : recordSum len body check = 0) :
    s.endRecord p (.whole len body check) = s.acceptRecord p body := by
  simp only [endRecord, sum, if_true]

theorem endRecord_of_refused (p : Port) {e : RecordEnd} (bad : e = .lengthRefused ∨
    ∃ len body check, e = .whole len body check ∧ recordSum len body check ≠ 0) :
    s.endRecord p e = s.lineEvent p .ccf := by
  obtain rfl | ⟨len, body, check, rfl, sum⟩ := bad
  · rfl
  · simp only [endRecord, sum, if_false]

theorem acceptRecord_of_room {p : Port} (room : (s.control p).requests.length < 2) (body : List Octet) :
    s.acceptRecord p body = s.setControl p
      { s.control p with requests := (s.control p).requests ++ [body] } := by
  simp only [acceptRecord, room, if_true]

theorem acceptRecord_of_full {p : Port} (full : 2 ≤ (s.control p).requests.length) (body : List Octet) :
    s.acceptRecord p body =
      (s.setControl p { s.control p with overrunFlag := true }).setPort p { s.port p with
        counts := { (s.port p).counts with overrun := bump16 (s.port p).counts.overrun } } := by
  simp only [acceptRecord, not_lt.mpr full, if_false]

theorem setControl_setControl (s : State) (p : Port) (c c' : Control) :
    (s.setControl p c).setControl p c' = s.setControl p c' := by
  simp [setControl]

theorem setControl_core (core : ProbeCore s) (p : Port) (c : Control) : ProbeCore (s.setControl p c) :=
  core.of_same (fun _ => .rfl) (fun _ => .rfl) (fun _ => id) rfl rfl

end State

end Sys2Proof.Machine

section

open Sys2Proof Sys2Proof.Machine Sys2Proof.Machine.State

/-- Settles O15: the control receiver by its state, and a record that has ended by whether it is accepted. -/
theorem controlRecords : Obligations.ControlRecords := by
  refine ⟨fun s p o t ht => ?receiver, fun s p rest => ⟨fun len body check ended sum => ?accepted,
    fun e ended bad => ?refused⟩, fun s p => ⟨takeAllEnded_of_nil s, fun e rest ended => ?all⟩⟩
  case receiver =>
    subst ht
    refine ⟨fun rx => ?_, fun rx low high => ?_, fun rx bad => ?_, fun len got rx => ?_,
      fun len body rx => ?_⟩ <;> simp only [controlOctet, rx, control_setControl_self]
    · split_ifs
      · rfl
      · rw [← rx]
    · rw [if_pos ⟨low, high⟩]
    · rw [if_neg (by omega)]
    · rw [List.length_append, List.length_singleton]
      split_ifs <;> rfl
  case accepted =>
    rw [exec_controlRecord, takeEnded_of_cons s ended, endRecord_of_accepted p sum]
    constructor
    · intro room
      rw [acceptRecord_of_room (by simpa using room), setControl_setControl, control_setControl_self]
    · intro full
      rw [acceptRecord_of_full (by simpa using full), setControl_setControl, control_setControl_self]
      rfl
  case refused =>
    have core (laws : ProbeLaws s) := setControl_core laws.core p { s.control p with ended := rest }
    refine ⟨_, exec_controlRecord s p, ?_⟩
    rw [takeEnded_of_cons s ended, endRecord_of_refused p bad]
    have counts := lineEvent_counts (s.setControl p { s.control p with ended := rest }) p p .ccf
    rw [if_pos rfl] at counts
    obtain ⟨-, ccf, -, -, overrun⟩ := counts
    refine ⟨(control_congr (by simp) p).trans (control_setControl_self s p _), overrun, fun _ => ⟨?_, ccf,
      fun laws => (lineEvent_scoreCompared (core laws) p .ccf).earlier rfl (.refl _)⟩⟩
    exact (lineEvent_h _ p p .ccf).trans (if_pos rfl)
  case all => exact ⟨_, exec_controlRecord s p, takeAllEnded_of_cons s ended⟩

end

end

section
/-! The receivers of the station trunks (R49 to R53, R59). -/

namespace Sys2Proof.Machine

/-- R131: the route of a circuit to which a station octet has come, by the block-end code. -/
def Route.marked (r : Route) (code o : Octet) : Route :=
  match r.standing with
  | .staged cur m =>
    if m.seen ∧ o = code then { r with standing := .staged cur { m with blockEndPassed := true } } else r
  | _ => r

namespace Route

theorem marked_stationLost (r : Route) (code o : Octet) : (r.marked code o).stationLost = r.stationLost := by
  unfold marked
  split
  · split_ifs <;> rfl
  · rfl

theorem marked_of_blockEnd {r : Route} {cur : CurrentSet} {m : StagedSet} {code o : Octet}
    (staged : r.standing = .staged cur m) (seen : m.seen = true) (blockEnd : o = code) :
    r.marked code o = { r with standing := .staged cur { m with blockEndPassed := true } } := by
  simp only [marked, staged, seen, blockEnd, and_self, if_true]

theorem marked_of_no_blockEnd {r : Route} {code o : Octet}
    (none : ∀ cur m, r.standing = .staged cur m → m.seen = false ∨ o ≠ code) : r.marked code o = r := by
  unfold marked
  split
  case h_1 cur m staged =>
    rw [if_neg]
    rintro ⟨seen, blockEnd⟩
    obtain unseen | other := none cur m staged
    · rw [unseen] at seen; cases seen
    · exact other blockEnd
  case h_2 => rfl

end Route

namespace State

variable {s : State}

/-! ## A station octet at the slot exchange (R8, R129, R131) -/

/-- R8: whether the slot exchange carries the station octets of a circuit. -/
def carries (s : State) (c : Circuit) : Bool :=
  (match s.exch.view[c] with
    | .carried _ => true
    | _ => false) && !(s.route c).stationLost

theorem carries_iff (s : State) (c : Circuit) : s.carries c = true ↔
    (∃ q, s.exch.view[c] = .carried q) ∧ (s.route c).stationLost = false := by
  unfold carries
  cases s.exch.view[c] <;> simp

theorem setRoute_self (s : State) (c : Circuit) : s.setRoute c (s.route c) = s := by
  simp [setRoute, route]

theorem markBlockEnd_eq (s : State) (c : Circuit) (o : Octet) : s.markBlockEnd c o =
    s.setRoute c ((s.route c).marked (s.codeOctet .blockEndCode) o) := by
  cases standing : (s.route c).standing with
  | staged cur m =>
    simp only [markBlockEnd, Route.marked, standing]
    split_ifs
    · rfl
    · exact (setRoute_self s c).symm
  | _ =>
    simp only [markBlockEnd, Route.marked, standing]
    exact (setRoute_self s c).symm

theorem stationOctet_of_carried {c : Circuit} (carried : s.carries c = true) (o : Octet) : s.stationOctet c o =
    (s.setExch { s.exch with toHost := s.exch.toHost.set c (some o) }).setRoute c
      ((s.route c).marked (s.codeOctet .blockEndCode) o) := by
  obtain ⟨⟨q, view⟩, kept⟩ := (carries_iff s c).mp carried
  simp only [stationOctet, view, kept, Bool.false_eq_true, if_false, markBlockEnd_eq]
  rfl

theorem stationOctet_of_uncarried {c : Circuit} (uncarried : s.carries c = false) (o : Octet) :
    s.stationOctet c o = s := by
  unfold carries at uncarried
  unfold stationOctet
  split
  case h_1 q view =>
    rw [view] at uncarried
    rw [if_pos (by simpa using uncarried)]
  case h_2 => rfl

theorem route_stationOctet (c d : Circuit) (o : Octet) : (s.stationOctet c o).route d =
    if d = c ∧ s.carries c = true then (s.route c).marked (s.codeOctet .blockEndCode) o else s.route d := by
  cases carried : s.carries c with
  | false => rw [stationOctet_of_uncarried carried]; simp
  | true =>
    rw [stationOctet_of_carried carried, route_setRoute]
    simp only [and_true]
    rfl

theorem exch_stationOctet (c : Circuit) (o : Octet) : (s.stationOctet c o).exch =
    if s.carries c = true then { s.exch with toHost := s.exch.toHost.set c (some o) } else s.exch := by
  cases carried : s.carries c with
  | false => rw [stationOctet_of_uncarried carried]; simp
  | true => rw [stationOctet_of_carried carried]; simp

theorem stationOctet_eq (s : State) (c : Circuit) (o : Octet) :
    ∃ r x, s.stationOctet c o = { s with routes := r, exch := x } := by
  cases carried : s.carries c with
  | false => exact ⟨s.routes, s.exch, stationOctet_of_uncarried carried o⟩
  | true =>
    exact ⟨_, _, stationOctet_of_carried carried o⟩

theorem stationOctet_setTrunk (s : State) (k : Trunk) (f : Framer) (c : Circuit) (o : Octet) :
    (s.setTrunk k f).stationOctet c o = (s.stationOctet c o).setTrunk k f := by
  have view : (s.setTrunk k f).carries c = s.carries c := rfl
  cases carried : s.carries c with
  | false =>
    rw [stationOctet_of_uncarried carried, stationOctet_of_uncarried (view.trans carried)]
  | true =>
    rw [stationOctet_of_carried carried, stationOctet_of_carried (view.trans carried)]
    rfl

/-! ## The slot octets of a frame, from a slot on -/

/-- R49: the octets of the station slots of a trunk, from a slot on, at the slot exchange. -/
def stationOctets (k : Trunk) : Nat → List Octet → State → State
  | _, [], s => s
  | n, o :: os, s =>
    stationOctets k (n + 1) os (s.stationOctet (circuitAt k ⟨n % 16, Nat.mod_lt _ (by omega)⟩) o)

theorem stationOctets_eq (k : Trunk) (n : Nat) (os : List Octet) (s : State) :
    ∃ r x, stationOctets k n os s = { s with routes := r, exch := x } := by
  induction os generalizing n s with
  | nil => exact ⟨s.routes, s.exch, rfl⟩
  | cons o os ih =>
    obtain ⟨r, x, one⟩ := stationOctet_eq s (circuitAt k ⟨n % 16, Nat.mod_lt _ (by omega)⟩) o
    rw [stationOctets, one]
    exact ih (n + 1) { s with routes := r, exch := x }

theorem stationOctets_setTrunk (k : Trunk) (f : Framer) (n : Nat) (os : List Octet) (s : State) :
    stationOctets k n os (s.setTrunk k f) = (stationOctets k n os s).setTrunk k f := by
  induction os generalizing n s with
  | nil => rfl
  | cons o os ih => rw [stationOctets, stationOctets, stationOctet_setTrunk, ih]

theorem setTrunk_setTrunk (s : State) (k : Trunk) (f f' : Framer) :
    (s.setTrunk k f).setTrunk k f' = s.setTrunk k f' := by
  simp [setTrunk]

theorem setTrunk_self (s : State) (k : Trunk) : s.setTrunk k (s.trunk k) = s := by
  simp [setTrunk, trunk]

/-- R49: the octets that follow the alignment octet of an aligned frame. -/
theorem foldl_trunkOctet_of_aligned {k : Trunk} (os : List Octet) {n : Nat} {s : State}
    (aligned : (s.trunk k).state = .aligned) (pos : (s.trunk k).pos = (n + 1) % 17)
    (fits : n + os.length ≤ 16) :
    os.foldl (fun s o => s.trunkOctet k o) s = (stationOctets k n os s).setTrunk k
      { s.trunk k with pos := (n + os.length + 1) % 17 } := by
  induction os generalizing n s with
  | nil =>
    rw [List.foldl_nil, stationOctets, List.length_nil, Nat.add_zero, ← pos]
    exact (setTrunk_self s k).symm
  | cons o os ih =>
    rw [List.length_cons] at fits
    have place : (s.trunk k).pos = n + 1 := by rw [pos]; omega
    have octet : s.trunkOctet k o =
        (s.stationOctet (circuitAt k ⟨n % 16, Nat.mod_lt _ (by omega)⟩) o).setTrunk k
          { s.trunk k with pos := (n + 1 + 1) % 17 } := by
      rw [← stationOctet_setTrunk]
      simp only [trunkOctet, aligned, place, Nat.add_one_ne_zero, if_false, Framer.advance,
        Nat.add_sub_cancel]
    rw [List.foldl_cons, octet, ih (n := n + 1)]
    · rw [trunk_setTrunk_self, stationOctets_setTrunk, setTrunk_setTrunk, stationOctets, List.length_cons,
        show n + (os.length + 1) = n + 1 + os.length by omega]
    · rw [trunk_setTrunk_self]; exact aligned
    · rw [trunk_setTrunk_self]
    · omega

theorem carries_stationOctet (s : State) (c d : Circuit) (o : Octet) :
    (s.stationOctet c o).carries d = s.carries d := by
  have view : (s.stationOctet c o).exch.view = s.exch.view := by
    rw [exch_stationOctet]; split <;> rfl
  have lost : ((s.stationOctet c o).route d).stationLost = (s.route d).stationLost := by
    rw [route_stationOctet]
    split_ifs with here
    · rw [Route.marked_stationLost, here.1]
    · rfl
  simp only [carries, view, lost]

theorem toHost_stationOctet (s : State) (c d : Circuit) (o : Octet) :
    (s.stationOctet c o).exch.toHost[d] =
      if d = c ∧ s.carries c = true then some o else s.exch.toHost[d] := by
  cases carried : s.carries c with
  | false => rw [stationOctet_of_uncarried carried]; simp
  | true =>
    rw [stationOctet_of_carried carried]
    by_cases same : d = c
    · simp [same]
    · simp [same, Fin.val_ne_of_ne (Ne.symm same)]

/-- R8: a circuit whose slot does not follow, or that is not carried, is left as it is. -/
theorem stationOctets_outside {k : Trunk} (os : List Octet) {n : Nat} {s : State} {d : Circuit}
    (fits : n + os.length ≤ 16)
    (outside : trunkOf d = k → n ≤ (stationSlotOf d).val → s.carries d = false) :
    (stationOctets k n os s).exch.toHost[d] = s.exch.toHost[d] ∧
    (stationOctets k n os s).route d = s.route d := by
  induction os generalizing n s with
  | nil => exact ⟨rfl, rfl⟩
  | cons o os ih =>
    rw [List.length_cons] at fits
    have here : ¬ (d = circuitAt k ⟨n % 16, Nat.mod_lt _ (by omega)⟩ ∧
        s.carries (circuitAt k ⟨n % 16, Nat.mod_lt _ (by omega)⟩) = true) := by
      rintro ⟨rfl, carried⟩
      rw [outside (by simp) (by simp; omega)] at carried
      cases carried
    obtain ⟨toHost, route⟩ := ih (n := n + 1)
      (s := s.stationOctet (circuitAt k ⟨n % 16, Nat.mod_lt _ (by omega)⟩) o) (by omega)
      fun onTrunk after => (carries_stationOctet s _ d o).trans (outside onTrunk (by omega))
    rw [stationOctets, toHost, route, toHost_stationOctet, route_stationOctet, if_neg here, if_neg here]
    exact ⟨rfl, rfl⟩

/-- R8, R131: a carried circuit takes the octet of its slot. -/
theorem stationOctets_carried {k : Trunk} (os : List Octet) {n : Nat} {s : State} {d : Circuit}
    (fits : n + os.length ≤ 16) (carried : s.carries d = true) (onTrunk : trunkOf d = k)
    (after : n ≤ (stationSlotOf d).val) (before : (stationSlotOf d).val < n + os.length) :
    (stationOctets k n os s).exch.toHost[d] = some (octetAt os ((stationSlotOf d).val - n)) ∧
    (stationOctets k n os s).route d =
      (s.route d).marked (s.codeOctet .blockEndCode) (octetAt os ((stationSlotOf d).val - n)) := by
  induction os generalizing n s with
  | nil => rw [List.length_nil] at before; omega
  | cons o os ih =>
    rw [List.length_cons] at fits before
    rw [stationOctets]
    by_cases here : (stationSlotOf d).val = n
    · have same : d = circuitAt k ⟨n % 16, Nat.mod_lt _ (by omega)⟩ := by
        rw [← onTrunk, ← circuitAt_trunkOf d]
        simp only [trunkOf_circuitAt]
        congr 1
        exact Fin.ext (by simp only [here]; omega)
      obtain ⟨toHost, route⟩ := stationOctets_outside (d := d) (k := k) os (n := n + 1)
        (s := s.stationOctet (circuitAt k ⟨n % 16, Nat.mod_lt _ (by omega)⟩) o) (by omega)
        fun _ late => absurd late (by omega)
      rw [toHost, route, toHost_stationOctet, route_stationOctet, ← same, if_pos ⟨rfl, carried⟩,
        if_pos ⟨rfl, carried⟩, here, Nat.sub_self, octetAt_cons_zero]
      exact ⟨rfl, rfl⟩
    · have other : ¬ (d = circuitAt k ⟨n % 16, Nat.mod_lt _ (by omega)⟩ ∧
          s.carries (circuitAt k ⟨n % 16, Nat.mod_lt _ (by omega)⟩) = true) := by
        rintro ⟨same, -⟩
        refine here ?_
        rw [same, stationSlotOf_circuitAt]
        exact Nat.mod_eq_of_lt (by omega)
      obtain ⟨toHost, route⟩ := ih (n := n + 1)
        (s := s.stationOctet (circuitAt k ⟨n % 16, Nat.mod_lt _ (by omega)⟩) o) (by omega)
        ((carries_stationOctet s _ d o).trans carried) (by omega) (by omega)
      obtain ⟨r, x, frame⟩ := stationOctet_eq s (circuitAt k ⟨n % 16, Nat.mod_lt _ (by omega)⟩) o
      have code : (s.stationOctet (circuitAt k ⟨n % 16, Nat.mod_lt _ (by omega)⟩) o).codeOctet
          .blockEndCode = s.codeOctet .blockEndCode := by rw [frame]; rfl
      rw [toHost, route, route_stationOctet, if_neg other, code,
        show (stationSlotOf d).val - n = (stationSlotOf d).val - (n + 1) + 1 by omega, octetAt_cons_succ]
      exact ⟨rfl, rfl⟩

theorem exch_stationOctets (k : Trunk) (n : Nat) (os : List Octet) (s : State) :
    (stationOctets k n os s).exch =
      { s.exch with toHost := (stationOctets k n os s).exch.toHost } := by
  induction os generalizing n s with
  | nil => rfl
  | cons o os ih =>
    rw [stationOctets, ih, exch_stationOctet]
    split <;> rfl

/-- R8, R49, R129, R131: the sixteen slot octets of a delivered frame. -/
theorem stationOctets_delivered (k : Trunk) {os : List Octet} (length : os.length = 16) (s : State) :
    StationOctetsDelivered s (stationOctets k 0 os s) k os := by
  refine ⟨exch_stationOctets k 0 os s, fun c => ⟨fun ⟨view, onTrunk, kept⟩ => ?_, fun out => ?_⟩⟩
  · have carried : s.carries c = true := (carries_iff s c).mpr ⟨view, kept⟩
    obtain ⟨toHost, route⟩ := stationOctets_carried os (n := 0) (by omega) carried onTrunk (Nat.zero_le _)
      (by omega)
    rw [Nat.sub_zero] at toHost route
    exact ⟨toHost, fun cur m staged seen blockEnd => route.trans (Route.marked_of_blockEnd staged seen blockEnd),
      fun quiet => route.trans (Route.marked_of_no_blockEnd quiet)⟩
  · refine stationOctets_outside os (n := 0) (by omega) fun onTrunk _ => ?_
    rw [Bool.eq_false_iff]
    intro carried
    obtain ⟨view, kept⟩ := (carries_iff s c).mp carried
    exact out ⟨view, onTrunk, kept⟩

end State

end Sys2Proof.Machine
end

section
/-! STATION_FRAME (R51, R52, R59), and loss and return of signal at a trunk and at a path port (R53, R64). -/

namespace Sys2Proof.Machine.State

variable {s : State}

theorem exec_stationFrame (s : State) (k : Trunk) (os : List Octet) :
    exec (.stationFrame k os) s = .next (os.foldl (fun s o => s.trunkOctet k o) s) := rfl

/-! ## The octet in the alignment position -/

theorem trunkOctet_of_good {k : Trunk} (aligned : (s.trunk k).state = .aligned) (pos : (s.trunk k).pos = 0) :
    s.trunkOctet k 0x9B = s.setTrunk k { s.trunk k with badRun := 0, pos := 1 } := by
  simp only [trunkOctet, aligned, pos, if_true, trunkAlignment, goodTrunk, beq_self_eq_true, Framer.advance]

theorem goodTrunk_eq_false {o : Octet} (bad : o ≠ 0x9B) : goodTrunk o = false := by
  simpa [goodTrunk] using bad

theorem trunkOctet_of_bad {k : Trunk} (aligned : (s.trunk k).state = .aligned) (pos : (s.trunk k).pos = 0)
    {o : Octet} (bad : o ≠ 0x9B) (run : (s.trunk k).badRun < 2) :
    s.trunkOctet k o = s.setTrunk k { s.trunk k with badRun := (s.trunk k).badRun + 1, pos := 1 } := by
  simp only [trunkOctet, aligned, pos, if_true, trunkAlignment, goodTrunk_eq_false bad, Bool.false_eq_true,
    if_false, run, Framer.advance]

theorem trunkOctet_of_third {k : Trunk} (aligned : (s.trunk k).state = .aligned) (pos : (s.trunk k).pos = 0)
    {o : Octet} (bad : o ≠ 0x9B) (run : 2 ≤ (s.trunk k).badRun) :
    s.trunkOctet k o = (s.setTrunk k ((s.trunk k).lose .hunting)).setStationLost k true := by
  simp only [trunkOctet, aligned, pos, if_true, trunkAlignment, goodTrunk_eq_false bad, Bool.false_eq_true,
    if_false, not_lt.mpr run]

theorem trunkOctet_of_confirmed {k : Trunk} (hunting : (s.trunk k).state = .hunting)
    (candidate : (s.trunk k).candidates[16]? = some true) :
    s.trunkOctet k 0x9B = (s.setTrunk k (s.trunk k).align).setStationLost k false := by
  have confirms : (s.trunk k).confirms 17 (goodTrunk 0x9B) = true := by
    simp [Framer.confirms, goodTrunk, candidate]
  simp only [trunkOctet, hunting, confirms, if_true]

/-- R51: a receiver that has kept fewer than 17 candidates confirms none. -/
theorem foldl_trunkOctet_of_hunting {k : Trunk} (os : List Octet) {s : State}
    (hunting : (s.trunk k).state = .hunting) (few : (s.trunk k).candidates.length + os.length ≤ 16) :
    ∃ l, os.foldl (fun s o => s.trunkOctet k o) s = s.setTrunk k { s.trunk k with candidates := l } := by
  induction os generalizing s with
  | nil => exact ⟨(s.trunk k).candidates, (setTrunk_self s k).symm⟩
  | cons o os ih =>
    rw [List.length_cons] at few
    have unconfirmed : (s.trunk k).confirms 17 (goodTrunk o) = false := by
      rw [Framer.confirms, List.getElem?_eq_none (by omega)]
      simp
    have octet : s.trunkOctet k o = s.setTrunk k ((s.trunk k).search 17 (goodTrunk o)) := by
      simp only [trunkOctet, hunting, unconfirmed, Bool.false_eq_true, if_false]
    rw [List.foldl_cons, octet]
    obtain ⟨l, rest⟩ := ih (s := s.setTrunk k ((s.trunk k).search 17 (goodTrunk o)))
      (by rw [trunk_setTrunk_self]; exact hunting)
      (by rw [trunk_setTrunk_self]; simp only [Framer.search, List.length_take, List.length_cons]; omega)
    exact ⟨l, by rw [rest, trunk_setTrunk_self, setTrunk_setTrunk]; rfl⟩

/-! ## The frame -/

theorem route_setStationLost (k : Trunk) (b : Bool) (c : Circuit) : (s.setStationLost k b).route c =
    if trunkOf c = k then { s.route c with stationLost := b } else s.route c := by
  simp [setStationLost, route]

theorem setStationLost_trunk (s : State) (k j : Trunk) (b : Bool) :
    (s.setStationLost k b).trunk j = s.trunk j := by
  simp [trunk]

theorem setStationLost_eq (s : State) (k : Trunk) (b : Bool) :
    ∃ r, s.setStationLost k b = { s with routes := r } := ⟨_, rfl⟩

/-- R49: the sixteen octets after an alignment octet that has left the receiver ALIGNED. -/
theorem foldl_trunkOctet_of_delivered {k : Trunk} {f : Framer} {os : List Octet} (length : os.length = 16)
    (aligned : f.state = .aligned) (pos : f.pos = 1) (u : State) :
    os.foldl (fun s o => s.trunkOctet k o) (u.setTrunk k f) =
      (stationOctets k 0 os u).setTrunk k { f with pos := 0 } := by
  rw [foldl_trunkOctet_of_aligned os (n := 0) (by rw [trunk_setTrunk_self]; exact aligned)
    (by rw [trunk_setTrunk_self]; exact pos) (by omega), stationOctets_setTrunk, setTrunk_setTrunk,
    trunk_setTrunk_self, length]

/-- R49: what a delivered frame leaves: its framer at the frame's end, the other trunks, and its octets on their
paths. -/
theorem delivered_frame (k : Trunk) (f : Framer) {os : List Octet} (length : os.length = 16) (u : State) :
    ((stationOctets k 0 os u).setTrunk k f = { u with
      trunks := ((stationOctets k 0 os u).setTrunk k f).trunks
      routes := ((stationOctets k 0 os u).setTrunk k f).routes
      exch := ((stationOctets k 0 os u).setTrunk k f).exch }) ∧
    (∀ j, j ≠ k → ((stationOctets k 0 os u).setTrunk k f).trunk j = u.trunk j) ∧
    StationOctetsDelivered u ((stationOctets k 0 os u).setTrunk k f) k os := by
  have delivered := stationOctets_delivered k length u
  obtain ⟨r, x, frame⟩ := stationOctets_eq k 0 os u
  refine ⟨by rw [frame]; rfl, fun j ne => ?_, delivered⟩
  rw [trunk_setTrunk_ne _ ne, frame]
  rfl

/-- R8: station-lost is not changed by the octets of a frame. -/
theorem stationOctets_stationLost (k : Trunk) (os : List Octet) (n : Nat) (s : State) (c : Circuit) :
    ((stationOctets k n os s).route c).stationLost = (s.route c).stationLost := by
  induction os generalizing n s with
  | nil => rfl
  | cons o os ih =>
    rw [stationOctets, ih, route_stationOctet]
    split_ifs with here
    · rw [Route.marked_stationLost, here.1]
    · rfl

/-- R8: the circuits of the other trunks keep their routes. -/
theorem stationOctets_route_other {k : Trunk} {os : List Octet} (length : os.length = 16) (s : State)
    {c : Circuit} (other : trunkOf c ≠ k) : (stationOctets k 0 os s).route c = s.route c :=
  (stationOctets_outside os (n := 0) (by omega) fun here => absurd here other).2

end Sys2Proof.Machine.State

section

open Sys2Proof Sys2Proof.Machine Sys2Proof.Machine.State

/-- Settles O8: the alignment octet ends the bad run, and the sixteen octets after it are delivered. -/
theorem stationFrameDelivered : Obligations.StationFrameDelivered := by
  intro s k os aligned pos length
  obtain ⟨frame, others, delivered⟩ := delivered_frame k { s.trunk k with badRun := 0, pos := 0 } length s
  refine ⟨_, exec_stationFrame s k _, ?_⟩
  rw [List.foldl_cons, trunkOctet_of_good aligned pos,
    foldl_trunkOctet_of_delivered (f := { s.trunk k with badRun := 0, pos := 1 }) length aligned rfl]
  refine ⟨frame, ?_, others, delivered⟩
  rw [trunk_setTrunk_self, ← pos]

/-- Settles O9: the third bad alignment octet in a row loses alignment, and a confirmed candidate finds it. -/
theorem trunkAlignmentLostAndFound : Obligations.TrunkAlignmentLostAndFound := by
  refine ⟨fun s k o os aligned pos bad length => ?lost, fun s k os u hunting candidate length hu => ?found⟩
  case lost =>
    refine ⟨_, exec_stationFrame s k _, ?_⟩
    rw [List.foldl_cons]
    by_cases run : (s.trunk k).badRun < 2
    · obtain ⟨frame, others, delivered⟩ := delivered_frame k
        { s.trunk k with badRun := (s.trunk k).badRun + 1, pos := 0 } length s
      rw [trunkOctet_of_bad aligned pos bad run, foldl_trunkOctet_of_delivered
        (f := { s.trunk k with badRun := (s.trunk k).badRun + 1, pos := 1 }) length aligned rfl]
      refine ⟨frame, others, fun c other => stationOctets_route_other length s other,
        fun _ => ⟨?_, delivered⟩, fun third => absurd run (not_lt.mpr third)⟩
      rw [trunk_setTrunk_self, ← pos]
    · have lost : ((s.setTrunk k ((s.trunk k).lose .hunting)).setStationLost k true).trunk k =
          (s.trunk k).lose .hunting := by rw [setStationLost_trunk, trunk_setTrunk_self]
      obtain ⟨l, rest⟩ := foldl_trunkOctet_of_hunting (k := k) os
        (s := (s.setTrunk k ((s.trunk k).lose .hunting)).setStationLost k true)
        (congrArg Framer.state lost)
        ((congrArg (fun f => f.candidates.length + os.length) lost).trans_le (by simp [Framer.lose, length]))
      rw [trunkOctet_of_third aligned pos bad (not_lt.mp run), rest]
      refine ⟨?_, fun j ne => ?_, fun c other => ?_, fun low => absurd low run, fun _ => ⟨?_, ?_, ?_,
        fun c here => ?_⟩⟩
      · obtain ⟨r, shape⟩ := setStationLost_eq (s.setTrunk k ((s.trunk k).lose .hunting)) k true
        rw [shape]
        rfl
      · rw [trunk_setTrunk_ne _ ne, setStationLost_trunk, trunk_setTrunk_ne s ne]
      · exact (route_setStationLost k true c).trans (if_neg other)
      · rw [trunk_setTrunk_self]
        exact congrArg Framer.state lost
      · rw [trunk_setTrunk_self]
        exact congrArg Framer.badRun lost
      · simp
      · exact (route_setStationLost k true c).trans (if_pos here)
  case found =>
    have aligned : s.trunkOctet k 0x9B = u.setTrunk k (s.trunk k).align := by
      rw [trunkOctet_of_confirmed hunting candidate, hu]
      rfl
    have lost (c : Circuit) : u.route c =
        if trunkOf c = k then { s.route c with stationLost := false } else s.route c := by
      rw [hu]
      exact route_setStationLost k false c
    obtain ⟨frame, others, delivered⟩ := delivered_frame k { (s.trunk k).align with pos := 0 } length u
    refine ⟨_, exec_stationFrame s k _, ?_⟩
    rw [List.foldl_cons, aligned, foldl_trunkOctet_of_delivered length rfl rfl]
    refine ⟨?_, ?_, fun j ne => ?_, fun i => ?_, fun c other => ?_, delivered⟩
    · rw [frame, hu]
    · rw [trunk_setTrunk_self]; rfl
    · rw [others j ne, hu]
      exact setStationLost_trunk s k j false
    · refine (stationOctets_stationLost k os 0 u _).trans ?_
      rw [lost, if_pos (trunkOf_circuitAt k i)]
    · exact (stationOctets_route_other length u other).trans ((lost c).trans (if_neg other))

/-- Settles O13: the loss of signal at a trunk by whether it was ALIGNED, and the return of signal. -/
theorem trunkLosAndLosEnd : Obligations.TrunkLosAndLosEnd := by
  refine ⟨fun s k due signal => ?onset, fun s p due lost line => ?pathEnd, fun s k due lost => ?trunkEnd⟩
  case onset =>
    have run : exec (.losOnset (.trunk k)) s = .next (s.trunkLosOnset k) := by
      simp only [exec, execLosOnset, onsetDue, due]
      rfl
    have self (u : State) : (u.setTrunk k ((s.trunk k).lose .noSignal)).trunk k =
        (s.trunk k).lose .noSignal := trunk_setTrunk_self u k _
    refine ⟨_, run, ?_⟩
    cases state : (s.trunk k).state with
    | noSignal => exact absurd state signal
    | hunting =>
      simp only [trunkLosOnset, state]
      refine ⟨rfl, ?_, ?_, fun j ne => trunk_setTrunk_ne s ne _, fun c => ?_⟩
      · rw [self]; rfl
      · rw [self]; rfl
      · rw [if_neg (by simp)]; rfl
    | aligned =>
      simp only [trunkLosOnset, state]
      refine ⟨?_, ?_, ?_, fun j ne => ?_, fun c => ?_⟩
      · obtain ⟨r, shape⟩ := setStationLost_eq (s.setTrunk k ((s.trunk k).lose .noSignal)) k true
        rw [shape]
        rfl
      · rw [setStationLost_trunk, self]; rfl
      · rw [setStationLost_trunk, self]; rfl
      · rw [setStationLost_trunk, trunk_setTrunk_ne s ne]
      · simp only [and_true]
        exact route_setStationLost k true c
  case pathEnd =>
    have run : exec (.losEnd (.path p)) s = .next
        ((s.setPathRx p { s.pathRx p with framer := (s.pathRx p).framer.lose .hunting }).losEndHealth p) := by
      simp only [exec, execLosEnd, endDue, due, lost, line, Bool.not_false]
      rfl
    have self := pathRx_setPathRx_self s p
      { s.pathRx p with framer := (s.pathRx p).framer.lose .hunting }
    refine ⟨_, run, rfl, ?_, ?_, ?_, fun q ne => ?_⟩
    · exact congrArg (fun r => r.framer.state) self
    · have ready := congrArg PathRx.farEndReady self
      exact ready
    · have formRun := congrArg PathRx.formRun self
      exact formRun
    · exact pathRx_setPathRx_ne s ne _
  case trunkEnd =>
    have run : exec (.losEnd (.trunk k)) s = .next (s.setTrunk k ((s.trunk k).lose .hunting)) := by
      simp only [exec, execLosEnd, endDue, due, lost]
      rfl
    refine ⟨_, run, rfl, ?_, fun j ne => trunk_setTrunk_ne s ne _⟩
    rw [trunk_setTrunk_self]
    rfl

end

end

section
/-! PATH_FRAME and the checker's octet: the counterexample to O11. -/

namespace Sys2Proof.Machine

/-- A state that the laws of the probes exclude: the checker serves port 0 while a second entry of the same port
waits. The port is UP at the highest score, and its receiver has had two bad alignment octets in a row. -/
def servedTwice : State :=
  { State.reset with
    rx := State.reset.rx.set 0 { State.reset.pathRx 0 with
      framer := { (State.reset.pathRx 0).framer with state := .aligned, badRun := 2, pos := 0 } }
    ports := State.reset.ports.set 0 { State.reset.port 0 with state := .up, h := 4095 }
    checker := { State.reset.checker with
      state := .counting ⟨0, .demand⟩, queue := [⟨0, .demand⟩], returned := some 0x55 } }

/-- The checker of a state that an event leaves. -/
def checkerAfter : Host.Outcome State Fault Refusal → Option Checker
  | .next t => some t.checker
  | _ => none

set_option maxRecDepth 100000 in
/-- The third bad octet takes port 0 out of service and cancels its probe; the checker then takes the second entry
of the port, with no octet returned. -/
theorem checkerAfter_servedTwice :
    (checkerAfter (exec (.pathFrame 0 (List.replicate 33 0x00)) servedTwice)).map
      (fun k => (k.runsOn 0, k.returned)) = some (true, none) := by
  decide

end Sys2Proof.Machine

section

open Sys2Proof Sys2Proof.Machine Sys2Proof.Machine.State

/-- Refutes O11: when the third bad alignment octet in a row takes an UP port out of service, its probe is cancelled
and the checker takes the oldest entry. Without the laws of the probes that entry can be of the same port, and the
checker then runs on the port with no octet returned, where the statement wants the octet of before. -/
theorem not_alignmentOctetJudged : ¬ Obligations.AlignmentOctetJudged := by
  rintro ⟨-, bad, -⟩
  obtain ⟨t, run, -, -, -, -, -, -, third⟩ := bad servedTwice 0 0x00 (List.replicate 32 0x00)
    (servedTwice.takeAllEnded 0) rfl rfl rfl rfl (by decide) (by decide) rfl
  obtain ⟨-, -, -, returned, -⟩ := third (by decide)
  have after := checkerAfter_servedTwice
  rw [show List.replicate 33 (0x00 : Octet) = 0x00 :: List.replicate 32 0x00 from rfl, run, checkerAfter,
    Option.map_some, Option.some_inj, Prod.mk.injEq] at after
  obtain ⟨serves, none⟩ := after
  rw [returned serves, takeAllEnded_of_nil servedTwice rfl] at none
  cases none

end

end

section
/-! The slot octets of an aligned frame at a path port (R7, R49, R130, R160), and PATH_FRAME with a good alignment
octet (R54). -/

namespace Sys2Proof.Machine.State

variable {s : State}

/-! ## One slot octet -/

theorem toStation_trafficOctet (q : PathSlot) (o : Octet) (c : Circuit) :
    (s.trafficOctet q o).exch.toStation[c] =
      if s.exch.map[q.index] = some ⟨c, .current⟩ then some o else s.exch.toStation[c] := by
  unfold trafficOctet
  split
  case h_1 d held =>
    by_cases same : d = c
    · subst same; simp [held]
    · simp [held, same, Fin.val_ne_of_ne same]
  case h_2 none =>
    rw [if_neg fun held => none c held]

theorem trafficOctet_eq (s : State) (q : PathSlot) (o : Octet) :
    ∃ x, s.trafficOctet q o = { s with exch := { s.exch with toStation := x } } := by
  unfold trafficOctet
  split
  · exact ⟨_, rfl⟩
  · exact ⟨s.exch.toStation, rfl⟩

theorem probeOctet_eq (s : State) (p : Port) (o : Octet) :
    s.probeOctet p o = { s with checker := { s.checker with
      returned := if s.checker.runsOn p then some o else s.checker.returned } } := by
  unfold probeOctet
  split_ifs <;> rfl

theorem controlOctet_setControl (s : State) (p : Port) (o : Octet) :
    s.controlOctet p o = s.setControl p ((s.controlOctet p o).control p) := by
  simp [controlOctet]

/-! ## The slot octets from a place of the frame on -/

/-- R49: the octets of a path frame from a place on, delivered. -/
def slotOctets (p : Port) : Nat → List Octet → State → State
  | _, [], s => s
  | n, o :: os, s => slotOctets p (n + 1) os (s.deliver p n o)

theorem deliver_setPathRx (s : State) (p q : Port) (r : PathRx) (n : Nat) (o : Octet) :
    (s.setPathRx q r).deliver p n o = (s.deliver p n o).setPathRx q r := by
  unfold deliver
  split_ifs
  · rfl
  · rw [probeOctet_eq, probeOctet_eq]
    rfl
  · have map : (s.setPathRx q r).exch = s.exch := rfl
    simp only [trafficOctet, map]
    generalize s.exch.map[(⟨p, ⟨(n - 2) % 30, Nat.mod_lt _ (by omega)⟩⟩ : PathSlot).index] = x
    rcases x with _ | ⟨c, _ | _⟩ <;> rfl

theorem slotOctets_setPathRx (p q : Port) (r : PathRx) (n : Nat) (os : List Octet) (s : State) :
    slotOctets p n os (s.setPathRx q r) = (slotOctets p n os s).setPathRx q r := by
  induction os generalizing n s with
  | nil => rfl
  | cons o os ih => rw [slotOctets, slotOctets, deliver_setPathRx, ih]

theorem setPathRx_setPathRx (s : State) (p : Port) (r r' : PathRx) :
    (s.setPathRx p r).setPathRx p r' = s.setPathRx p r' := by
  simp [setPathRx]

theorem setPathRx_self (s : State) (p : Port) : s.setPathRx p (s.pathRx p) = s := by
  simp [setPathRx, pathRx]

/-- A receiver at a place of its frame. -/
def PathRx.atPlace (r : PathRx) (n : Nat) : PathRx := { r with framer := { r.framer with pos := n } }

/-- R49: the octets that follow the alignment octet of an aligned frame. -/
theorem foldl_pathOctet_of_aligned {p : Port} (os : List Octet) {n : Nat} {s : State}
    (aligned : (s.pathRx p).framer.state = .aligned) (pos : (s.pathRx p).framer.pos = n % 33)
    (start : 1 ≤ n) (fits : n + os.length ≤ 33) :
    os.foldl (fun s o => s.pathOctet p o) s =
      (slotOctets p n os s).setPathRx p (PathRx.atPlace (s.pathRx p) ((n + os.length) % 33)) := by
  induction os generalizing n s with
  | nil =>
    rw [List.foldl_nil, slotOctets, List.length_nil, Nat.add_zero, PathRx.atPlace, ← pos]
    exact (setPathRx_self s p).symm
  | cons o os ih =>
    rw [List.length_cons] at fits
    have place : (s.pathRx p).framer.pos = n := by rw [pos]; omega
    have inside : n ≠ 0 := by omega
    have octet : s.pathOctet p o =
        (s.deliver p n o).setPathRx p (PathRx.atPlace (s.pathRx p) ((n + 1) % 33)) := by
      rw [← deliver_setPathRx]
      simp only [pathOctet, aligned, place, inside, if_false, Framer.advance, PathRx.atPlace]
    rw [List.foldl_cons, octet, ih (n := n + 1)]
    · rw [pathRx_setPathRx_self, slotOctets_setPathRx, setPathRx_setPathRx, slotOctets, List.length_cons,
        show n + (os.length + 1) = n + 1 + os.length by omega]
      rfl
    · rw [pathRx_setPathRx_self]; exact aligned
    · rw [pathRx_setPathRx_self]; rfl
    · omega
    · omega

/-! ### The traffic octets and the probe octet -/

theorem deliver_of_traffic (s : State) (p : Port) {n : Nat} (after : 2 ≤ n) (before : n < 32) (o : Octet) :
    s.deliver p n o = s.trafficOctet ⟨p, ⟨n - 2, by omega⟩⟩ o := by
  unfold deliver
  rw [if_neg (by omega), if_neg (by omega)]
  congr 2
  exact Fin.ext (Nat.mod_eq_of_lt (by omega))

theorem deliver_of_last (s : State) (p : Port) (o : Octet) : s.deliver p 32 o = s.probeOctet p o := by
  unfold deliver
  rw [if_neg (by omega), if_pos rfl]

theorem deliver_of_control (s : State) (p : Port) (o : Octet) : s.deliver p 1 o = s.controlOctet p o := by
  unfold deliver
  rw [if_pos rfl]

/-- R49: after slot 0 a frame touches the octets to the stations and the checker's octet alone. -/
theorem slotOctets_eq (p : Port) (os : List Octet) {n : Nat} (after : 2 ≤ n) (fits : n + os.length = 33)
    (s : State) : ∃ x, slotOctets p n os s = { s with
      exch := { s.exch with toStation := x }
      checker := { s.checker with
        returned := if n ≤ 32 ∧ s.checker.runsOn p = true then some (octetAt os (32 - n))
          else s.checker.returned } } := by
  induction os generalizing n s with
  | nil =>
    rw [List.length_nil] at fits
    rw [if_neg (by omega)]
    exact ⟨s.exch.toStation, rfl⟩
  | cons o os ih =>
    rw [List.length_cons] at fits
    rw [slotOctets]
    by_cases last : n = 32
    · subst last
      have none : os = [] := List.eq_nil_of_length_eq_zero (by omega)
      subst none
      rw [deliver_of_last, slotOctets, probeOctet_eq]
      exact ⟨s.exch.toStation, by simp⟩
    · obtain ⟨x, one⟩ := trafficOctet_eq s ⟨p, ⟨n - 2, by omega⟩⟩ o
      obtain ⟨y, rest⟩ := ih (n := n + 1) (by omega) (by omega) (s.deliver p n o)
      rw [rest, deliver_of_traffic s p after (by omega), one]
      refine ⟨y, ?_⟩
      rw [show 32 - n = 32 - (n + 1) + 1 by omega, octetAt_cons_succ]
      simp only [show n + 1 ≤ 32 by omega, show n ≤ 32 by omega]

theorem map_deliver (s : State) (p : Port) {n : Nat} (after : 2 ≤ n) (before : n ≤ 32) (o : Octet) :
    (s.deliver p n o).exch.map = s.exch.map := by
  by_cases last : n = 32
  · subst last; rw [deliver_of_last, probeOctet_eq]
  · obtain ⟨x, one⟩ := trafficOctet_eq s ⟨p, ⟨n - 2, by omega⟩⟩ o
    rw [deliver_of_traffic s p after (by omega), one]

/-- R7: the octet of a place, when it is not one that the circuit takes. -/
theorem toStation_deliver_other (p : Port) {n : Nat} (after : 2 ≤ n) (before : n ≤ 32) (o : Octet) {c : Circuit}
    (none : ∀ m : Slot, m.val + 2 = n → s.exch.map[(⟨p, m⟩ : PathSlot).index] ≠ some ⟨c, .current⟩) :
    (s.deliver p n o).exch.toStation[c] = s.exch.toStation[c] := by
  by_cases last : n = 32
  · subst last; rw [deliver_of_last, probeOctet_eq]
  · rw [deliver_of_traffic s p after (by omega), toStation_trafficOctet,
      if_neg (none ⟨n - 2, by omega⟩ (by simp only; omega))]

theorem toStation_slotOctets_other (p : Port) (os : List Octet) {n : Nat} (after : 2 ≤ n)
    (fits : n + os.length = 33) {s : State} {c : Circuit}
    (none : ∀ m : Slot, n ≤ m.val + 2 →
      s.exch.map[(⟨p, m⟩ : PathSlot).index] ≠ some ⟨c, .current⟩) :
    (slotOctets p n os s).exch.toStation[c] = s.exch.toStation[c] := by
  induction os generalizing n s with
  | nil => rfl
  | cons o os ih =>
    rw [List.length_cons] at fits
    rw [slotOctets, ih (by omega) (by omega)]
    · exact toStation_deliver_other p after (by omega) o fun m here => none m (by omega)
    · intro m late
      rw [map_deliver s p after (by omega)]
      exact none m (by omega)

/-- R7, R130: the circuit that holds one slot of the port as CURRENT takes the octet of that slot. -/
theorem toStation_slotOctets (p : Port) (os : List Octet) {n : Nat} (after : 2 ≤ n)
    (fits : n + os.length = 33) {s : State} {c : Circuit} {m : Slot} (late : n ≤ m.val + 2)
    (held : s.exch.map[(⟨p, m⟩ : PathSlot).index] = some ⟨c, .current⟩)
    (only : ∀ m' : Slot, s.exch.map[(⟨p, m'⟩ : PathSlot).index] = some ⟨c, .current⟩ → m' = m) :
    (slotOctets p n os s).exch.toStation[c] = some (octetAt os (m.val + 2 - n)) := by
  induction os generalizing n s with
  | nil => rw [List.length_nil] at fits; omega
  | cons o os ih =>
    rw [List.length_cons] at fits
    rw [slotOctets]
    have map := map_deliver s p after (by omega) o
    by_cases here : m.val + 2 = n
    · rw [toStation_slotOctets_other p os (by omega) (by omega), deliver_of_traffic s p after (by omega),
        toStation_trafficOctet, if_pos, here, Nat.sub_self, octetAt_cons_zero]
      · rw [show (⟨n - 2, by omega⟩ : Slot) = m from Fin.ext (by simp only; omega)]
        exact held
      · intro m' later
        rw [map]
        intro held'
        rw [only m' held'] at later
        omega
    · rw [ih (by omega) (by omega) (by omega) (by rw [map]; exact held) (by rw [map]; exact only),
        show m.val + 2 - n = m.val + 2 - (n + 1) + 1 by omega, octetAt_cons_succ]

/-- R49: what the 32 slot octets of a delivered frame leave. -/
theorem slotOctets_delivered (p : Port) {os : List Octet} (length : os.length = 32) (s : State) :
    (∃ c x r, slotOctets p 1 os s = { s with
      ctl := c, exch := { s.exch with toStation := x }, checker := { s.checker with returned := r } }) ∧
    SlotsDelivered s (slotOctets p 1 os s) p os := by
  obtain ⟨o, os, rfl⟩ : ∃ o l, os = o :: l := List.exists_cons_of_length_eq_add_one length
  have length : os.length = 31 := by simpa using length
  obtain ⟨x, rest⟩ := slotOctets_eq p os (n := 2) (by omega) (by omega) (s.controlOctet p o)
  have first : slotOctets p 1 (o :: os) s = slotOctets p 2 os (s.controlOctet p o) := by
    rw [slotOctets, deliver_of_control]
  rw [first]
  refine ⟨⟨_, x, _, by rw [rest, controlOctet_setControl]; rfl⟩, ?_, fun q ne => ?_, fun runs => ?_, fun idle => ?_, ?_,
    fun c none => ?_, fun c n held only => ?_⟩
  · rw [rest]; rfl
  · rw [rest]
    exact (congrArg (fun u : State => u.control q) (controlOctet_setControl s p o)).trans (control_setControl_ne s ne _)
  · rw [rest] at runs ⊢
    exact if_pos ⟨by omega, runs⟩
  · rw [rest]
    refine if_neg fun ⟨_, runs⟩ => ?_
    have runs : s.checker.runsOn p = true := runs
    rw [idle] at runs
    cases runs
  · rw [rest]; rfl
  · exact toStation_slotOctets_other p os (by omega) (by omega) fun m _ => none m
  · rw [toStation_slotOctets p os (s := s.controlOctet p o) (m := n) (n := 2) (by omega) (by omega) (by omega) held only,
      Nat.add_sub_cancel, octetAt_cons_succ]

end Sys2Proof.Machine.State
end

section
/-! PATH_FRAME with a good alignment octet (R54); LOS onset of a path port (R53, R64) and the departure of a port from
service (R13). -/

namespace Sys2Proof.Machine.State

variable {s : State}

/-! ## A good alignment octet (R54) -/

theorem exec_pathFrame_of_line {p : Port} (line : (s.port p).state.looped = false) (os : List Octet) :
    exec (.pathFrame p os) s = .next (os.foldl (fun s o => s.pathOctet p o) s) := by
  simp only [exec, execPathFrame, line, Bool.false_eq_true, if_false]

/-- R54: a frame whose form is not the fourth in a row of the opposite one changes no far-end ready. -/
theorem goodAlignment_of_counted {o : Octet} {agrees : Bool} (r : PathRx) (p : Port)
    (form : agrees = ((o == 0x9B) == r.farEndReady)) (few : agrees = false → r.formRun < 3) :
    s.goodAlignment p r o = s.setPathRx p { r with formRun := if agrees then 0 else r.formRun + 1 } := by
  cases agrees with
  | true => simp only [goodAlignment, takeForm, ← form, if_true, Bool.false_eq_true, if_false]
  | false =>
    simp only [goodAlignment, takeForm, ← form, Bool.false_eq_true, if_false, few rfl, if_true]

theorem goodPath_of_good {o : Octet} (good : o = 0x9B ∨ o = 0x9A) : goodPath o = true := by
  simpa [goodPath] using good

/-- R52: a good alignment octet of an aligned port. -/
theorem pathOctet_of_good {p : Port} (aligned : (s.pathRx p).framer.state = .aligned)
    (pos : (s.pathRx p).framer.pos = 0) {o : Octet} (good : o = 0x9B ∨ o = 0x9A) :
    s.pathOctet p o = s.goodAlignment p { s.pathRx p with
      framer := { (s.pathRx p).framer with badRun := 0, pos := 1 } } o := by
  simp only [pathOctet, aligned, pos, if_true, pathAlignment, goodPath_of_good good, Framer.advance]

/-- R49: the 32 octets after an alignment octet that has left the receiver ALIGNED. -/
theorem foldl_pathOctet_of_delivered {p : Port} {r : PathRx} {os : List Octet} (length : os.length = 32)
    (aligned : r.framer.state = .aligned) (pos : r.framer.pos = 1) (u : State) :
    os.foldl (fun s o => s.pathOctet p o) (u.setPathRx p r) =
      (slotOctets p 1 os u).setPathRx p (PathRx.atPlace r 0) := by
  rw [foldl_pathOctet_of_aligned os (n := 1) (by rw [pathRx_setPathRx_self]; exact aligned)
    (by rw [pathRx_setPathRx_self]; exact pos) le_rfl (by omega), slotOctets_setPathRx, setPathRx_setPathRx,
    pathRx_setPathRx_self, length]

/-! ## The departure of a port from service (R13) -/

theorem departed_eq_portDeparture (s : State) (p : Port) (x : PortState) :
    ∃ v : State, s.departed p x = v.portDeparture p ∧ v.routes = s.routes ∧ v.occ = s.occ ∧
      v.used = s.used ∧ v.sweep = s.sweep := by
  unfold departed
  split_ifs
  · exact ⟨_, rfl, by simp, by simp, by simp, by simp⟩
  · exact ⟨_, rfl, by simp, by simp, by simp, by simp⟩

/-- R13: what a departure leaves of the route table, the slot map and the sweep. -/
theorem leaveService_departure (s : State) (p : Port) (x : PortState) :
    (∀ c, (s.leaveService p x).route c = departRoute p (s.route c)) ∧
    (∀ q, (s.leaveService p x).holder q = s.departSlot p q) ∧
    (∀ q, (s.leaveService p x).usedCount q = if q = p then 0 else s.usedCount q) ∧
    (∀ c, (s.leaveService p x).queued c = (s.queued c || departJoins p (s.route c))) ∧
    (∀ c, (s.leaveService p x).strandedHas c = s.strandedHas c) := by
  obtain ⟨v, departs, routes, occ, used, sweep⟩ := departed_eq_portDeparture s p x
  have tables : (s.leaveService p x).routes = (v.portDeparture p).routes ∧
      (s.leaveService p x).occ = (v.portDeparture p).occ ∧
      (s.leaveService p x).used = (v.portDeparture p).used ∧
      (s.leaveService p x).sweep = (v.portDeparture p).sweep := by
    rw [leaveService_eq, departs]
    simp [latchIfLost_frame]
  obtain ⟨routes', occ', used', sweep'⟩ := tables
  have route (c : Circuit) : v.route c = s.route c := route_congr routes c
  refine ⟨fun c => ?_, fun q => ?_, fun q => ?_, fun c => ?_, fun c => ?_⟩
  · rw [route_congr routes', route_portDeparture, route]
  · rw [holder_congr occ', holder_portDeparture]
    simp only [departSlot, holder_congr occ, route]
  · rw [usedCount_congr used', usedCount_portDeparture, usedCount_congr used]
  · rw [queued_congr (congrArg Sweep.queued sweep'), queued_portDeparture, route,
      queued_congr (congrArg Sweep.queued sweep)]
  · rw [strandedHas_congr (congrArg Sweep.stranded sweep'), strandedHas_portDeparture,
      strandedHas_congr (congrArg Sweep.stranded sweep)]

/-! ## The exchange-lost latches (R155) -/

theorem departed_hosts (s : State) (p : Port) (x : PortState) : (s.departed p x).hosts = s.hosts := by
  unfold departed
  split_ifs <;> simp

theorem exchangeLost_eq (s : State) : s.exchangeLost = true ↔ ∀ q : Port, s.inService q = false := by
  simp [exchangeLost]

theorem latchIfLost_hostRecord (s : State) (h : HostId) : s.latchIfLost.hostRecord h =
    if s.exchangeLost then { s.hostRecord h with latch := true } else s.hostRecord h := by
  unfold latchIfLost
  split_ifs
  · simp [setLatches, hostRecord]
  · rfl

/-- R155: a departure that leaves no port in service sets the latch of every host. -/
theorem leaveService_latchesFollow (core : ProbeCore s) {p : Port} {x : PortState} (out : x.inService = false)
    (service : s.inService p = true) : LatchesFollow s (s.leaveService p x) p := fun h => by
  have ports (q : Port) : ((s.departed p x).cancelProbe p).port q = (s.leaveService p x).port q := by
    rw [leaveService_eq, latchIfLost_port]
  have self : ((s.departed p x).cancelProbe p).inService p = false := by
    rw [inService, ports, leaveService_port_self core, departedRecord_state]
    exact out
  have others {q : Port} (ne : q ≠ p) : ((s.departed p x).cancelProbe p).inService q = s.inService q := by
    rw [inService, ports]
    exact (leaveService_port_other core p x ne).inService
  have lost : ((s.departed p x).cancelProbe p).exchangeLost = true ↔
      s.inService p = true ∧ ∀ q : Port, q ≠ p → s.inService q = false := by
    rw [exchangeLost_eq]
    refine ⟨fun all => ⟨service, fun q ne => (others ne).symm.trans (all q)⟩, fun ⟨_, all⟩ q => ?_⟩
    by_cases same : q = p
    · rw [same]; exact self
    · exact (others same).trans (all q same)
  have record : ((s.departed p x).cancelProbe p).hostRecord h = s.hostRecord h := by
    simp only [hostRecord, (cancelProbe_frame _ p).2.2.2.2.2.2.2.2.2.2.1, departed_hosts]
  rw [leaveService_eq, latchIfLost_hostRecord, record]
  simp only [lost]

/-! ## LOS onset of a path port (R53, R64) -/

theorem takeAllEnded_probeLaws (laws : ProbeLaws s) (p : Port) : ProbeLaws (s.takeAllEnded p) :=
  (s.takeAllEnded_events p).keep Event.probeLaws laws

/-- R53: LOS onset at the receiver, the records that have ended on a serving port taken first, and then at the
health monitor. -/
theorem exec_losOnset_path {p : Port} (due : (s.pathRx p).framer.measure.sinceTransition = 8)
    (signal : (s.pathRx p).framer.state ≠ .noSignal) (line : (s.port p).state.looped = false) {u : State}
    (hu : u = (if (s.pathRx p).framer.state = .aligned then s.takeAllEnded p else s)) :
    ∃ v, exec (.losOnset (.path p)) s = .next (v.losOnsetHealth p) ∧
      (∃ r c e, v = { u with rx := r, ctl := c, engine := e }) ∧
      (v.pathRx p).framer.state = .noSignal ∧ (v.pathRx p).framer.badRun = 0 ∧
      (v.pathRx p).farEndReady = (s.pathRx p).farEndReady := by
  have run : exec (.losOnset (.path p)) s = .next (s.pathLosOnset p) := by
    simp only [exec, execLosOnset, onsetDue, due, line]
    rfl
  cases state : (s.pathRx p).framer.state with
  | noSignal => exact absurd state signal
  | hunting =>
    rw [state, if_neg (by simp)] at hu
    subst hu
    have self := pathRx_setPathRx_self u p
      { u.pathRx p with framer := (u.pathRx p).framer.lose .noSignal }
    refine ⟨u.setPathRx p { u.pathRx p with framer := (u.pathRx p).framer.lose .noSignal }, ?_,
      ⟨_, u.ctl, u.engine, rfl⟩, ?_, ?_, ?_⟩
    · rw [run]; simp only [pathLosOnset, state]
    · rw [self]; rfl
    · rw [self]; rfl
    · rw [self]
  | aligned =>
    rw [state, if_pos rfl] at hu
    subst hu
    have self := pathRx_setPathRx_self (s.takeAllEnded p) p
      { s.pathRx p with framer := (s.pathRx p).framer.lose .noSignal, formRun := 0 }
    have rx : (s.loseAlignment p .noSignal).pathRx p =
        { s.pathRx p with framer := (s.pathRx p).framer.lose .noSignal, formRun := 0 } := self
    refine ⟨s.loseAlignment p .noSignal, ?_, ⟨_, _, _, rfl⟩, ?_, ?_, ?_⟩
    · rw [run]; simp only [pathLosOnset, state]
    · rw [rx]; rfl
    · rw [rx]; rfl
    · rw [rx]

theorem onsetAt_port_self (s : State) (p : Port) : (s.onsetAt p).port p = onsetRecord (s.port p) :=
  port_setPort_self s p _

theorem losOnsetHealth_of_inService {p : Port} (service : s.inService p = true) :
    s.losOnsetHealth p = (s.onsetAt p).leaveService p .down := by
  obtain up | suspect := (inService_iff s p).mp service
  · simp only [losOnsetHealth_eq, up]
  · simp only [losOnsetHealth_eq, suspect]

theorem losOnsetHealth_of_awaiting {p : Port}
    (awaits : (s.port p).state = .awaitProbe ∨ (s.port p).state = .probing) :
    s.losOnsetHealth p = (s.onsetAt p).setback p := by
  obtain await | probing := awaits
  · simp only [losOnsetHealth_eq, await]
  · simp only [losOnsetHealth_eq, probing]

theorem losOnsetHealth_of_out {p : Port} (service : s.inService p = false)
    (awaits : ¬ ((s.port p).state = .awaitProbe ∨ (s.port p).state = .probing)) :
    s.losOnsetHealth p = s.onsetAt p := by
  rw [losOnsetHealth_eq]
  cases state : (s.port p).state with
  | up | suspect => simp [inService, state, PortState.inService] at service
  | awaitProbe | probing => simp [state] at awaits
  | down | disabled | loopback => rfl

/-- R64: the score, the hold and the count of a port that LOS onset has reached. -/
theorem losOnsetHealth_port (core : ProbeCore s) (p : Port) :
    ((s.losOnsetHealth p).port p).h = 4095 ∧ ((s.losOnsetHealth p).port p).losHold = true ∧
    ((s.losOnsetHealth p).port p).counts.los = min 65535 ((s.port p).counts.los + 1) := by
  have core' : ProbeCore (s.onsetAt p) := (s.onsetAt_probeKept p core).1
  by_cases service : s.inService p = true
  · rw [losOnsetHealth_of_inService service, leaveService_port_self core', onsetAt_port_self]
    exact ⟨rfl, rfl, rfl⟩
  · rw [Bool.not_eq_true] at service
    by_cases awaits : (s.port p).state = .awaitProbe ∨ (s.port p).state = .probing
    · rw [losOnsetHealth_of_awaiting awaits, setback_port_self core', onsetAt_port_self]
      exact ⟨rfl, rfl, rfl⟩
    · rw [losOnsetHealth_of_out service awaits, onsetAt_port_self]
      exact ⟨rfl, rfl, rfl⟩

/-- R155: LOS onset sets the latches when it takes the last port out of service. -/
theorem losOnsetHealth_latchesFollow (core : ProbeCore s) (p : Port) :
    LatchesFollow s (s.losOnsetHealth p) p := by
  have core' : ProbeCore (s.onsetAt p) := (s.onsetAt_probeKept p core).1
  have inService (q : Port) : (s.onsetAt p).inService q = s.inService q := by
    unfold State.inService
    by_cases same : q = p
    · rw [same, onsetAt_port_self, onsetRecord_state]
    · rw [onsetAt, port_setPort_ne s same]
  by_cases service : s.inService p = true
  · have follow := leaveService_latchesFollow (x := .down) core' rfl ((inService p).trans service)
    rw [losOnsetHealth_of_inService service]
    intro h
    rw [follow h]
    simp only [inService]
    rfl
  · intro h
    rw [if_neg fun ⟨inside, _⟩ => service inside]
    rw [Bool.not_eq_true] at service
    by_cases awaits : (s.port p).state = .awaitProbe ∨ (s.port p).state = .probing
    · rw [losOnsetHealth_of_awaiting awaits]
      have hosts : ((s.onsetAt p).setback p).hosts = (s.onsetAt p).hosts := by simp [setback]
      simp only [hostRecord, hosts]
      rfl
    · rw [losOnsetHealth_of_out service awaits]
      rfl

end Sys2Proof.Machine.State

section

open Sys2Proof Sys2Proof.Machine Sys2Proof.Machine.State

/-- Settles O10: the form of the alignment octet is counted, and the 32 octets after it are delivered. -/
theorem pathFrameDelivered : Obligations.PathFrameDelivered := by
  intro s p o os agrees aligned pos line length good form few
  have counted : s.pathOctet p o = s.setPathRx p { s.pathRx p with
      framer := { (s.pathRx p).framer with badRun := 0, pos := 1 }
      formRun := if agrees then 0 else (s.pathRx p).formRun + 1 } := by
    rw [pathOctet_of_good aligned pos good, goodAlignment_of_counted (agrees := agrees)]
    · rw [form]; rfl
    · exact few
  obtain ⟨⟨c, x, r, frame⟩, delivered⟩ := slotOctets_delivered p length s
  refine ⟨_, exec_pathFrame_of_line line _, ?_⟩
  rw [List.foldl_cons, counted, foldl_pathOctet_of_delivered (r := { s.pathRx p with
    framer := { (s.pathRx p).framer with badRun := 0, pos := 1 }
    formRun := if agrees then 0 else (s.pathRx p).formRun + 1 }) length aligned rfl]
  refine ⟨?_, ?_, fun q ne => ?_, delivered⟩
  · rw [frame]; rfl
  · rw [pathRx_setPathRx_self, PathRx.atPlace, ← pos]
  · rw [frame]; exact pathRx_setPathRx_ne _ ne _

/-- Settles O12: the port takes LOS onset by the state it has once the ended records are taken. -/
theorem pathLosOnset : Obligations.PathLosOnset := by
  intro s p u laws due signal line hu
  obtain ⟨v, run, ⟨r, c, e, frame⟩, state, badRun, ready⟩ := exec_losOnset_path due signal line hu
  have coreU : ProbeCore u := by
    rw [hu]
    split_ifs
    · exact (takeAllEnded_probeLaws laws p).core
    · exact laws.core
  have core : ProbeCore v := by
    rw [frame]
    exact coreU.of_same (fun _ => .rfl) (fun _ => .rfl) (fun _ => id) rfl rfl
  have core' : ProbeCore (v.onsetAt p) := (v.onsetAt_probeKept p core).1
  have port (q : Port) : v.port q = u.port q := by rw [frame]; rfl
  have handed : v.handed = u.handed := by rw [frame]
  obtain ⟨h, hold, los⟩ := losOnsetHealth_port core p
  have rx : (v.losOnsetHealth p).pathRx p = v.pathRx p := by simp [pathRx]
  rw [port] at los
  refine ⟨_, run, by rw [rx, state], by rw [rx, badRun], by rw [rx, ready], h, hold, los, ?latches,
    fun service => ?departs, fun awaits => ?setback, fun out => ?out⟩
  case latches =>
    have follow := losOnsetHealth_latchesFollow core p
    rw [frame] at follow ⊢
    exact follow
  case departs =>
    have service : v.inService p = true := by rw [inService, port]; exact service
    obtain ⟨raised, entry⟩ := leaveService_down_handed (v.onsetAt p) p
    rw [losOnsetHealth_of_inService service, leaveService_port_self core', onsetAt_port_self, port]
    exact ⟨rfl, rfl, rfl, rfl, raised, entry⟩
  case setback =>
    rw [losOnsetHealth_of_awaiting (by rw [port]; exact awaits), setback_port_self core', onsetAt_port_self,
      port, setback_handed]
    exact ⟨rfl, rfl, rfl, handed⟩
  case out =>
    rw [losOnsetHealth_of_out (by rw [inService, port]; obtain h | h := out <;> rw [h] <;> rfl)
      (by rw [port]; obtain h | h := out <;> simp [h]), onsetAt_port_self, port]
    exact ⟨rfl, rfl, handed, by rw [frame]; rfl⟩

end

end

section
/-! What LOS onset of an UP or SUSPECT port does to the circuits (R13, R134, R135). -/

namespace Sys2Proof.Machine

/-! ## The departure of a port at one route entry -/

variable {p : Port} {r : Route} {cur : CurrentSet} {m : StagedSet}

theorem departRoute_of_routed_on (routed : r.standing = .routed cur) (here : cur.path.port = p) :
    departRoute p r = { r with standing := .displaced } ∧ departJoins p r = true := by
  simp only [departRoute, departJoins, routed, here, if_true, decide_true, and_self]

theorem departRoute_of_routed_off (routed : r.standing = .routed cur) (off : cur.path.port ≠ p) :
    departRoute p r = r ∧ departJoins p r = false := by
  simp only [departRoute, departJoins, routed, off, if_false, decide_false, and_self]

theorem departRoute_of_staged_current (staged : r.standing = .staged cur m) (here : cur.path.port = p)
    (off : m.path.port ≠ p) :
    departRoute p r = { r with standing := .routed m.asCurrent, moves := bump8 r.moves } ∧
    departJoins p r = false := by
  simp only [departRoute, departJoins, staged, here, off, if_true, if_false, decide_false, and_self]

theorem departRoute_of_staged_both (staged : r.standing = .staged cur m) (here : cur.path.port = p)
    (both : m.path.port = p) :
    departRoute p r = { r with standing := .displaced, moves := bump8 r.moves } ∧
    departJoins p r = true := by
  simp only [departRoute, departJoins, staged, here, both, if_true, decide_true, and_self]

theorem departRoute_of_staged_move (staged : r.standing = .staged cur m) (off : cur.path.port ≠ p)
    (here : m.path.port = p) :
    departRoute p r = { r with standing := .routed cur } ∧ departJoins p r = true := by
  simp only [departRoute, departJoins, staged, off, here, if_true, if_false, decide_true, and_self]

theorem departRoute_of_staged_off (staged : r.standing = .staged cur m) (off : cur.path.port ≠ p)
    (off' : m.path.port ≠ p) : departRoute p r = r := by
  simp only [departRoute, staged, off, off', if_false]

theorem departRoute_of_stranded (stranded : r.standing = .stranded) : departRoute p r = r := by
  simp only [departRoute, stranded]

/-! ## A looped port takes its ended records -/

namespace State

variable {s : State}

theorem lineEvent_state_of_looped (looped : (s.port p).state.looped = true) (e : LineEvent) :
    ((s.lineEvent p e).port p).state = (s.port p).state := by
  rw [lineEvent_eq, compareScore_of_out (.inr (.inr (by rw [weighed_port_self]; exact looped))),
    weighed_port_self]

theorem takeEnded_state_of_looped (looped : (s.port p).state.looped = true) :
    ((s.takeEnded p).port p).state = (s.port p).state := by
  cases h : (s.control p).ended with
  | nil => rw [takeEnded_of_nil s h]
  | cons e rest =>
    rw [takeEnded_of_cons s h]
    cases e with
    | lengthRefused =>
      exact lineEvent_state_of_looped (s := s.setControl p { s.control p with ended := rest }) looped .ccf
    | whole len body check =>
      simp only [endRecord]
      split
      · exact acceptRecord_port_state _ _ _ _
      · exact lineEvent_state_of_looped (s := s.setControl p { s.control p with ended := rest }) looped .ccf

/-- No record that ends takes a port out of LOOPBACK. -/
theorem takeAllEnded_state_of_looped (looped : (s.port p).state.looped = true) :
    ((s.takeAllEnded p).port p).state = (s.port p).state := by
  unfold takeAllEnded
  generalize (s.control p).ended = l
  induction l generalizing s with
  | nil => rfl
  | cons e rest ih =>
    have state := takeEnded_state_of_looped looped
    exact (ih (by rw [state]; exact looped)).trans state

end State

end Sys2Proof.Machine

section

open Sys2Proof Sys2Proof.Machine Sys2Proof.Machine.State

/-- Settles O14: the departure at the slot map, and at the route of a circuit by where its paths lie. -/
theorem departureDisplacesCircuits : Obligations.DepartureDisplacesCircuits := by
  intro s p u due signal hu service
  have line : (s.port p).state.looped = false := by
    by_contra looped
    rw [Bool.not_eq_false] at looped
    have state : (u.port p).state = (s.port p).state := by
      rw [hu]
      split_ifs
      · exact takeAllEnded_state_of_looped looped
      · rfl
    rw [inService, state] at service
    cases port : (s.port p).state <;> simp [port, PortState.looped, PortState.inService] at looped service
  obtain ⟨v, run, ⟨x, c, e, frame⟩, -⟩ := exec_losOnset_path due signal line hu
  have service : v.inService p = true := by rw [frame]; exact service
  obtain ⟨route, holder, used, queued, stranded⟩ := leaveService_departure (v.onsetAt p) p .down
  have entry (d : Circuit) : (v.onsetAt p).route d = u.route d := by rw [frame]; rfl
  have count (q : Port) : (v.onsetAt p).usedCount q = u.usedCount q := by rw [frame]; rfl
  have waits (d : Circuit) : (v.onsetAt p).queued d = u.queued d := by rw [frame]; rfl
  have idles (d : Circuit) : (v.onsetAt p).strandedHas d = u.strandedHas d := by rw [frame]; rfl
  simp only [entry, count, waits, idles] at route used queued stranded
  rw [losOnsetHealth_of_inService service] at run
  refine ⟨_, run, fun n => ?free, ?zero, fun q ne => ?others, fun d strand => ?stay, fun d =>
    ⟨fun cur routed => ⟨fun here => ?on, fun off => ?off⟩, fun cur m staged =>
      ⟨fun here off => ?cutover, fun here both => ?both, fun off here => ?cancel, fun off off' => ?apart⟩⟩⟩
  case free => rw [holder, departSlot, if_pos rfl]
  case zero => rw [used, if_pos rfl]
  case others => rw [used, if_neg ne]
  case stay => rw [route, stranded, departRoute_of_stranded strand]; exact ⟨rfl, rfl⟩
  case on =>
    obtain ⟨departs, joins⟩ := departRoute_of_routed_on routed here
    rw [route, queued, departs, joins]
    exact ⟨rfl, Bool.or_true _⟩
  case off =>
    obtain ⟨stays, unjoined⟩ := departRoute_of_routed_off routed off
    rw [route, queued, stays, unjoined]
    exact ⟨rfl, Bool.or_false _⟩
  case cutover =>
    obtain ⟨departs, unjoined⟩ := departRoute_of_staged_current staged here off
    rw [route, queued, departs, unjoined]
    exact ⟨rfl, Bool.or_false _⟩
  case both =>
    obtain ⟨departs, joins⟩ := departRoute_of_staged_both staged here both
    rw [route, queued, departs, joins]
    exact ⟨rfl, Bool.or_true _⟩
  case cancel =>
    obtain ⟨departs, joins⟩ := departRoute_of_staged_move staged off here
    rw [route, queued, departs, joins]
    exact ⟨rfl, Bool.or_true _⟩
  case apart => rw [route, departRoute_of_staged_off staged off off']

end

end

section
/-! The health monitor and the checker do not look at the lines: they do the same whatever the framers hold and
whatever frames have been transmitted. -/

namespace Sys2Proof.Machine

/-- What a frame period's end writes of the lines (R46, R50). -/
structure Lines where
  trunks : Vector Framer 8
  rx : Vector PathRx 8
  txTrunk : Vector (List Octet) 8
  txPath : Vector (List Octet) 8

namespace State

/-- A state with other framers and other transmitted frames. -/
def onLines (s : State) (l : Lines) : State :=
  { s with
    trunks := l.trunks, rx := l.rx, exch := { s.exch with txTrunk := l.txTrunk, txPath := l.txPath } }

variable (s : State) (l : Lines) (p : Port)

@[simp] theorem onLines_port : (s.onLines l).port p = s.port p := rfl
@[simp] theorem onLines_param (x : Param) : (s.onLines l).param x = s.param x := rfl
@[simp] theorem onLines_isOn (x : Param) : (s.onLines l).isOn x = s.isOn x := rfl
@[simp] theorem onLines_checker : (s.onLines l).checker = s.checker := rfl

@[simp] theorem setPort_onLines (r : PortRecord) : (s.onLines l).setPort p r = (s.setPort p r).onLines l := rfl
@[simp] theorem setChecker_onLines (k : Checker) : (s.onLines l).setChecker k = (s.setChecker k).onLines l := rfl
@[simp] theorem raise_onLines (o : Occurrence) : (s.onLines l).raise o = (s.raise o).onLines l := rfl
@[simp] theorem handDownEntry_onLines : (s.onLines l).handDownEntry p = (s.handDownEntry p).onLines l := rfl
@[simp] theorem handUpEntry_onLines : (s.onLines l).handUpEntry p = (s.handUpEntry p).onLines l := rfl
@[simp] theorem handPortDrain_onLines : (s.onLines l).handPortDrain p = (s.handPortDrain p).onLines l := rfl
@[simp] theorem setLatches_onLines : (s.onLines l).setLatches = s.setLatches.onLines l := rfl
@[simp] theorem capacityEvent_onLines : (s.onLines l).capacityEvent = s.capacityEvent.onLines l := rfl

@[simp] theorem addScore_onLines (w : Nat) : (s.onLines l).addScore p w = (s.addScore p w).onLines l := rfl

@[simp] theorem countEvent_onLines (e : LineEvent) :
    (s.onLines l).countEvent p e = (s.countEvent p e).onLines l := rfl

@[simp] theorem settleSweep_onLines : (s.onLines l).settleSweep = s.settleSweep.onLines l := by
  have queued : (s.onLines l).queued = s.queued := rfl
  have sweep : (s.onLines l).sweep = s.sweep := rfl
  unfold settleSweep
  rw [queued, sweep]
  split_ifs <;> rfl

@[simp] theorem latchIfLost_onLines : (s.onLines l).latchIfLost = s.latchIfLost.onLines l := by
  have lost : (s.onLines l).exchangeLost = s.exchangeLost := rfl
  unfold latchIfLost
  rw [lost]
  split_ifs <;> rfl

@[simp] theorem takeProbe_onLines : (s.onLines l).takeProbe = s.takeProbe.onLines l := by
  cases idle : s.checker.state with
  | seeding | counting =>
    rw [takeProbe_of_busy s (by simp [idle]), takeProbe_of_busy _ (by simp [idle])]
  | idle =>
    cases queue : s.checker.queue with
    | nil => rw [takeProbe_of_empty s queue, takeProbe_of_empty (s.onLines l) queue]
    | cons e rest =>
      rw [takeProbe_of_entry s idle queue, takeProbe_of_entry (s.onLines l) idle queue]
      cases e.kind <;> rfl

@[simp] theorem cancelProbe_onLines : (s.onLines l).cancelProbe p = (s.cancelProbe p).onLines l := by
  unfold cancelProbe
  rw [onLines_checker]
  split_ifs
  · rw [setChecker_onLines, takeProbe_onLines]
  · rfl

@[simp] theorem portDeparture_onLines : (s.onLines l).portDeparture p = (s.portDeparture p).onLines l := by
  unfold portDeparture
  rw [← settleSweep_onLines]
  rfl

@[simp] theorem leaveService_onLines (x : PortState) :
    (s.onLines l).leaveService p x = (s.leaveService p x).onLines l := by
  unfold leaveService
  dsimp only
  split_ifs <;> simp

@[simp] theorem enterSuspect_onLines : (s.onLines l).enterSuspect p = (s.enterSuspect p).onLines l := by
  unfold enterSuspect
  dsimp only
  rw [onLines_isOn]
  split_ifs <;> simp

@[simp] theorem enterUp_onLines : (s.onLines l).enterUp p = (s.enterUp p).onLines l := by
  unfold enterUp
  dsimp only
  rw [← settleSweep_onLines]
  rfl

@[simp] theorem setback_onLines : (s.onLines l).setback p = (s.setback p).onLines l := by
  simp [setback]

@[simp] theorem compareScore_onLines : (s.onLines l).compareScore p = (s.compareScore p).onLines l := by
  unfold compareScore
  simp only [onLines_port, onLines_param]
  by_cases down : s.param .downAt ≤ (s.port p).h
  · simp only [down, if_true]
    split <;> simp
  · simp only [down, if_false]
    by_cases suspect : s.param .suspectAt ≤ (s.port p).h
    · simp only [suspect, if_true]
      split <;> simp
    · simp only [suspect, if_false]
      split <;> rfl

@[simp] theorem lineEvent_onLines (e : LineEvent) :
    (s.onLines l).lineEvent p e = (s.lineEvent p e).onLines l := by
  have weight : (s.onLines l).weight e = s.weight e := by cases e <;> rfl
  unfold lineEvent
  rw [weight, addScore_onLines, countEvent_onLines, compareScore_onLines]

/-! ## The checker's octet -/

@[simp] theorem actOnVerdict_onLines (e : ProbeEntry) (pass : Bool) :
    (s.onLines l).actOnVerdict e pass = (s.actOnVerdict e pass).onLines l := by
  unfold actOnVerdict
  simp only [onLines_port, onLines_param, addScore_onLines, compareScore_onLines, enterUp_onLines,
    setPort_onLines]
  split
  · split_ifs <;> rfl
  · split_ifs <;> rfl
  · split_ifs <;> rfl
  · split_ifs <;> rfl
  · rfl

theorem finishProbe_onLines (e : ProbeEntry) : (s.onLines l).finishProbe e = (s.finishProbe e).onLines l := by
  unfold finishProbe
  dsimp only
  rw [← takeProbe_onLines, ← actOnVerdict_onLines]
  rfl

theorem countOctet_onLines (e : ProbeEntry) : (s.onLines l).countOctet e = (s.countOctet e).onLines l := by
  have returned : (s.onLines l).returnedOctet e.port = s.returnedOctet e.port := rfl
  unfold countOctet
  rw [returned, onLines_checker]
  dsimp only
  rw [setChecker_onLines, finishProbe_onLines]
  split_ifs <;> rfl

theorem stepChecker_onLines : (s.onLines l).stepChecker = s.stepChecker.onLines l := by
  have returned (q : Port) : (s.onLines l).returnedOctet q = s.returnedOctet q := rfl
  unfold stepChecker
  simp only [returned, onLines_checker, setChecker_onLines, countOctet_onLines]
  split <;> rfl

/-! ## The frame period (log 33) -/

/-- R46, R50: the lines at a frame period's end. -/
def linesAfter (a b : BitVec 8) : Lines :=
  { trunks := (s.measureLines a b).trunks
    rx := (s.measureLines a b).rx
    txTrunk := Vector.ofFn fun t => s.trunkFrame t
    txPath := Vector.ofFn fun p => s.pathFrame p }

theorem transmit_measureLines (a b : BitVec 8) :
    s.transmit.measureLines a b = s.onLines (s.linesAfter a b) := rfl

/-- R55: the FAEs of the ports that hunt the whole period, after the checker's octet. -/
def hunted (order : List Port) (b : BitVec 8) : State :=
  (portOrder order).foldl (fun x p => if s.huntsThrough b p then x.lineEvent p .fae else x) s.stepChecker

theorem framePeriod_eq (order : List Port) (a b : BitVec 8) : s.framePeriod order a b =
    ((((s.hunted order b).onLines (s.linesAfter a b)).countFrame).bulkStepDue).beginFrame := by
  have step (x : State) (q : Port) : (x.onLines (s.linesAfter a b)).huntingFae q =
      (if s.huntsThrough b q then x.lineEvent q .fae else x).onLines (s.linesAfter a b) := by
    have whole : (x.onLines (s.linesAfter a b)).huntedWhole q = s.huntsThrough b q :=
      s.huntedWhole_measureLines a b q
    unfold huntingFae
    rw [whole]
    split_ifs
    · rw [lineEvent_onLines]
    · rfl
  have fold (ports : List Port) (x : State) :
      ports.foldl (fun s p => s.huntingFae p) (x.onLines (s.linesAfter a b)) =
        (ports.foldl (fun x p => if s.huntsThrough b p then x.lineEvent p .fae else x) x).onLines
          (s.linesAfter a b) := by
    induction ports generalizing x with
    | nil => rfl
    | cons q ports ih => rw [List.foldl_cons, List.foldl_cons, step, ih]
  unfold framePeriod hunted
  rw [transmit_measureLines, stepChecker_onLines]
  dsimp only
  rw [fold]

theorem exec_framePeriod (order : List Port) (a b : BitVec 8) :
    exec (.framePeriod order a b) s = .next (s.framePeriod order a b) := rfl

end State

end Sys2Proof.Machine
end

section
/-! FRAME_PERIOD: what it transmits and what it leaves of the card (chapter 3; R46 to R48, R65, R86, R87). -/

namespace Sys2Proof.Machine

theorem octetAt_map_finRange {n : Nat} (f : Fin n → Octet) (i : Fin n) :
    octetAt ((List.finRange n).map f) i.val = f i := by
  simp [octetAt]

theorem octetAt_append_left {l l' : List Octet} {i : Nat} (inside : i < l.length) :
    octetAt (l ++ l') i = octetAt l i := by
  simp [octetAt, List.getElem?_append_left inside]

theorem octetAt_append_right {l l' : List Octet} {i : Nat} (beyond : l.length ≤ i) :
    octetAt (l ++ l') i = octetAt l' (i - l.length) := by
  simp [octetAt, List.getElem?_append_right beyond]

namespace State

variable (s : State)

theorem trunkFrame_slot (k : Trunk) (i : StationSlot) :
    octetAt (s.trunkFrame k) (i.val + 1) = s.stationSlotOctet (circuitAt k i) := by
  rw [trunkFrame, octetAt_cons_succ, octetAt_map_finRange]

theorem pathFrame_eq (p : Port) : s.pathFrame p =
    s.exch.heads[p].alignment :: s.exch.heads[p].control ::
      ((List.finRange 30).map (fun n => s.trafficSlotOctet ⟨p, n⟩) ++
        [s.exch.heads[p].probe.getD (s.codeOctet .idleFill)]) := rfl

theorem pathFrame_slot (p : Port) (n : Slot) :
    octetAt (s.pathFrame p) (n.val + 2) = s.trafficSlotOctet ⟨p, n⟩ := by
  rw [pathFrame_eq, octetAt_cons_succ, octetAt_cons_succ, octetAt_append_left (by simp),
    octetAt_map_finRange]

theorem pathFrame_last (p : Port) :
    octetAt (s.pathFrame p) 32 = s.exch.heads[p].probe.getD (s.codeOctet .idleFill) := by
  rw [pathFrame_eq, octetAt_cons_succ, octetAt_cons_succ, octetAt_append_right (by simp)]
  simp [octetAt]

/-! ## The stages of a frame period -/

/-- What the FAEs and the checker's octet leave. -/
theorem hunted_frame (order : List Port) (b : BitVec 8) :
    (s.hunted order b).descs = s.descs ∧ (s.hunted order b).rx = s.rx ∧ (s.hunted order b).ctl = s.ctl ∧
    (s.hunted order b).groups = s.groups ∧ (s.hunted order b).walker = s.walker ∧
    (s.hunted order b).params = s.params ∧ (s.hunted order b).straps = s.straps ∧
    (s.hunted order b).time = s.time ∧ (s.hunted order b).exch = s.exch := by
  unfold hunted
  have fold (ports : List Port) (x : State) :
      let y := ports.foldl (fun x p => if s.huntsThrough b p then x.lineEvent p .fae else x) x
      y.descs = x.descs ∧ y.rx = x.rx ∧ y.ctl = x.ctl ∧ y.groups = x.groups ∧ y.walker = x.walker ∧
        y.params = x.params ∧ y.straps = x.straps ∧ y.time = x.time ∧ y.exch = x.exch := by
    induction ports generalizing x with
    | nil => simp
    | cons q ports ih =>
      have first := ih (if s.huntsThrough b q then x.lineEvent q .fae else x)
      split_ifs at first with hunts <;> simpa [hunts] using first
  simpa using fold (portOrder order) s.stepChecker

/-- The state in which the next frame begins: the one that the period leaves, with its timers and its bulk step. -/
def counted (order : List Port) (a b : BitVec 8) : State :=
  (((s.hunted order b).onLines (s.linesAfter a b)).countFrame).bulkStepDue

theorem framePeriod_eq_beginFrame (order : List Port) (a b : BitVec 8) :
    s.framePeriod order a b = (s.counted order a b).beginFrame := s.framePeriod_eq order a b

end State

end Sys2Proof.Machine

section

open Sys2Proof Sys2Proof.Machine Sys2Proof.Machine.State

/-- Settles O4: the frames of the period are those of the state it begins in. -/
theorem framesTransmitted : Obligations.FramesTransmitted := by
  have sent (s : State) (order : List Port) (a b : BitVec 8) :
      (s.framePeriod order a b).exch.txTrunk = Vector.ofFn (fun k => s.trunkFrame k) ∧
      (s.framePeriod order a b).exch.txPath = Vector.ofFn (fun p => s.pathFrame p) := by
    rw [framePeriod_eq]
    constructor <;> simp [beginFrame, onLines, linesAfter]
  have frames (s : State) (order : List Port) (a b : BitVec 8) :
      (s.framePeriod order a b).time.frames = s.time.frames + 1 := by
    obtain ⟨-, -, -, -, -, -, -, time, -⟩ := s.hunted_frame order b
    rw [framePeriod_eq]
    simp only [beginFrame_frame, bulkStepDue_frame, countFrame]
    split
    · simp [millisecond, tickDecay, onLines, time]
      split <;> simp
    · simp [onLines, time]
  refine ⟨fun s order a b => ⟨_, s.exec_framePeriod order a b, frames s order a b, fun k => ?trunk⟩,
    fun s order a b => ⟨_, s.exec_framePeriod order a b, fun p => ?path⟩⟩
  case trunk =>
    obtain ⟨trunk, -⟩ := sent s order a b
    have line : (s.framePeriod order a b).exch.txTrunk[k] = s.trunkFrame k := by simp [trunk]
    rw [line]
    refine ⟨by simp [trunkFrame], rfl, fun i => ?_⟩
    rw [trunkFrame_slot, stationSlotOctet]
    cases s.exch.view[circuitAt k i] <;> cases s.exch.toStation[circuitAt k i] <;> rfl
  case path =>
    obtain ⟨-, path⟩ := sent s order a b
    have line : (s.framePeriod order a b).exch.txPath[p] = s.pathFrame p := by simp [path]
    rw [line]
    refine ⟨by simp [pathFrame], rfl, rfl, pathFrame_last s p, fun n => ?_⟩
    rw [pathFrame_slot, trafficSlotOctet]
    rcases s.exch.map[(⟨p, n⟩ : PathSlot).index] with _ | ⟨c, _ | _⟩ <;> rfl

end

end

section
/-! FRAME_PERIOD after the FAEs: timers, the decay tick, the bulk step and the checker's octets (R65, R86, R87,
R143). -/

namespace Sys2Proof.Machine

/-! ## The order of the ports (log 33) -/

theorem mem_portOrder (order : List Port) (p : Port) : p ∈ portOrder order :=
  mem_namedFirst (List.mem_finRange p)

theorem nodup_portOrder (order : List Port) : (portOrder order).Nodup :=
  nodup_namedFirst (List.nodup_finRange 8)

theorem prefix_portOrder {order : List Port} (nodup : order.Nodup) : order <+: portOrder order := by
  unfold portOrder
  rw [nodup.dedup]
  exact List.prefix_append _ _

namespace State

variable (s : State)

/-! ## The stages -/

theorem countFrame_of_quiet (quiet : (s.time.frames + 1) % 8 ≠ 0) :
    s.countFrame = s.setTime { s.time with frames := s.time.frames + 1 } := by
  unfold countFrame
  exact if_neg quiet

theorem countFrame_of_tick (tick : (s.time.frames + 1) % 8 = 0) :
    s.countFrame = (s.setTime { s.time with frames := s.time.frames + 1 }).millisecond := by
  unfold countFrame
  exact if_pos tick

theorem bulkStepDue_walker : s.bulkStepDue.walker = { s.walker with
    stepsDue := s.walker.stepsDue + if s.walker.state = .walking then 1 else 0 } := by
  unfold bulkStepDue
  split_ifs <;> rfl

theorem beginFrame_route (c : Circuit) : s.beginFrame.route c =
    { s.route c with standing := markSeen (s.route c).standing } := by
  simp [beginFrame, route]

theorem beginFrame_checker : s.beginFrame.checker =
    if s.checker.state.entry = none then s.checker
    else { s.checker with started := true, generator := (Stages.octet s.checker.generator).2 } := by
  simp only [beginFrame, checkerBegins]
  cases s.checker.state.entry <;> simp

theorem millisecond_route (c : Circuit) : s.millisecond.route c =
    { s.route c with standing := tickStanding (s.route c).standing } := by
  simp [millisecond, route]

theorem millisecond_port (p : Port) : s.millisecond.port p =
    { s.port p with failBack := (s.port p).failBack.map (· - 1) } := by
  simp [millisecond, port, tickTimer]

theorem millisecond_group (g : Group) : s.millisecond.group g =
    { s.group g with hold := (s.group g).hold.map (· - 1) } := by
  simp [millisecond, group, tickTimer]

theorem bulkStepDue_route (c : Circuit) : s.bulkStepDue.route c = s.route c := route_congr (by simp) c

theorem bulkStepDue_port (p : Port) : s.bulkStepDue.port p = s.port p := port_congr (by simp) p

theorem hunted_eq_of_quiet (order : List Port) {b : BitVec 8}
    (none : ∀ p : Port, (s.pathRx p).beganHunting = false) : s.hunted order b = s.stepChecker := by
  unfold hunted
  have quiet (q : Port) : s.huntsThrough b q = false := by simp [huntsThrough, none q]
  simp only [quiet, Bool.false_eq_true, if_false]
  exact List.foldl_fixed _

/-! ## What a frame period leaves -/

variable (order : List Port) (a b : BitVec 8)

theorem framePeriod_frame :
    (s.framePeriod order a b).descs = s.descs ∧ (s.framePeriod order a b).params = s.params ∧
    (s.framePeriod order a b).hosts = (s.hunted order b).hosts ∧
    (s.framePeriod order a b).occ = (s.hunted order b).occ ∧
    (s.framePeriod order a b).used = (s.hunted order b).used ∧
    (s.framePeriod order a b).sweep = (s.hunted order b).sweep ∧
    (s.framePeriod order a b).handed = (s.hunted order b).handed := by
  obtain ⟨descs, -, -, -, -, params, -, -, -⟩ := s.hunted_frame order b
  rw [framePeriod_eq]
  simp [onLines, descs, params]

theorem framePeriod_walker : (s.framePeriod order a b).walker = { s.walker with
    stepsDue := s.walker.stepsDue + if s.walker.state = .walking then 1 else 0 } := by
  obtain ⟨-, -, -, -, walker, -⟩ := s.hunted_frame order b
  rw [framePeriod_eq, (beginFrame_frame _).2.2.2.2.2.2.2.1, bulkStepDue_walker]
  simp [onLines, walker]

theorem framePeriod_checker : (s.framePeriod order a b).checker =
    if (s.hunted order b).checker.state.entry = none then (s.hunted order b).checker
    else { (s.hunted order b).checker with
      started := true, generator := (Stages.octet (s.hunted order b).checker.generator).2 } := by
  rw [framePeriod_eq, beginFrame_checker]
  simp

variable {order a b}

theorem framePeriod_quiet (quiet : (s.time.frames + 1) % 8 ≠ 0) :
    (s.framePeriod order a b).ports = (s.hunted order b).ports ∧
    (s.framePeriod order a b).groups = s.groups ∧
    (s.framePeriod order a b).time = { s.time with frames := s.time.frames + 1 } ∧
    ∀ c, (s.framePeriod order a b).route c = { (s.hunted order b).route c with
      standing := markSeen ((s.hunted order b).route c).standing } := by
  obtain ⟨-, -, -, groups, -, -, -, time, -⟩ := s.hunted_frame order b
  have time' : ((s.hunted order b).onLines (s.linesAfter a b)).time = s.time := time
  have frames : (((s.hunted order b).onLines (s.linesAfter a b)).time.frames + 1) % 8 ≠ 0 := by
    rwa [time']
  rw [framePeriod_eq, countFrame_of_quiet _ frames, time']
  refine ⟨by simp [onLines], by simp [onLines, groups], by simp, fun c => ?_⟩
  rw [beginFrame_route, bulkStepDue_route]
  rfl

theorem framePeriod_tick (tick : (s.time.frames + 1) % 8 = 0) :
    (∀ p, (s.framePeriod order a b).port p = { (s.hunted order b).port p with
      failBack := ((s.hunted order b).port p).failBack.map (· - 1) }) ∧
    (∀ g, (s.framePeriod order a b).group g = { s.group g with hold := (s.group g).hold.map (· - 1) }) ∧
    (∀ c, (s.framePeriod order a b).route c = { (s.hunted order b).route c with
      standing := markSeen (tickStanding ((s.hunted order b).route c).standing) }) ∧
    (s.framePeriod order a b).time =
      if s.param .decayInterval ≤ s.time.sinceDecay + 1 then
        { s.time with
          frames := s.time.frames + 1, sinceDecay := 0, decayDue := s.time.decayDue + 1 }
      else { s.time with frames := s.time.frames + 1, sinceDecay := s.time.sinceDecay + 1 } := by
  obtain ⟨-, -, -, groups, -, params, -, time, -⟩ := s.hunted_frame order b
  have time' : ((s.hunted order b).onLines (s.linesAfter a b)).time = s.time := time
  have params' : ((s.hunted order b).onLines (s.linesAfter a b)).params = s.params := params
  have frames : (((s.hunted order b).onLines (s.linesAfter a b)).time.frames + 1) % 8 = 0 := by
    rwa [time']
  rw [framePeriod_eq, countFrame_of_tick _ frames, time']
  refine ⟨fun p => ?_, fun g => ?_, fun c => ?_, ?_⟩
  · rw [port_congr (beginFrame_frame _).2.2.2.2.1, bulkStepDue_port, millisecond_port]
    rfl
  · rw [group_congr (beginFrame_frame _).2.2.2.2.2.1,
      group_congr (bulkStepDue_frame _).2.2.2.2.2.2.2.2.2.1, millisecond_group]
    exact congrArg (fun r : GroupRecord => { r with hold := r.hold.map (· - 1) }) (group_congr groups g)
  · rw [beginFrame_route, bulkStepDue_route, millisecond_route]
    rfl
  · have interval : (((s.hunted order b).onLines (s.linesAfter a b)).setTime
        { s.time with frames := s.time.frames + 1 }).param .decayInterval = s.param .decayInterval :=
      param_congr params' _
    simp only [beginFrame_frame, bulkStepDue_frame]
    simp only [millisecond, tickDecay, interval, setTime_time]

theorem markSeen_of_unstaged {x : Standing} (unstaged : ∀ cur m, x ≠ .staged cur m) :
    markSeen x = x ∧ tickStanding x = x := by
  cases x with
  | staged cur m => exact absurd rfl (unstaged cur m)
  | _ => exact ⟨rfl, rfl⟩

end State

end Sys2Proof.Machine

section

open Sys2Proof Sys2Proof.Machine Sys2Proof.Machine.State

/-- Settles O7: the stages of a frame period after the FAEs, and the checker's octet by its state. -/
theorem quietFramePeriod : Obligations.QuietFramePeriod := by
  refine ⟨fun s order a b u w hu hw => ?period, fun s u hu => ?octet⟩
  case period =>
    subst hu
    have hw : w = s.hunted order b := hw
    subst hw
    obtain ⟨descs, params, hosts, occ, used, sweep, handed⟩ := s.framePeriod_frame order a b
    refine ⟨mem_portOrder order, nodup_portOrder order, prefix_portOrder, s.hunted_eq_of_quiet order,
      _, s.exec_framePeriod order a b, descs, params, hosts, occ, used, sweep, handed,
      s.framePeriod_walker order a b, s.framePeriod_checker order a b, fun c unstaged => ?route,
      fun quiet => ?quiet, fun tick => ?tick⟩
    case route =>
      obtain ⟨seen, ticked⟩ := markSeen_of_unstaged unstaged
      by_cases tick : (s.time.frames + 1) % 8 = 0
      · obtain ⟨-, -, route, -⟩ := s.framePeriod_tick (order := order) (a := a) (b := b) tick
        rw [route, ticked, seen]
      · obtain ⟨-, -, -, route⟩ := s.framePeriod_quiet (order := order) (a := a) (b := b) tick
        rw [route, seen]
    case quiet =>
      obtain ⟨ports, groups, time, route⟩ := s.framePeriod_quiet (order := order) (a := a) (b := b) quiet
      refine ⟨ports, groups, by rw [time], by rw [time], fun c cur m staged => ?_⟩
      rw [route, staged]
      rfl
    case tick =>
      obtain ⟨port, group, route, time⟩ := s.framePeriod_tick (order := order) (a := a) (b := b) tick
      refine ⟨port, group, fun c cur m staged => ?_, fun early => ?_, fun due => ?_⟩
      · rw [route, staged]
        rfl
      · rw [time, if_neg (not_le.mpr early)]
        exact ⟨rfl, rfl⟩
      · rw [time, if_pos due]
        exact ⟨rfl, rfl⟩
  case octet =>
    subst hu
    refine ⟨fun waiting => stepChecker_of_waiting s waiting, fun e o started seeding ho =>
      ⟨fun first => ?first, fun o' second => ?second⟩, fun e started counting more => ?count, fun p =>
        ⟨fun line => ?line, fun looped => ?looped⟩⟩
    case first =>
      rw [stepChecker_of_seeding s started seeding, ← ho]
      simp only [Checker.seed, first]
      rfl
    case second =>
      rw [stepChecker_of_seeding s started seeding, ← ho]
      simp only [Checker.seed, second]
      rfl
    case count =>
      rw [stepChecker_of_counting s started counting, countOctet_of_more s counting more]
      cases s.returnedOctet e.port <;> rfl
    case line => simp only [returnedOctet, line, Bool.false_eq_true, if_false]
    case looped => simp only [returnedOctet, looped, if_true]

end

end

section
/-! FRAME_PERIOD: the frame that begins (R8, R47, R48, R83, R85, R156, R162), and the entry that the checker serves
from one event to the next. -/

namespace Sys2Proof.Machine

/-! ## The entry served and its generator -/

/-- From one checker to another without an entry joining: the queue only loses entries, and the entry served is the
same with its generator, or one from the queue, with a generator of all ones. -/
def ServesOn (k k' : Checker) : Prop :=
  (∀ e ∈ k'.queue, e ∈ k.queue) ∧
  (k'.state.entry = k.state.entry ∧ k'.generator = k.generator ∨
    ∀ e, k'.state.entry = some e → e ∈ k.queue ∧ k'.generator = 0x7FF#11)

namespace ServesOn

variable {k k' k'' : Checker}

theorem of_same (queue : k'.queue = k.queue) (entry : k'.state.entry = k.state.entry)
    (generator : k'.generator = k.generator) : ServesOn k k' :=
  ⟨fun e h => by rwa [← queue], .inl ⟨entry, generator⟩⟩

theorem refl (k : Checker) : ServesOn k k := of_same rfl rfl rfl

theorem of_eq (same : k' = k) : ServesOn k k' := by rw [same]; exact refl k

theorem trans (a : ServesOn k k') (b : ServesOn k' k'') : ServesOn k k'' := by
  obtain ⟨queue, served⟩ := a
  obtain ⟨queue', served'⟩ := b
  refine ⟨fun e h => queue e (queue' e h), ?_⟩
  obtain ⟨entry', generator'⟩ | taken' := served'
  · obtain ⟨entry, generator⟩ | taken := served
    · exact .inl ⟨entry'.trans entry, generator'.trans generator⟩
    · refine .inr fun e h => ?_
      rw [generator']
      exact taken e (entry'.symm.trans h)
  · refine .inr fun e h => ?_
    obtain ⟨member, generator⟩ := taken' e h
    exact ⟨queue e member, generator⟩

end ServesOn

namespace State

variable (s : State)

theorem takeProbe_servesOn (s : State) : ServesOn s.checker s.takeProbe.checker := by
  cases idle : s.checker.state with
  | seeding | counting => rw [takeProbe_of_busy s (by simp [idle])]; exact .refl _
  | idle =>
    cases queue : s.checker.queue with
    | nil => rw [takeProbe_of_empty s queue]; exact .refl _
    | cons e rest =>
      rw [takeProbe_of_entry s idle queue]
      have taken (k : Checker) (waits : k.queue = rest) (serves : k.state = .seeding e)
          (ones : k.generator = 0x7FF#11) : ServesOn s.checker k := by
        refine ⟨fun x h => ?_, .inr fun x h => ?_⟩
        · rw [waits] at h
          rw [queue]
          exact List.mem_cons_of_mem e h
        · rw [serves] at h
          obtain rfl : e = x := Option.some_inj.mp h
          exact ⟨by rw [queue]; exact List.mem_cons_self, ones⟩
      cases e.kind <;> exact taken _ rfl rfl rfl

/-- R87, R89: an IDLE checker takes its next entry. -/
theorem idle_takeProbe_servesOn (s : State) : ServesOn s.checker (s.setChecker s.checker.toIdle).takeProbe.checker := by
  have idle : ServesOn s.checker s.checker.toIdle := ⟨fun _ h => h, .inr fun e h => by cases h⟩
  exact idle.trans (takeProbe_servesOn (s.setChecker s.checker.toIdle))

theorem cancelProbe_servesOn (s : State) (p : Port) : ServesOn s.checker (s.cancelProbe p).checker := by
  unfold cancelProbe
  split_ifs
  · exact idle_takeProbe_servesOn s
  · exact ⟨fun e h => (List.mem_filter.mp h).1, .inl ⟨rfl, rfl⟩⟩

theorem leaveService_servesOn (s : State) (p : Port) (x : PortState) :
    ServesOn s.checker (s.leaveService p x).checker := by
  have cancel := cancelProbe_servesOn (s.departed p x) p
  rw [departed_checker] at cancel
  rw [leaveService_eq, show ((s.departed p x).cancelProbe p).latchIfLost.checker =
    ((s.departed p x).cancelProbe p).checker by simp]
  exact cancel

theorem setback_servesOn (s : State) (p : Port) : ServesOn s.checker (s.setback p).checker :=
  cancelProbe_servesOn (s.setPort p _) p

theorem compareScore_servesOn (s : State) (p : Port) : ServesOn s.checker (s.compareScore p).checker := by
  obtain leaves | suspects | back | same := compareScore_cases s p
  · rw [leaves]; exact leaveService_servesOn s p _
  · rw [suspects]; exact .of_eq (by simp)
  · rw [back]; exact setback_servesOn s p
  · rw [same]; exact .refl _

theorem lineEvent_servesOn (s : State) (p : Port) (e : LineEvent) : ServesOn s.checker (s.lineEvent p e).checker :=
  compareScore_servesOn (s.weighed p e) p

theorem actOnVerdict_servesOn (s : State) (e : ProbeEntry) (pass : Bool) :
    ServesOn s.checker (s.actOnVerdict e pass).checker := by
  have failed : ServesOn s.checker ((s.addScore e.port (s.param .probeFailWeight)).compareScore e.port).checker :=
    compareScore_servesOn (s.addScore e.port _) e.port
  unfold actOnVerdict
  split
  · split_ifs
    · exact .of_eq (by simp)
    · exact .refl _
  · split_ifs
    · exact .refl _
    · exact failed
  · split_ifs
    · exact .refl _
    · exact failed
  · split_ifs
    · exact .refl _
    · exact .refl _
  · exact .refl _

theorem finishProbe_servesOn (s : State) (e : ProbeEntry) : ServesOn s.checker (s.finishProbe e).checker := by
  have idle : ServesOn s.checker s.checker.toIdle := ⟨fun _ h => h, .inr fun e h => by cases h⟩
  unfold finishProbe
  exact (idle.trans (actOnVerdict_servesOn ((s.setChecker s.checker.toIdle).raise _) e _)).trans
    (takeProbe_servesOn _)

/-- R86: a seeding octet keeps the entry, the queue and the transmit generator. -/
theorem seed_kept {k : Checker} {e : ProbeEntry} (seeding : k.state = .seeding e) (o : Octet) :
    (k.seed e o).queue = k.queue ∧ (k.seed e o).state.entry = k.state.entry ∧
    (k.seed e o).generator = k.generator := by
  cases seeds : k.seeds with
  | nil => simp [Checker.seed, seeds]
  | cons first rest => simp [Checker.seed, seeds, seeding, CheckerState.entry]

theorem stepChecker_servesOn (s : State) : ServesOn s.checker s.stepChecker.checker := by
  cases started : s.checker.started with
  | false => rw [stepChecker_of_waiting s (.inl started)]; exact .of_same rfl rfl rfl
  | true =>
    cases state : s.checker.state with
    | idle => rw [stepChecker_of_waiting s (.inr state)]; exact .of_same rfl rfl rfl
    | seeding e =>
      obtain ⟨queue, entry, generator⟩ := seed_kept state ((s.returnedOctet e.port).getD 0)
      rw [stepChecker_of_seeding s started state]
      exact .of_same queue entry generator
    | counting e =>
      rw [stepChecker_of_counting s started state, countOctet]
      have compared : ServesOn s.checker
          { s.checker.compare (s.returnedOctet e.port) with returned := none } := .of_same rfl rfl rfl
      dsimp only
      split_ifs
      · exact compared.trans (finishProbe_servesOn (s.setChecker _) e)
      · exact compared

theorem hunted_servesOn (s : State) (order : List Port) (b : BitVec 8) :
    ServesOn s.checker (s.hunted order b).checker := by
  unfold hunted
  have fold (ports : List Port) (x : State) : ServesOn x.checker
      (ports.foldl (fun x p => if s.huntsThrough b p then x.lineEvent p .fae else x) x).checker := by
    induction ports generalizing x with
    | nil => exact .refl _
    | cons q ports ih =>
      rw [List.foldl_cons]
      refine ServesOn.trans ?_ (ih _)
      split_ifs
      · exact lineEvent_servesOn x q .fae
      · exact .refl _
  exact (stepChecker_servesOn s).trans (fold _ _)

end State

/-- R83, R85: under the laws of the probes, the generator of the entry served later is the one it had, or all ones
when the entry has been taken meanwhile. -/
theorem ServesOn.generator_eq {s : State} {k' : Checker} (serves : ServesOn s.checker k') (once : PortsOnce s)
    {e : ProbeEntry} (entry : k'.state.entry = some e) :
    k'.generator = if s.checker.state.entry = some e then s.checker.generator else 0x7FF#11 := by
  obtain ⟨-, ⟨same, generator⟩ | taken⟩ := serves
  · rw [generator, if_pos (same.symm.trans entry)]
  · obtain ⟨queued, ones⟩ := taken e entry
    rw [ones, if_neg]
    intro served
    have runs : s.checker.runsOn e.port = true := (runsOn_iff _ _).mpr ⟨e, served, rfl⟩
    exact once.not_mem_queue runs e queued rfl

end Sys2Proof.Machine
end

section
/-! FRAME_PERIOD: the octets that stand from the start of the frame that begins (R8, R47, R48, R83, R156, R162). -/

namespace Sys2Proof.Machine

/-- R161, R162: the check of a response brings its sum to 0. -/
theorem recordFramed (body : List Octet) : RecordFramed body := by
  refine ⟨_, rfl, ?_⟩
  rw [BitVec.toNat_ofNat]
  omega

theorem recordOctets_getElem? {body : List Octet} {n : Nat} (inside : n < body.length + 3) :
    (recordOctets body)[n]? = some (octetAt (recordOctets body) n) := by
  have length : n < (recordOctets body).length := by simp [recordOctets]; omega
  simp [octetAt, List.getElem?_eq_getElem length]

theorem recordOctets_getElem?_none {body : List Octet} {n : Nat} (beyond : body.length + 3 ≤ n) :
    (recordOctets body)[n]? = none := by
  refine List.getElem?_eq_none ?_
  simp [recordOctets]
  omega

namespace State

variable {s : State}

/-! ## Reads that the start of a frame leaves as they are -/

theorem raised_congr {t : State} (hosts : t.hosts = s.hosts) (sweep : t.sweep = s.sweep)
    (trunks : t.trunks = s.trunks) (h : HostId) (x : Source) : t.raised h x = s.raised h x := by
  have record : t.hostRecord h = s.hostRecord h := by simp only [hostRecord, hosts]
  cases x with
  | stranded =>
    have stranded : t.strandedHas = s.strandedHas := funext fun c => strandedHas_congr (by rw [sweep]) c
    simp only [raised, strandedCircuits, stranded]
  | stationAlarm =>
    have alarm : t.inAlarm = s.inAlarm := funext fun k => by
      have framer : t.trunk k = s.trunk k := by simp only [trunk, trunks]
      unfold inAlarm
      rw [framer]
    simp only [raised, alarmTrunks, alarm]
  | _ =>
    unfold raised
    rw [record]

theorem needsAttention_congr {t : State} (hosts : t.hosts = s.hosts) (sweep : t.sweep = s.sweep)
    (trunks : t.trunks = s.trunks) (h : HostId) : t.needsAttention h = s.needsAttention h := by
  have record : t.hostRecord h = s.hostRecord h := by simp only [hostRecord, hosts]
  have raised : t.raised h = s.raised h := funext (raised_congr hosts sweep trunks h)
  unfold needsAttention presentable urgency
  rw [record, raised]

theorem beginFrame_needsAttention (s : State) (h : HostId) :
    s.beginFrame.needsAttention h = s.needsAttention h :=
  needsAttention_congr (by simp) (by simp) (by simp) h

theorem beginFrame_hostOf (s : State) (p : Port) : s.beginFrame.hostOf p = s.hostOf p := by
  simp [hostOf]

theorem beginFrame_port (s : State) (p : Port) : s.beginFrame.port p = s.port p :=
  port_congr (by simp) p

theorem beginFrame_serving (s : State) (p : Port) : s.beginFrame.serving p = s.serving p := by
  have framer : (s.beginFrame.pathRx p).framer = (s.pathRx p).framer := by simp [beginFrame, pathRx]
  simp only [serving, framer, beginFrame_port]

theorem beginFrame_control (s : State) (p : Port) : s.beginFrame.control p = s.controlBegins p := by
  simp [beginFrame, control]

theorem beginFrame_head (s : State) (p : Port) : s.beginFrame.exch.heads[p] = s.headOf p := by
  simp [beginFrame]

theorem beginFrame_map (s : State) : s.beginFrame.exch.map = s.beginFrame.occ := by
  simp only [beginFrame]

theorem beginFrame_toHost (s : State) (c : Circuit) : s.beginFrame.exch.toHost[c] = none := by
  simp only [beginFrame, Fin.getElem_fin, Vector.getElem_replicate]

theorem beginFrame_toStation (s : State) (c : Circuit) : s.beginFrame.exch.toStation[c] = none := by
  simp only [beginFrame, Fin.getElem_fin, Vector.getElem_replicate]

theorem beginFrame_view (s : State) (c : Circuit) :
    s.beginFrame.exch.view[c] = viewOf (s.beginFrame.route c).standing := by
  have view : s.beginFrame.exch.view[c] = viewOf (s.route c).standing := by
    simp only [beginFrame, Fin.getElem_fin, Vector.getElem_ofFn]
  rw [view, beginFrame_route]
  cases (s.route c).standing <;> rfl

/-! ## The head octets of a frame -/

theorem alignmentOctet_eq (s : State) (p : Port) : s.alignmentOctet p =
    if (s.port p).state = .disabled ∨ (s.port p).state.looped then 0x9A else 0x9B := by
  unfold alignmentOctet
  cases (s.port p).state <;> simp [PortState.looped]

theorem idleOctet_eq (s : State) (p : Port) :
    s.idleOctet p = if s.needsAttention (s.hostOf p) then 0x0F else 0x00 := rfl

theorem controlSlotOctet_of_idle {p : Port} (out : s.serving p = false) :
    s.controlSlotOctet p = (0x00, false) := by
  simp only [controlSlotOctet, out, Bool.not_false, if_true]

theorem controlSlotOctet_of_empty {p : Port} (serves : s.serving p = true)
    (none : (s.control p).responses = []) : s.controlSlotOctet p = (s.idleOctet p, false) := by
  simp only [controlSlotOctet, serves, Bool.not_true, Bool.false_eq_true, if_false, none]

theorem controlSlotOctet_of_sending {p : Port} {body : List Octet} {rest : List (List Octet)}
    (serves : s.serving p = true) (responses : (s.control p).responses = body :: rest)
    (more : (s.control p).sent < body.length + 3) :
    s.controlSlotOctet p = (octetAt (recordOctets body) (s.control p).sent, true) := by
  simp only [controlSlotOctet, serves, Bool.not_true, Bool.false_eq_true, if_false, responses,
    recordOctets_getElem? more]

theorem controlSlotOctet_of_sent {p : Port} {body : List Octet} {rest : List (List Octet)}
    (serves : s.serving p = true) (responses : (s.control p).responses = body :: rest)
    (sent : body.length + 3 ≤ (s.control p).sent) :
    s.controlSlotOctet p = (s.idleOctet p, false) := by
  simp only [controlSlotOctet, serves, Bool.not_true, Bool.false_eq_true, if_false, responses,
    recordOctets_getElem?_none sent]

theorem counted_control (s : State) (order : List Port) (a b : BitVec 8) (p : Port) :
    (s.counted order a b).control p = s.control p := by
  obtain ⟨-, -, ctl, -⟩ := s.hunted_frame order b
  have kept : (s.counted order a b).ctl = (s.hunted order b).ctl := by simp [counted, onLines]
  exact control_congr (kept.trans ctl) p

theorem counted_checker (s : State) (order : List Port) (a b : BitVec 8) :
    (s.counted order a b).checker = (s.hunted order b).checker := by
  simp [counted]

end State

end Sys2Proof.Machine

section

open Sys2Proof Sys2Proof.Machine Sys2Proof.Machine.State

/-- Settles O5: the head octets of the frame, read off the state in which it begins. -/
theorem nextFrameBegins : Obligations.NextFrameBegins := by
  refine ⟨recordFramed, attentionRule, fun s order a b => ⟨_, s.exec_framePeriod order a b, ?_⟩⟩
  rw [framePeriod_eq_beginFrame]
  have responses := counted_control s order a b
  have serves := s.hunted_servesOn order b
  rw [← counted_checker s order a b] at serves
  generalize s.counted order a b = x at responses serves
  refine ⟨beginFrame_map x, fun c => ⟨beginFrame_toHost x c, beginFrame_toStation x c, ?_⟩, fun p => ?_⟩
  · rw [beginFrame_view]
    generalize (x.beginFrame.route c).standing = y
    cases y <;> rfl
  rw [beginFrame_head, beginFrame_serving, beginFrame_port, beginFrame_needsAttention, beginFrame_hostOf,
    beginFrame_control, ← responses p]
  refine ⟨alignmentOctet_eq x p, fun out => ?_, fun serving none => ?_, fun body rest serving waits more => ?_,
    fun body rest serving waits sent => ?_, fun idle => ?_, fun e g laws entry hg => ?_⟩
  · simp only [headOf, controlSlotOctet_of_idle out]
  · simp only [headOf, controlSlotOctet_of_empty serving none, idleOctet_eq]
  · simp only [headOf, controlBegins, controlSlotOctet_of_sending serving waits more, if_true, and_self]
  · simp only [headOf, controlBegins, controlSlotOctet_of_sent serving waits sent, idleOctet_eq,
      Bool.false_eq_true, if_false, and_self]
  · rw [beginFrame_checker] at idle
    have idle : x.checker.state.entry = none := by
      split_ifs at idle with none
      · exact none
      · exact idle
    simp only [headOf, Checker.runsOn, idle, Bool.false_eq_true, if_false]
  · rw [beginFrame_checker] at entry ⊢
    have served : x.checker.state.entry = some e := by
      split_ifs at entry with none
      · exact entry
      · exact entry
    have running : x.checker.state.entry ≠ none := by simp [served]
    have generator : x.checker.generator = g := (serves.generator_eq laws.1 served).trans hg.symm
    rw [if_neg running]
    refine ⟨rfl, by rw [generator], ?_⟩
    simp only [headOf, Checker.runsOn, served, generator, decide_eq_true_eq, eq_comm (a := p)]

end

end

section
/-! FRAME_PERIOD: the FAE of each port that hunts the whole period (R55, R62, R63). -/

namespace Sys2Proof.Machine

/-- R63: the timers of the ports do not bear on the comparison. -/
theorem ScoreCompared.timer {s t u : State} {p : Port} (compared : ScoreCompared s t p) {f : Nat → Nat}
    (record : u.port p = { t.port p with failBack := (t.port p).failBack.map f })
    (handed : u.handed = t.handed) : ScoreCompared s u p := by
  obtain ⟨departs, suspects, rest⟩ := compared
  simp only [ScoreCompared, record, handed]
  refine ⟨fun service low => ?_, fun h low sus => ?_, rest⟩
  · obtain ⟨state, q, timer, kept⟩ := departs service low
    exact ⟨state, q, by rw [timer]; rfl, kept⟩
  · obtain ⟨state, q, timer, kept⟩ := suspects h low sus
    exact ⟨state, q, by rw [timer]; rfl, kept⟩

namespace State

variable {s : State}

/-! ## The score and the counts of another port -/

theorem leaveService_counts_other (s : State) (p : Port) (x : PortState) {q : Port} (ne : q ≠ p) :
    ((s.leaveService p x).port q).h = (s.port q).h ∧
    ((s.leaveService p x).port q).counts = (s.port q).counts := by
  rw [leaveService_eq, latchIfLost_port]
  simp [ne]

theorem compareScore_counts_other (s : State) (p : Port) {q : Port} (ne : q ≠ p) :
    ((s.compareScore p).port q).h = (s.port q).h ∧
    ((s.compareScore p).port q).counts = (s.port q).counts := by
  obtain leaves | suspects | back | same := compareScore_cases s p
  · rw [leaves]; exact leaveService_counts_other s p _ ne
  · rw [suspects, enterSuspect_port, if_neg ne]; exact ⟨rfl, rfl⟩
  · rw [back]; exact setback_port_score s p q
  · rw [same]; exact ⟨rfl, rfl⟩

theorem lineEvent_counts_other (s : State) (p : Port) (e : LineEvent) {q : Port} (ne : q ≠ p) :
    ((s.lineEvent p e).port q).h = (s.port q).h ∧
    ((s.lineEvent p e).port q).counts = (s.port q).counts := by
  rw [lineEvent_eq, ← weighed_port_other s p e ne]
  exact compareScore_counts_other (s.weighed p e) p ne

/-! ## The FAEs of the other ports -/

/-- R55: the FAEs of a list of ports, by the signal of the period. -/
def huntFaes (s : State) (b : BitVec 8) (ports : List Port) (x : State) : State :=
  ports.foldl (fun x p => if s.huntsThrough b p then x.lineEvent p .fae else x) x

theorem huntFaes_cons (b : BitVec 8) (q : Port) (ports : List Port) (x : State) :
    s.huntFaes b (q :: ports) x =
      s.huntFaes b ports (if s.huntsThrough b q then x.lineEvent q .fae else x) := rfl

theorem huntFaes_counts_other {b : BitVec 8} {p : Port} {ports : List Port} (other : p ∉ ports) (x : State) :
    ((s.huntFaes b ports x).port p).h = (x.port p).h ∧
    ((s.huntFaes b ports x).port p).counts = (x.port p).counts := by
  induction ports generalizing x with
  | nil => exact ⟨rfl, rfl⟩
  | cons q ports ih =>
    obtain ⟨ne, other⟩ := List.ne_and_not_mem_of_not_mem_cons other
    obtain ⟨h, counts⟩ := ih other (if s.huntsThrough b q then x.lineEvent q .fae else x)
    rw [huntFaes_cons, h, counts]
    split_ifs
    · exact lineEvent_counts_other x q .fae ne
    · exact ⟨rfl, rfl⟩

theorem huntFaes_probeCore {b : BitVec 8} {x : State} (core : ProbeCore x) (ports : List Port) :
    ProbeCore (s.huntFaes b ports x) := by
  induction ports generalizing x with
  | nil => exact core
  | cons q ports ih =>
    rw [huntFaes_cons]
    refine ih ?_
    split_ifs
    · exact (x.lineEvent_probeKept q .fae core).1
    · exact core

theorem huntFaes_port_other {b : BitVec 8} {p : Port} {ports : List Port} (other : p ∉ ports) {x : State}
    (core : ProbeCore x) : Probed (x.port p) ((s.huntFaes b ports x).port p) := by
  induction ports generalizing x with
  | nil => exact .refl _
  | cons q ports ih =>
    obtain ⟨ne, other⟩ := List.ne_and_not_mem_of_not_mem_cons other
    rw [huntFaes_cons]
    split_ifs
    · exact (lineEvent_port_other core q .fae ne).trans (ih other (x.lineEvent_probeKept q .fae core).1)
    · exact ih other core

theorem huntFaes_handsOn (b : BitVec 8) (ports : List Port) (x : State) :
    HandsOn x.handed (s.huntFaes b ports x).handed := by
  induction ports generalizing x with
  | nil => exact .refl _
  | cons q ports ih =>
    rw [huntFaes_cons]
    refine HandsOn.trans ?_ (ih _)
    split_ifs
    · exact lineEvent_handsOn x q .fae
    · exact .refl _

theorem huntFaes_params (b : BitVec 8) (ports : List Port) (x : State) :
    (s.huntFaes b ports x).params = x.params := by
  induction ports generalizing x with
  | nil => rfl
  | cons q ports ih =>
    rw [huntFaes_cons, ih]
    split_ifs
    · exact (lineEvent_frame x q .fae).2.2.2.2.2.2.2.1
    · rfl

/-! ## The FAE of one port among the others -/

/-- The FAEs of all the ports, with those before and those after a port. -/
theorem hunted_split (s : State) (order : List Port) (b : BitVec 8) (p : Port) :
    ∃ before after, p ∉ before ∧ p ∉ after ∧ s.hunted order b = s.huntFaes b after
      (if s.huntsThrough b p then (s.huntFaes b before s.stepChecker).lineEvent p .fae
        else s.huntFaes b before s.stepChecker) := by
  obtain ⟨before, after, split⟩ := List.append_of_mem (mem_portOrder order p)
  have nodup := nodup_portOrder order
  rw [split, List.nodup_append] at nodup
  obtain ⟨-, last, apart⟩ := nodup
  refine ⟨before, after, fun h => apart p h p List.mem_cons_self rfl, (List.nodup_cons.mp last).1, ?_⟩
  unfold hunted huntFaes
  rw [split, List.foldl_append, List.foldl_cons]

theorem hunted_of_quiet {order : List Port} {b : BitVec 8} {p : Port} (quiet : s.huntsThrough b p = false) :
    ((s.hunted order b).port p).h = (s.stepChecker.port p).h ∧
    ((s.hunted order b).port p).counts = (s.stepChecker.port p).counts := by
  obtain ⟨before, after, first, last, split⟩ := s.hunted_split order b p
  obtain ⟨h, counts⟩ := huntFaes_counts_other (s := s) (b := b) first s.stepChecker
  obtain ⟨h', counts'⟩ := huntFaes_counts_other (s := s) (b := b) last (s.huntFaes b before s.stepChecker)
  rw [split, quiet, if_neg (by simp)]
  exact ⟨h'.trans h, counts'.trans counts⟩

theorem hunted_of_hunts {order : List Port} {b : BitVec 8} {p : Port} (hunts : s.huntsThrough b p = true) :
    ((s.hunted order b).port p).h = scored (s.stepChecker.port p).h (s.param .faeWeight) ∧
    ((s.hunted order b).port p).counts.fae = min 65535 ((s.stepChecker.port p).counts.fae + 1) ∧
    (ProbeLaws s → ScoreCompared s.stepChecker (s.hunted order b) p) := by
  obtain ⟨before, after, first, last, split⟩ := s.hunted_split order b p
  rw [if_pos hunts] at split
  have params : (s.huntFaes b before s.stepChecker).params = s.stepChecker.params := huntFaes_params b _ _
  have weight : (s.huntFaes b before s.stepChecker).weight .fae = s.param .faeWeight :=
    param_congr (params.trans (by simp)) _
  obtain ⟨h, counts⟩ := huntFaes_counts_other (s := s) (b := b) first s.stepChecker
  obtain ⟨h', counts'⟩ := huntFaes_counts_other (s := s) (b := b) last
    ((s.huntFaes b before s.stepChecker).lineEvent p .fae)
  have score := lineEvent_h (s.huntFaes b before s.stepChecker) p p .fae
  obtain ⟨fae, -⟩ := lineEvent_counts (s.huntFaes b before s.stepChecker) p p .fae
  rw [if_pos rfl] at score fae
  rw [split]
  refine ⟨by rw [h', score, h, weight], by rw [counts', fae, counts]; rfl, fun laws => ?_⟩
  have start : ProbeCore s.stepChecker := (s.stepChecker_probeLaws laws).core
  have core : ProbeCore (s.huntFaes b before s.stepChecker) := huntFaes_probeCore start before
  exact ((lineEvent_scoreCompared core p .fae).later
    (huntFaes_port_other last (lineEvent_probeKept _ p .fae core).1) (huntFaes_handsOn b after _)).earlier
      params (huntFaes_port_other first start)

theorem huntsThrough_iff (s : State) (b : BitVec 8) (p : Port) : s.huntsThrough b p = true ↔
    (s.pathRx p).beganHunting = true ∧ (s.pathRx p).framer.state = .hunting ∧
      (b.getLsbD p.val = true ∨ (s.pathRx p).framer.measure.sinceTransition.val < 7) := by
  simp [huntsThrough, and_assoc]

/-- The record of a port as the frame period leaves it, its fail-back timer ticked or not. -/
theorem framePeriod_port (s : State) (order : List Port) (a b : BitVec 8) (p : Port) :
    ∃ f : Nat → Nat, (s.framePeriod order a b).port p = { (s.hunted order b).port p with
      failBack := ((s.hunted order b).port p).failBack.map f } := by
  by_cases tick : (s.time.frames + 1) % 8 = 0
  · obtain ⟨port, -⟩ := s.framePeriod_tick (order := order) (a := a) (b := b) tick
    exact ⟨_, port p⟩
  · obtain ⟨ports, -⟩ := s.framePeriod_quiet (order := order) (a := a) (b := b) tick
    refine ⟨id, ?_⟩
    rw [port_congr ports, Option.map_id, id]

end State

end Sys2Proof.Machine

section

open Sys2Proof Sys2Proof.Machine Sys2Proof.Machine.State

/-- Settles O6: the FAE of a port falls between those of the ports before it and after it, which leave its score and
its counts. -/
theorem huntingPeriodIsFae : Obligations.HuntingPeriodIsFae := by
  rintro s order a b u rfl
  refine ⟨_, s.exec_framePeriod order a b, fun p => ?_⟩
  obtain ⟨f, port⟩ := s.framePeriod_port order a b p
  obtain ⟨-, -, -, -, -, -, handed⟩ := s.framePeriod_frame order a b
  rw [← huntsThrough_iff]
  refine ⟨fun hunts => ?_, fun quiet => ?_⟩
  · obtain ⟨h, fae, compared⟩ := hunted_of_hunts (order := order) hunts
    exact ⟨by rw [port]; exact h, by rw [port]; exact fae, fun laws => (compared laws).timer port handed⟩
  · obtain ⟨h, counts⟩ := hunted_of_quiet (order := order) (Bool.eq_false_iff.mpr quiet)
    exact ⟨by rw [port]; exact h, by rw [port]; exact counts⟩

end

end

section
/-! What the decay tick at one port can be (R65 to R70, R93), and what it leaves of the other ports, of what has been
handed on and of the circuits. -/

namespace Sys2Proof.Machine

theorem ProbeKept.core {s t : State} (kept : ProbeKept s t) (core : ProbeCore s) : ProbeCore t := (kept core).1

/-- The comparison of a decay tick at a port, by what it does to the card. -/
inductive TickStep (s : State) (p : Port) : State → Prop where
  | leaves : TickStep s p (s.leaveService p .down)
  | suspects : TickStep s p (s.enterSuspect p)
  /-- SUSPECT, or DOWN with its quiet count in the record -/
  | up {r : PortRecord} (out : (s.port p).state ≠ .up) (quiet : r.state = (s.port p).state) :
      TickStep s p ((s.setPort p r).enterUp p)
  | awaits {r : PortRecord} (down : (s.port p).state = .down) (await : r.state = .awaitProbe) :
      TickStep s p ((s.setPort p r).joinProbeQueue ⟨p, .recovery⟩)
  /-- the quiet count, the verdict, or nothing -/
  | writes {r : PortRecord} (up : r.state = .up → (s.port p).state = .up) : TickStep s p (s.setPort p r)
  | raises {r : PortRecord} (o : Occurrence) (up : r.state ≠ .up) : TickStep s p ((s.setPort p r).raise o)

namespace State

variable {s : State}

theorem setPort_twice (s : State) (p : Port) (r r' : PortRecord) :
    (s.setPort p r).setPort p r' = s.setPort p r' := by
  simp [setPort]

theorem TickStep.stays (s : State) (p : Port) : TickStep s p s := by
  have same := TickStep.writes (s := s) (p := p) (r := s.port p) id
  rwa [setPort_self] at same

theorem endQuiet_step {p : Port} (down : (s.port p).state = .down) (n : Nat) :
    TickStep s p ((s.setPort p { s.port p with state := .down, q := n }).endQuiet p) := by
  unfold endQuiet
  split_ifs
  · rw [setPort_twice]
    exact .awaits down rfl
  · exact .up (by simp [down]) down.symm

theorem compareTick_step (s : State) (p : Port) : TickStep s p (s.compareTick p) := by
  cases state : (s.port p).state with
  | up =>
    simp only [compareTick, state]
    split_ifs
    · exact .leaves
    · exact .suspects
    · exact TickStep.stays s p
  | suspect =>
    simp only [compareTick, state]
    split_ifs
    · exact .leaves
    · have up := TickStep.up (s := s) (p := p) (r := s.port p) (by simp [state]) rfl
      rwa [setPort_self] at up
    · exact TickStep.stays s p
  | down =>
    simp only [compareTick, state]
    split_ifs
    · exact endQuiet_step state _
    · exact .writes (by simp)
  | awaitProbe | probing | disabled =>
    simp only [compareTick, state]
    exact TickStep.stays s p
  | loopback ready v =>
    simp only [compareTick, state]
    cases v with
    | up | suspect =>
      dsimp only
      split_ifs
      · exact .raises _ (by simp)
      · exact .raises _ (by simp)
      · exact TickStep.stays s p
    | down =>
      dsimp only
      split_ifs
      · exact .raises _ (by simp)
      · exact .writes (by simp)

/-- R66: the score of a port after one tick, before its comparison. -/
def decayedAt (s : State) (p : Port) : State :=
  s.setPort p { s.port p with h := decayed (s.port p).h (s.param .decayFactor) }

theorem decayPort_eq (s : State) (p : Port) : s.decayPort p = (s.decayedAt p).compareTick p := rfl

theorem decayPort_step (s : State) (p : Port) : TickStep (s.decayedAt p) p (s.decayPort p) :=
  compareTick_step (s.decayedAt p) p

theorem decayedAt_port_self (s : State) (p : Port) : (s.decayedAt p).port p =
    { s.port p with h := decayed (s.port p).h (s.param .decayFactor) } := port_setPort_self s p _

theorem decayedAt_port_other (s : State) {p q : Port} (ne : q ≠ p) : (s.decayedAt p).port q = s.port q :=
  port_setPort_ne s ne _

theorem decayedAt_core (core : ProbeCore s) (p : Port) : ProbeCore (s.decayedAt p) :=
  ProbeKept.core (by apply setPort_probeKept; rfl) core

end State

namespace TickStep

open State

variable {s t : State} {p : Port}

/-- The other ports keep their records, or are taken into PROBING. -/
theorem port_other (step : TickStep s p t) (core : ProbeCore s) {q : Port} (ne : q ≠ p) :
    Probed (s.port q) (t.port q) := by
  cases step with
  | leaves => exact leaveService_port_other core p _ ne
  | suspects => left; rw [enterSuspect_port, if_neg ne]
  | up out quiet => left; rw [enterUp_port, if_neg ne, port_setPort_ne s ne]
  | @awaits r down await =>
    have taken := takeProbe_port_probed (s.awaiting_core down await core).oldestAwaits q
    rw [setChecker_port, port_setPort_ne s ne] at taken
    exact taken
  | writes up => left; exact port_setPort_ne s ne _
  | raises o up => left; exact port_setPort_ne s ne _

theorem handsOn (step : TickStep s p t) : HandsOn s.handed t.handed := by
  cases step with
  | leaves => exact leaveService_handsOn s p _
  | suspects => exact enterSuspect_handsOn s p
  | @up r out quiet => exact enterUp_handsOn (s.setPort p r) p
  | awaits down await => exact .of_eq (by simp)
  | writes up => exact .refl _
  | @raises r o up => exact raise_handsOn (s.setPort p r) o

/-- A slot that is free stays free. -/
theorem holder_none (step : TickStep s p t) {q : PathSlot} (free : s.holder q = none) : t.holder q = none := by
  cases step with
  | leaves =>
    obtain ⟨-, holder, -⟩ := leaveService_departure s p .down
    rw [holder, departSlot, free]
    split_ifs <;> rfl
  | suspects => exact (holder_congr (by simp) q).trans free
  | up out quiet => exact (holder_congr (by simp) q).trans free
  | awaits down await => exact (holder_congr (by simp) q).trans free
  | writes up => exact free
  | raises o up => exact free

/-- R12: the stranded circuits stay, but for an entry into UP. -/
theorem strandedStay (step : TickStep s p t) (up : (t.port p).state = .up → (s.port p).state = .up) :
    StrandedStay s t := fun c stranded => by
  cases step with
  | leaves =>
    obtain ⟨route, -, -, -, kept⟩ := leaveService_departure s p .down
    rw [route, kept, departRoute_of_stranded stranded]
    exact ⟨rfl, rfl⟩
  | suspects => exact ⟨route_congr (by simp) c, strandedHas_congr (by simp) c⟩
  | up out quiet => exact absurd (up (by rw [enterUp_port, if_pos rfl])) out
  | awaits down await => exact ⟨route_congr (by simp) c, strandedHas_congr (by simp) c⟩
  | writes up => exact ⟨rfl, rfl⟩
  | raises o up => exact ⟨rfl, rfl⟩

end TickStep

/-! ## The stranded circuits through capacity events (R12) -/

/-- A circuit that waits in the queue as DISPLACED, its route else as given. -/
def WaitsAs (r : Route) (t : State) (c : Circuit) : Prop :=
  t.route c = { r with standing := .displaced } ∧ t.queued c = true ∧ t.strandedHas c = false

/-- A circuit that is STRANDED in the route given, or waits since a capacity event. -/
def StrandedOrWaits (r : Route) (t : State) (c : Circuit) : Prop :=
  (t.route c = r ∧ r.standing = .stranded ∧ t.strandedHas c = true) ∨ WaitsAs r t c

namespace State

variable {s : State} {r : Route} {c : Circuit}

theorem WaitsAs.of_same {t : State} (waits : WaitsAs r s c) (routes : t.routes = s.routes)
    (sweep : t.sweep = s.sweep) : WaitsAs r t c := by
  obtain ⟨route, queued, stranded⟩ := waits
  exact ⟨(route_congr routes c).trans route, (queued_congr (congrArg Sweep.queued sweep) c).trans queued,
    (strandedHas_congr (congrArg Sweep.stranded sweep) c).trans stranded⟩

theorem StrandedOrWaits.of_same {t : State} (kept : StrandedOrWaits r s c) (routes : t.routes = s.routes)
    (sweep : t.sweep = s.sweep) : StrandedOrWaits r t c := by
  obtain ⟨route, standing, stranded⟩ | waits := kept
  · exact .inl ⟨(route_congr routes c).trans route, standing,
      (strandedHas_congr (congrArg Sweep.stranded sweep) c).trans stranded⟩
  · exact .inr (WaitsAs.of_same waits routes sweep)

theorem departRoute_of_displaced {p : Port} {x : Route} (displaced : x.standing = .displaced) :
    departRoute p x = x := by
  simp only [departRoute, displaced]

theorem leaveService_waits (waits : WaitsAs r s c) (p : Port) (x : PortState) :
    WaitsAs r (s.leaveService p x) c := by
  obtain ⟨route, queued, stranded⟩ := waits
  obtain ⟨route', -, -, queued', stranded'⟩ := leaveService_departure s p x
  refine ⟨?_, by rw [queued', queued, Bool.true_or], (stranded' c).trans stranded⟩
  rw [route', route, departRoute_of_displaced rfl]

theorem leaveService_strandedOrWaits (kept : StrandedOrWaits r s c) (p : Port) (x : PortState) :
    StrandedOrWaits r (s.leaveService p x) c := by
  obtain ⟨route, standing, stranded⟩ | waits := kept
  · obtain ⟨route', -, -, -, stranded'⟩ := leaveService_departure s p x
    refine .inl ⟨?_, standing, (stranded' c).trans stranded⟩
    rw [route', route, departRoute_of_stranded standing]
  · exact .inr (leaveService_waits waits p x)

/-- What an entry into UP does to the circuits. -/
theorem enterUp_circuits (s : State) (p : Port) (c : Circuit) :
    (s.enterUp p).route c =
      (if s.strandedHas c then { s.route c with standing := .displaced } else s.route c) ∧
    (s.enterUp p).queued c = (s.queued c || s.strandedHas c) ∧ (s.enterUp p).strandedHas c = false := by
  unfold enterUp
  dsimp only
  rw [settleSweep_route, queued_settleSweep, strandedHas_settleSweep, route_capacityEvent,
    queued_capacityEvent, strandedHas_capacityEvent]
  exact ⟨rfl, rfl, rfl⟩

/-- R12: an entry into UP returns a stranded circuit to the queue. -/
theorem enterUp_waits (kept : StrandedOrWaits r s c) (p : Port) : WaitsAs r (s.enterUp p) c := by
  obtain ⟨route', queued', stranded'⟩ := enterUp_circuits s p c
  obtain ⟨route, standing, stranded⟩ | ⟨route, queued, stranded⟩ := kept
  · exact ⟨by rw [route', stranded, route]; rfl, by rw [queued', stranded, Bool.or_true], stranded'⟩
  · exact ⟨by rw [route', stranded, route]; rfl, by rw [queued', queued, Bool.true_or], stranded'⟩

theorem TickStep.waits {t : State} {p : Port} (step : TickStep s p t) (waits : WaitsAs r s c) :
    WaitsAs r t c := by
  cases step with
  | leaves => exact leaveService_waits waits p _
  | suspects => exact WaitsAs.of_same waits (by simp) (by simp)
  | @up x out quiet => exact enterUp_waits (s := s.setPort p x) (.inr waits) p
  | awaits down await => exact WaitsAs.of_same waits (by simp) (by simp)
  | writes up => exact waits
  | raises o up => exact waits

theorem TickStep.strandedOrWaits {t : State} {p : Port} (step : TickStep s p t)
    (kept : StrandedOrWaits r s c) : StrandedOrWaits r t c := by
  cases step with
  | leaves => exact leaveService_strandedOrWaits kept p _
  | suspects => exact StrandedOrWaits.of_same kept (by simp) (by simp)
  | @up x out quiet => exact .inr (enterUp_waits (s := s.setPort p x) kept p)
  | awaits down await => exact StrandedOrWaits.of_same kept (by simp) (by simp)
  | writes up => exact kept
  | raises o up => exact kept

end State

end Sys2Proof.Machine
end

section
/-! A decay tick through the records it reaches before and after the one asked about (R65). -/

namespace Sys2Proof.Machine

open State

/-- What the rest of a decay tick leaves, as a port and the circuits see it. -/
structure TickElsewhere (p : Port) (s t : State) : Prop where
  laws : ProbeLaws t
  port : Probed (s.port p) (t.port p)
  handsOn : HandsOn s.handed t.handed
  params : t.params = s.params
  rx : t.rx = s.rx
  free : ∀ {q : PathSlot}, s.holder q = none → t.holder q = none
  waits : ∀ {r : Route} {c : Circuit}, WaitsAs r s c → WaitsAs r t c
  strandedOrWaits : ∀ {r : Route} {c : Circuit}, StrandedOrWaits r s c → StrandedOrWaits r t c

namespace TickElsewhere

variable {p : Port} {s t u : State}

theorem refl (p : Port) (laws : ProbeLaws s) : TickElsewhere p s s :=
  ⟨laws, .refl _, .refl _, rfl, rfl, id, id, id⟩

theorem trans (a : TickElsewhere p s t) (b : TickElsewhere p t u) : TickElsewhere p s u :=
  ⟨b.laws, a.port.trans b.port, a.handsOn.trans b.handsOn, b.params.trans a.params, b.rx.trans a.rx,
    fun h => b.free (a.free h), fun h => b.waits (a.waits h), fun h => b.strandedOrWaits (a.strandedOrWaits h)⟩

end TickElsewhere

namespace State

variable {s : State}

theorem examineGroup_eq (s : State) (g : Group) : ∃ r, s.examineGroup g = s.setGroup g r := by
  unfold examineGroup
  dsimp only
  split_ifs
  · exact ⟨_, rfl⟩
  · exact ⟨s.group g, (s.setGroup_self g).symm⟩

theorem decayRecord_probeLaws (laws : ProbeLaws s) (r : DecayRecord) : ProbeLaws (s.decayRecord r) := by
  cases r with
  | port q => exact decayPort_probeLaws _ q laws
  | group g =>
    obtain ⟨r, shape⟩ := s.examineGroup_eq g
    exact (congrArg ProbeLaws shape).mpr laws

theorem decayRecord_elsewhere (laws : ProbeLaws s) {p : Port} {r : DecayRecord} (ne : r ≠ .port p) :
    TickElsewhere p s (s.decayRecord r) := by
  cases r with
  | port q =>
    have other : p ≠ q := by
      rintro rfl
      exact ne rfl
    have step := s.decayPort_step q
    exact
      { laws := decayPort_probeLaws _ q laws
        port := by
          have kept := step.port_other (decayedAt_core laws.core q) other
          rwa [decayedAt_port_other s other] at kept
        handsOn := step.handsOn
        params := (decayRecord_frame (s := s) (.port q)).2.2.2.2.2.2.1
        rx := (decayRecord_frame (s := s) (.port q)).2.2.1
        free := fun free => step.holder_none free
        waits := fun waits => TickStep.waits step (WaitsAs.of_same waits rfl rfl)
        strandedOrWaits := fun kept => TickStep.strandedOrWaits step (StrandedOrWaits.of_same kept rfl rfl) }
  | group g =>
    obtain ⟨r, shape⟩ := s.examineGroup_eq g
    have group : s.decayRecord (.group g) = s.setGroup g r := shape
    rw [group]
    exact ⟨laws, .refl _, .refl _, rfl, rfl, id, id, id⟩

/-- The records of a tick, but for that of the port. -/
theorem foldl_decayRecord_elsewhere {p : Port} {records : List DecayRecord} (unreached : .port p ∉ records)
    (laws : ProbeLaws s) : TickElsewhere p s (records.foldl decayRecord s) := by
  induction records generalizing s with
  | nil => exact .refl p laws
  | cons r rest ih =>
    have step := decayRecord_elsewhere laws (List.ne_of_not_mem_cons unreached).symm
    exact step.trans (ih (List.not_mem_of_not_mem_cons unreached) step.laws)

/-- R65: a tick that is due reaches the record of a port once, after some of the others and before the rest. -/
theorem decayTick_around (laws : ProbeLaws s) (due : 0 < s.time.decayDue) (order : List DecayRecord) (p : Port) :
    ∃ x t, exec (.decayTick order) s = .next t ∧ TickElsewhere p s x ∧
      TickElsewhere p (x.decayPort p) t := by
  obtain ⟨before, after, split⟩ := List.append_of_mem (mem_decayOrder order (.port p))
  have once := nodup_decayOrder order
  rw [split] at once
  obtain ⟨-, ⟨fresh, -⟩, apart⟩ : before.Nodup ∧ (_ ∧ _) ∧ _ := by
    simpa only [List.nodup_append, List.nodup_cons] using once
  have unreached : .port p ∉ before := fun reached => apart _ reached _ List.mem_cons_self rfl
  have taken : TickElsewhere p s (s.setTime { s.time with decayDue := s.time.decayDue - 1 }) :=
    ⟨laws, .refl _, .refl _, rfl, rfl, id, id, id⟩
  have first := taken.trans (foldl_decayRecord_elsewhere unreached taken.laws)
  refine ⟨_, _, exec_decayTick_of_due due order, first, ?_⟩
  rw [split, List.foldl_append, List.foldl_cons]
  exact foldl_decayRecord_elsewhere fresh (decayPort_probeLaws _ p first.laws)

end State

end Sys2Proof.Machine
end

section
/-! The comparison of a decay tick, branch by branch (R67, R69, R70, R93). -/

namespace Sys2Proof.Machine

namespace State

variable {s : State} {p : Port}

theorem quiet_iff (s : State) (p : Port) :
    s.quiet p = true ↔ (s.port p).h ≤ s.param .recoverBelow ∧ (s.pathRx p).farEndReady = true ∧
      (s.port p).losHold = false ∧ (s.pathRx p).framer.state ≠ .noSignal := by
  simp [quiet, and_assoc]

theorem nextQ_of_quiet (quiet : s.quiet p = true) : s.nextQ p = (s.port p).q + 1 := if_pos quiet

theorem nextQ_of_busy (busy : ¬ s.quiet p = true) : s.nextQ p = 0 := if_neg busy

theorem recovers_iff (s : State) (p : Port) :
    s.recovers p = true ↔ s.quiet p = true ∧ s.param .recoverTicks ≤ (s.port p).q + 1 := by
  simp [recovers]

/-! ## In service -/

theorem compareTick_of_departs (service : s.inService p = true) (down : s.param .downAt ≤ (s.port p).h) :
    s.compareTick p = s.leaveService p .down := by
  obtain up | suspect := (inService_iff s p).mp service
  · simp only [compareTick, up, down, if_true]
  · simp only [compareTick, suspect, down, if_true]

theorem compareTick_of_suspects (up : (s.port p).state = .up) (low : (s.port p).h < s.param .downAt)
    (reached : s.param .suspectAt ≤ (s.port p).h) : s.compareTick p = s.enterSuspect p := by
  simp only [compareTick, up, Nat.not_le.mpr low, reached, if_true, if_false]

theorem compareTick_of_low (up : (s.port p).state = .up) (low : (s.port p).h < s.param .downAt)
    (lower : (s.port p).h < s.param .suspectAt) : s.compareTick p = s := by
  simp only [compareTick, up, Nat.not_le.mpr low, Nat.not_le.mpr lower, if_false]

theorem compareTick_of_clears (suspect : (s.port p).state = .suspect) (low : (s.port p).h < s.param .downAt)
    (below : (s.port p).h ≤ s.param .recoverBelow) : s.compareTick p = s.enterUp p := by
  simp only [compareTick, suspect, Nat.not_le.mpr low, below, if_true, if_false]

theorem compareTick_of_stays (suspect : (s.port p).state = .suspect) (low : (s.port p).h < s.param .downAt)
    (above : s.param .recoverBelow < (s.port p).h) : s.compareTick p = s := by
  simp only [compareTick, suspect, Nat.not_le.mpr low, Nat.not_le.mpr above, if_false]

/-! ## Out of service -/

theorem compareTick_of_idle (idle : (s.port p).state = .awaitProbe ∨ (s.port p).state = .probing ∨
    (s.port p).state = .disabled) : s.compareTick p = s := by
  obtain state | state | state := idle <;> simp only [compareTick, state]

/-! ## A looped port -/

theorem compareTick_of_loopedUp {ready : Bool} (state : (s.port p).state = .loopback ready .up) :
    s.compareTick p =
      if s.param .downAt ≤ (s.port p).h then (s.setVerdict p ready .down 0).raise (.pathDown p true)
      else if s.param .suspectAt ≤ (s.port p).h then
        (s.setVerdict p ready .suspect (s.port p).q).raise (.pathSuspect p true)
      else s := by
  simp only [compareTick, state]

theorem compareTick_of_loopedSuspect {ready : Bool} (state : (s.port p).state = .loopback ready .suspect) :
    s.compareTick p =
      if s.param .downAt ≤ (s.port p).h then (s.setVerdict p ready .down 0).raise (.pathDown p true)
      else if (s.port p).h ≤ s.param .recoverBelow then
        (s.setVerdict p ready .up (s.port p).q).raise (.pathUp p true)
      else s := by
  simp only [compareTick, state]

theorem compareTick_of_loopedDown {ready : Bool} (state : (s.port p).state = .loopback ready .down) :
    s.compareTick p =
      if s.recovers p then (s.setVerdict p ready .up (s.nextQ p)).raise (.pathUp p true)
      else s.setVerdict p ready .down (s.nextQ p) := by
  simp only [compareTick, state]

end State

end Sys2Proof.Machine
end

section
/-! The outcome of a decay tick at a port, whatever the order of the records (R67, R69, R70, R93, log 13). -/

namespace Sys2Proof.Machine

open State

/-- R66: the record of a port after the decay of its score. -/
def State.tickedRecord (s : State) (p : Port) : PortRecord :=
  { s.port p with h := decayed (s.port p).h (s.param .decayFactor) }

namespace State

/-- R73: the record of a port that enters UP. -/
def upRecord (s : State) (r : PortRecord) : PortRecord :=
  { r with
    state := .up
    failBack := if s.param .failBackEnable ≠ 0 then some (s.param .failBackDelay) else none }

theorem enterUp_record (v : State) (p : Port) : (v.enterUp p).port p = upRecord v (v.port p) := by
  rw [enterUp_port, if_pos rfl]
  simp only [isOn_iff, upRecord]

theorem enterUp_handed (v : State) (p : Port) :
    Occurrence.pathUp p false ∈ (v.enterUp p).handed.occurrences ∧ p ∈ (v.enterUp p).handed.upEntries := by
  obtain ⟨w, enters⟩ : ∃ w : State,
      v.enterUp p = (((w.raise (.pathUp p false)).handUpEntry p).capacityEvent).settleSweep := ⟨_, rfl⟩
  have settled := settleSweep_handsOn (((w.raise (.pathUp p false)).handUpEntry p).capacityEvent)
  rw [capacityEvent_handed] at settled
  rw [enters]
  exact ⟨settled.occurrence (by simp [raise, handUpEntry]), settled.upEntry (by simp [handUpEntry])⟩

end State

/-- The card as a tick compares the port: the records before it have been reached, and its score has decayed. -/
structure TickReaches (p : Port) (s y : State) : Prop where
  core : ProbeCore y
  port : Probed (s.tickedRecord p) (y.port p)
  params : y.params = s.params
  rx : y.rx = s.rx
  strandedOrWaits : ∀ {r : Route} {c : Circuit}, StrandedOrWaits r s c → StrandedOrWaits r y c

/-- R65: a tick that is due compares the port once, between the records before its own and those after. -/
theorem State.decayTick_reaches {s : State} (laws : ProbeLaws s) (due : 0 < s.time.decayDue)
    (order : List DecayRecord) (p : Port) :
    ∃ y t, exec (.decayTick order) s = .next t ∧ TickReaches p s y ∧ TickElsewhere p (y.compareTick p) t := by
  obtain ⟨x, t, row, before, after⟩ := decayTick_around laws due order p
  refine ⟨x.decayedAt p, t, row, ⟨decayedAt_core before.laws.core p, ?_, before.params, before.rx, fun kept =>
    StrandedOrWaits.of_same (before.strandedOrWaits kept) rfl rfl⟩, after⟩
  rw [decayedAt_port_self, param_congr before.params, tickedRecord]
  obtain same | ⟨await, same⟩ := before.port
  · exact .inl (by rw [same])
  · exact .inr ⟨await, by rw [same]⟩

namespace TickReaches

variable {p : Port} {s y t : State}

theorem param (reached : TickReaches p s y) (x : Param) : y.param x = s.param x := param_congr reached.params x

theorem port_of_ne (reached : TickReaches p s y) (ne : (s.port p).state ≠ .awaitProbe) :
    y.port p = s.tickedRecord p := reached.port.eq_of_ne ne

theorem inService (reached : TickReaches p s y) : y.inService p = s.inService p := reached.port.inService

/-- R69: the quiet condition of the port, its score decayed. -/
theorem quiet (reached : TickReaches p s y) (ne : (s.port p).state ≠ .awaitProbe) :
    y.quiet p = true ↔ (s.tickedRecord p).h ≤ s.param .recoverBelow ∧ (s.pathRx p).farEndReady = true ∧
      (s.port p).losHold = false ∧ (s.pathRx p).framer.state ≠ .noSignal := by
  rw [quiet_iff, reached.port_of_ne ne, reached.param, pathRx_congr reached.rx]
  rfl

/-! ## In service (R67) -/

/-- A departure. -/
theorem departs (reached : TickReaches p s y) (after : TickElsewhere p (y.compareTick p) t)
    (service : s.inService p = true) (down : s.param .downAt ≤ (s.tickedRecord p).h) :
    t.port p = departedRecord (s.tickedRecord p) .down ∧
      Occurrence.pathDown p false ∈ t.handed.occurrences ∧ p ∈ t.handed.downEntries ∧
      (∀ n : Slot, t.holder ⟨p, n⟩ = none) ∧ ∀ x ∈ probeEntries t.checker, x.port ≠ p := by
  have ne : (s.port p).state ≠ .awaitProbe := fun await => by
    simp [State.inService, await, PortState.inService] at service
  have own := reached.port_of_ne ne
  rw [compareTick_of_departs (by rw [reached.inService, service]) (by rwa [own, reached.param])] at after
  have left := leaveService_port_self reached.core p .down
  rw [own] at left
  have stays : t.port p = departedRecord (s.tickedRecord p) .down := by
    rw [← left]
    exact after.port.eq_of_ne (by simp [left, departedRecord])
  obtain ⟨occurrence, entry⟩ := y.leaveService_down_handed p
  obtain ⟨-, holder, -⟩ := leaveService_departure y p .down
  refine ⟨stays, after.handsOn.occurrence occurrence, after.handsOn.downEntry entry, fun n => after.free ?_,
    after.laws.core.no_entry ?_ ?_ ?_⟩
  · rw [holder, departSlot, if_pos rfl]
  all_goals simp [stays, departedRecord, PortState.takesDemand]

/-- A new SUSPECT. -/
theorem suspects (reached : TickReaches p s y) (after : TickElsewhere p (y.compareTick p) t)
    (up : (s.port p).state = .up) (low : (s.tickedRecord p).h < s.param .downAt)
    (at' : s.param .suspectAt ≤ (s.tickedRecord p).h) :
    t.port p = { s.tickedRecord p with state := .suspect, failBack := none } ∧
      Occurrence.pathSuspect p false ∈ t.handed.occurrences ∧
      (s.param .drain ≠ 0 → p ∈ t.handed.portDrains) := by
  have own := reached.port_of_ne (by simp [up])
  rw [compareTick_of_suspects (by rw [own]; exact up) (by rwa [own, reached.param])
    (by rwa [own, reached.param])] at after
  have entered := enterSuspect_port y p p
  rw [if_pos rfl, own] at entered
  obtain ⟨occurrence, drain⟩ := y.enterSuspect_handed p
  refine ⟨?_, after.handsOn.occurrence occurrence, fun on => after.handsOn.portDrain (drain ?_)⟩
  · rw [← entered]
    exact after.port.eq_of_ne (by simp [entered])
  · rwa [reached.param]

/-- A port that its comparison leaves. -/
theorem stays (reached : TickReaches p s y) (after : TickElsewhere p (y.compareTick p) t)
    (left : y.compareTick p = y) (ne : (s.port p).state ≠ .awaitProbe) : t.port p = s.tickedRecord p := by
  rw [left] at after
  have own := reached.port_of_ne ne
  rw [← own]
  exact after.port.eq_of_ne (by rw [own]; exact ne)

theorem stays_up (reached : TickReaches p s y) (after : TickElsewhere p (y.compareTick p) t)
    (up : (s.port p).state = .up) (low : (s.tickedRecord p).h < s.param .downAt)
    (lower : (s.tickedRecord p).h < s.param .suspectAt) : t.port p = s.tickedRecord p := by
  have own := reached.port_of_ne (by simp [up])
  exact reached.stays after (compareTick_of_low (by rw [own]; exact up) (by rwa [own, reached.param])
    (by rwa [own, reached.param])) (by simp [up])

theorem stays_suspect (reached : TickReaches p s y) (after : TickElsewhere p (y.compareTick p) t)
    (suspect : (s.port p).state = .suspect) (low : (s.tickedRecord p).h < s.param .downAt)
    (above : s.param .recoverBelow < (s.tickedRecord p).h) : t.port p = s.tickedRecord p := by
  have own := reached.port_of_ne (by simp [suspect])
  exact reached.stays after (compareTick_of_stays (by rw [own]; exact suspect) (by rwa [own, reached.param])
    (by rwa [own, reached.param])) (by simp [suspect])

/-! ## An entry into UP (R73) -/

/-- The port enters UP, whatever its quiet count. -/
theorem enters (reached : TickReaches p s y) (after : TickElsewhere p (y.compareTick p) t) {r : PortRecord}
    (enters : y.compareTick p = (y.setPort p r).enterUp p) : t.port p = upRecord s r ∧ UpHandedOn s t p := by
  rw [enters] at after
  have record := enterUp_record (y.setPort p r) p
  rw [port_setPort_self] at record
  have same : upRecord (y.setPort p r) r = upRecord s r := by
    simp only [upRecord, param_setPort, reached.param]
  have own : t.port p = upRecord s r := by
    rw [← same, ← record]
    exact after.port.eq_of_ne (by simp [record, upRecord])
  obtain ⟨occurrence, entry⟩ := enterUp_handed (y.setPort p r) p
  refine ⟨own, after.handsOn.occurrence occurrence, after.handsOn.upEntry entry, by rw [own]; rfl,
    fun ⟨queue, _⟩ c stranded => after.waits (enterUp_waits ?_ p)⟩
  exact StrandedOrWaits.of_same
    (reached.strandedOrWaits (.inl ⟨rfl, (queue c).2.2.mp stranded, stranded⟩)) rfl rfl

theorem clears (reached : TickReaches p s y) (after : TickElsewhere p (y.compareTick p) t)
    (suspect : (s.port p).state = .suspect) (low : (s.tickedRecord p).h < s.param .downAt)
    (below : (s.tickedRecord p).h ≤ s.param .recoverBelow) :
    t.port p = upRecord s (s.tickedRecord p) ∧ UpHandedOn s t p := by
  have own := reached.port_of_ne (by simp [suspect])
  refine reached.enters after ?_
  rw [compareTick_of_clears (by rw [own]; exact suspect) (by rwa [own, reached.param])
    (by rwa [own, reached.param]), ← own, setPort_self]

/-! ## Out of service (R69, R70) -/

/-- A port that awaits its probe, or has it, is moved by the checker alone. -/
theorem awaits (reached : TickReaches p s y) (after : TickElsewhere p (y.compareTick p) t)
    (idle : (s.port p).state = .awaitProbe ∨ (s.port p).state = .probing) :
    Probed (s.tickedRecord p) (t.port p) := by
  have own : (y.port p).state = .awaitProbe ∨ (y.port p).state = .probing := reached.port.state_of_awaiting idle
  rw [compareTick_of_idle (by tauto)] at after
  exact reached.port.trans after.port

theorem stays_disabled (reached : TickReaches p s y) (after : TickElsewhere p (y.compareTick p) t)
    (disabled : (s.port p).state = .disabled) : t.port p = s.tickedRecord p := by
  have own := reached.port_of_ne (by simp [disabled])
  exact reached.stays after (compareTick_of_idle (.inr (.inr (by rw [own]; exact disabled)))) (by simp [disabled])

/-- A quiet count that does not complete. -/
theorem stays_down (reached : TickReaches p s y) (after : TickElsewhere p (y.compareTick p) t)
    (down : (s.port p).state = .down) (waiting : ¬ y.recovers p = true) :
    t.port p = { s.tickedRecord p with q := y.nextQ p } := by
  have own := reached.port_of_ne (by simp [down])
  rw [compareTick_of_down y (by rw [own]; exact down), if_neg waiting, own] at after
  have kept := after.port.eq_of_ne
  rw [port_setPort_self] at kept
  exact kept (by simp [tickedRecord, down])

/-- A quiet count that completes, no probe being required. -/
theorem returns (reached : TickReaches p s y) (after : TickElsewhere p (y.compareTick p) t)
    (down : (s.port p).state = .down) (recovers : y.recovers p = true) (unprobed : s.param .probeRequired = 0) :
    t.port p = upRecord s { s.tickedRecord p with q := y.nextQ p } ∧ UpHandedOn s t p := by
  have own := reached.port_of_ne (by simp [down])
  refine reached.enters after ?_
  rw [compareTick_of_down y (by rw [own]; exact down), if_pos recovers, endQuiet, own,
    if_neg (by simp [isOn_iff, param_setPort, reached.param, unprobed])]

/-- A quiet count that completes, a probe being required. -/
theorem queues (reached : TickReaches p s y) (after : TickElsewhere p (y.compareTick p) t)
    (down : (s.port p).state = .down) (recovers : y.recovers p = true) (probed : s.param .probeRequired ≠ 0) :
    Probed { s.tickedRecord p with state := .awaitProbe, q := y.nextQ p } (t.port p) := by
  have own := reached.port_of_ne (by simp [down])
  have downs : (y.port p).state = .down := by rw [own]; exact down
  rw [compareTick_of_down y downs, if_pos recovers, endQuiet,
    if_pos (by simpa [isOn_iff, param_setPort, reached.param] using probed), setPort_twice,
    port_setPort_self, own] at after
  have taken := takeProbe_port_probed (awaiting_core y (p := p)
    (r := { s.tickedRecord p with state := .awaitProbe, q := y.nextQ p }) downs rfl reached.core).oldestAwaits p
  rw [setChecker_port, port_setPort_self] at taken
  exact taken.trans after.port

end TickReaches

end Sys2Proof.Machine
end

section
/-! DECAY_TICK (R65 to R70, R93): what it moves, and the tick of a looped port. -/

namespace Sys2Proof.Machine

namespace StrandedStay

theorem refl (s : State) : StrandedStay s s := fun _ _ => ⟨rfl, rfl⟩

theorem trans {s t u : State} (a : StrandedStay s t) (b : StrandedStay t u) : StrandedStay s u :=
  fun c stranded => by
    obtain ⟨route, has⟩ := a c stranded
    obtain ⟨route', has'⟩ := b c (by rw [route, stranded])
    exact ⟨route'.trans route, has'.trans has⟩

end StrandedStay

namespace State

variable {s : State}

/-- R12: a record's tick leaves the stranded circuits, but for an entry of its port into UP. -/
theorem decayRecord_strandedStay {r : DecayRecord}
    (up : ∀ p, r = .port p → ((s.decayRecord r).port p).state = .up → (s.port p).state = .up) :
    StrandedStay s (s.decayRecord r) := by
  cases r with
  | port q =>
    refine TickStep.strandedStay (s := s.decayedAt q) (s.decayPort_step q) fun entered => ?_
    rw [decayedAt_port_self]
    exact up q rfl entered
  | group g =>
    obtain ⟨r, shape⟩ := s.examineGroup_eq g
    have group : s.decayRecord (.group g) = s.setGroup g r := shape
    rw [group]
    exact StrandedStay.refl s

/-- R12: with no entry into UP the stranded circuits stay. -/
theorem foldl_decayRecord_strandedStay {records : List DecayRecord} (once : records.Nodup) (laws : ProbeLaws s)
    (up : ∀ p, .port p ∈ records → ((records.foldl decayRecord s).port p).state = .up →
      (s.port p).state = .up) :
    StrandedStay s (records.foldl decayRecord s) := by
  induction records generalizing s with
  | nil => exact .refl s
  | cons r rest ih =>
    obtain ⟨fresh, once⟩ := List.nodup_cons.mp once
    have laws' := decayRecord_probeLaws laws r
    refine StrandedStay.trans (decayRecord_strandedStay ?_) (ih once laws' fun q reached entered => ?_)
    · rintro p rfl entered
      have kept := (foldl_decayRecord_elsewhere fresh laws').port
      exact up p List.mem_cons_self ((kept.state_of_ne (by simp [entered])).trans entered)
    · have kept := (decayRecord_elsewhere laws (p := q) (r := r) fun same => fresh (same ▸ reached)).port
      have before := up q (List.mem_cons_of_mem _ reached) entered
      exact (kept.state_of_ne (by simp [before])).trans before

theorem decayTick_strandedStay {t : State} (laws : ProbeLaws s) {order : List DecayRecord}
    (due : 0 < s.time.decayDue) (row : exec (.decayTick order) s = .next t)
    (up : ∀ p : Port, (t.port p).state = .up → (s.port p).state = .up) : StrandedStay s t := by
  obtain rfl := Host.Outcome.next.inj (row.symm.trans (exec_decayTick_of_due due order))
  exact foldl_decayRecord_strandedStay (s := s.setTime { s.time with decayDue := s.time.decayDue - 1 })
    (nodup_decayOrder order) laws fun p _ => up p

end State

namespace TickReaches

open State

variable {p : Port} {s y t : State}

/-! ## A looped port (R93) -/

variable {ready : Bool} {v : Verdict}

/-- A change of the verdict, with its loopback-marked occurrence. -/
theorem turns (reached : TickReaches p s y) (after : TickElsewhere p (y.compareTick p) t)
    (looped : (s.port p).state = .loopback ready v) {v' : Verdict} {n : Nat} {o : Occurrence}
    (turned : y.compareTick p = (y.setVerdict p ready v' n).raise o) :
    t.port p = { s.tickedRecord p with state := .loopback ready v', q := n } ∧ o ∈ t.handed.occurrences := by
  rw [turned] at after
  have kept := after.port.eq_of_ne
  rw [raise_port, setVerdict, port_setPort_self, reached.port_of_ne (by simp [looped])] at kept
  exact ⟨kept (by simp), after.handsOn.occurrence (by simp [raise])⟩

/-- A quiet count in LOOPBACK. -/
theorem counts_on (reached : TickReaches p s y) (after : TickElsewhere p (y.compareTick p) t)
    (looped : (s.port p).state = .loopback ready v) {v' : Verdict} {n : Nat}
    (counted : y.compareTick p = y.setVerdict p ready v' n) :
    t.port p = { s.tickedRecord p with state := .loopback ready v', q := n } := by
  rw [counted] at after
  have kept := after.port.eq_of_ne
  rw [setVerdict, port_setPort_self, reached.port_of_ne (by simp [looped])] at kept
  exact kept (by simp)

theorem looped_up (reached : TickReaches p s y) (after : TickElsewhere p (y.compareTick p) t)
    (looped : (s.port p).state = .loopback ready .up) :
    if s.param .downAt ≤ (s.tickedRecord p).h then
      t.port p = { s.tickedRecord p with state := .loopback ready .down, q := 0 } ∧
        Occurrence.pathDown p true ∈ t.handed.occurrences
    else if s.param .suspectAt ≤ (s.tickedRecord p).h then
      t.port p = { s.tickedRecord p with state := .loopback ready .suspect, q := (s.port p).q } ∧
        Occurrence.pathSuspect p true ∈ t.handed.occurrences
    else t.port p = s.tickedRecord p := by
  have ne : (s.port p).state ≠ .awaitProbe := by simp [looped]
  have own := reached.port_of_ne ne
  have compared := y.compareTick_of_loopedUp (p := p) (ready := ready) (by rw [own]; exact looped)
  rw [own, reached.param, reached.param] at compared
  split_ifs at compared ⊢
  · exact reached.turns after looped compared
  · exact reached.turns after looped compared
  · exact reached.stays after compared ne

theorem looped_suspect (reached : TickReaches p s y) (after : TickElsewhere p (y.compareTick p) t)
    (looped : (s.port p).state = .loopback ready .suspect) :
    if s.param .downAt ≤ (s.tickedRecord p).h then
      t.port p = { s.tickedRecord p with state := .loopback ready .down, q := 0 } ∧
        Occurrence.pathDown p true ∈ t.handed.occurrences
    else if (s.tickedRecord p).h ≤ s.param .recoverBelow then
      t.port p = { s.tickedRecord p with state := .loopback ready .up, q := (s.port p).q } ∧
        Occurrence.pathUp p true ∈ t.handed.occurrences
    else t.port p = s.tickedRecord p := by
  have ne : (s.port p).state ≠ .awaitProbe := by simp [looped]
  have own := reached.port_of_ne ne
  have compared := y.compareTick_of_loopedSuspect (p := p) (ready := ready) (by rw [own]; exact looped)
  rw [own, reached.param, reached.param] at compared
  split_ifs at compared ⊢
  · exact reached.turns after looped compared
  · exact reached.turns after looped compared
  · exact reached.stays after compared ne

theorem looped_down (reached : TickReaches p s y) (after : TickElsewhere p (y.compareTick p) t)
    (looped : (s.port p).state = .loopback ready .down) :
    if y.recovers p then
      t.port p = { s.tickedRecord p with state := .loopback ready .up, q := y.nextQ p } ∧
        Occurrence.pathUp p true ∈ t.handed.occurrences
    else t.port p = { s.tickedRecord p with state := .loopback ready .down, q := y.nextQ p } := by
  have own := reached.port_of_ne (p := p) (by simp [looped])
  have compared := y.compareTick_of_loopedDown (p := p) (ready := ready) (by rw [own]; exact looped)
  split_ifs at compared ⊢
  · exact reached.turns after looped compared
  · exact reached.counts_on after looped compared

/-- What a tick can change of the record of a looped port. -/
theorem looped_record (reached : TickReaches p s y) (after : TickElsewhere p (y.compareTick p) t)
    (looped : (s.port p).state = .loopback ready v) :
    ∃ v' n, t.port p = { s.tickedRecord p with state := .loopback ready v', q := n } := by
  have same : s.tickedRecord p = { s.tickedRecord p with state := .loopback ready v, q := (s.port p).q } := by
    rw [← looped]
    rfl
  cases v with
  | up =>
    have outcome := reached.looped_up after looped
    split_ifs at outcome
    · exact ⟨_, _, outcome.1⟩
    · exact ⟨_, _, outcome.1⟩
    · exact ⟨_, _, outcome.trans same⟩
  | suspect =>
    have outcome := reached.looped_suspect after looped
    split_ifs at outcome
    · exact ⟨_, _, outcome.1⟩
    · exact ⟨_, _, outcome.1⟩
    · exact ⟨_, _, outcome.trans same⟩
  | down =>
    have outcome := reached.looped_down after looped
    split_ifs at outcome
    · exact ⟨_, _, outcome.1⟩
    · exact ⟨_, _, outcome⟩

/-! ## The counts -/

/-- R68: no count but that of a departure changes. -/
theorem counts_kept (reached : TickReaches p s y) (after : TickElsewhere p (y.compareTick p) t)
    (stays : ¬ (s.inService p = true ∧ s.param .downAt ≤ (s.tickedRecord p).h)) :
    (t.port p).counts = (s.port p).counts := by
  cases state : (s.port p).state with
  | up =>
    have low : (s.tickedRecord p).h < s.param .downAt := by
      simpa [(inService_iff s p).mpr (.inl state)] using stays
    by_cases lower : (s.tickedRecord p).h < s.param .suspectAt
    · rw [reached.stays_up after state low lower]; rfl
    · rw [(reached.suspects after state low (not_lt.mp lower)).1]; rfl
  | suspect =>
    have low : (s.tickedRecord p).h < s.param .downAt := by
      simpa [(inService_iff s p).mpr (.inr state)] using stays
    by_cases above : s.param .recoverBelow < (s.tickedRecord p).h
    · rw [reached.stays_suspect after state low above]; rfl
    · rw [(reached.clears after state low (not_lt.mp above)).1]; rfl
  | down =>
    by_cases recovers : y.recovers p = true
    · by_cases unprobed : s.param .probeRequired = 0
      · rw [(reached.returns after state recovers unprobed).1]; rfl
      · exact (reached.queues after state recovers unprobed).counts
    · rw [reached.stays_down after state recovers]; rfl
  | awaitProbe => exact (reached.awaits after (.inl state)).counts
  | probing => exact (reached.awaits after (.inr state)).counts
  | disabled => rw [reached.stays_disabled after state]; rfl
  | loopback ready v =>
    obtain ⟨v', n, record⟩ := reached.looped_record after state
    rw [record]
    rfl

end TickReaches

end Sys2Proof.Machine

section

open Sys2Proof Sys2Proof.Machine Sys2Proof.Machine.State

/-- Settles O20: the port's comparison by its state, with what the records before and after it leave. -/
theorem decayTickMovesPorts : Obligations.DecayTickMovesPorts := by
  intro s order p h' laws due is
  obtain rfl : h' = (s.tickedRecord p).h := is
  obtain ⟨y, t, row, reached, after⟩ := decayTick_reaches laws due order p
  have probing : (t.port p).state = .probing → t.checker.state.entry = some ⟨p, .recovery⟩ :=
    (after.laws.core.2.1 p).2.mp
  refine ⟨t, row, fun service down => ?_, reached.counts_kept after, fun up low at' => ?_,
    fun up low lower => ?_, fun suspect low below => ?_, fun suspect low above => ?_, fun disabled => ?_,
    fun probed => ?_, fun await => ?_, decayTick_strandedStay laws due row, fun down => ⟨fun quiet => ?_,
    fun busy => ?_⟩⟩
  · obtain ⟨record, occurrence, entry, slots, unprobed⟩ := reached.departs after service down
    rw [record]
    exact ⟨rfl, rfl, rfl, rfl, occurrence, entry, slots, unprobed⟩
  · obtain ⟨record, occurrence, drain⟩ := reached.suspects after up low at'
    rw [record]
    exact ⟨rfl, rfl, occurrence, drain⟩
  · rw [reached.stays_up after up low lower]
    exact ⟨up, rfl⟩
  · obtain ⟨record, handed⟩ := reached.clears after suspect low below
    exact ⟨by rw [record]; rfl, handed⟩
  · rw [reached.stays_suspect after suspect low above]
    exact suspect
  · rw [reached.stays_disabled after disabled]
    exact ⟨disabled, rfl⟩
  · have record := reached.awaits after (.inr probed)
    have state : (t.port p).state = .probing := (record.state_of_ne (by simp [tickedRecord, probed])).trans probed
    exact ⟨state, record.q, probing state⟩
  · have record := reached.awaits after (.inl await)
    exact ⟨record.q, (record.state_of_awaiting (.inl await)).imp_right fun state => ⟨state, probing state⟩⟩
  · have ne : (s.port p).state ≠ .awaitProbe := by simp [down]
    have own := reached.port_of_ne ne
    have quiets : y.quiet p = true := (reached.quiet ne).mpr quiet
    have next : y.nextQ p = (s.port p).q + 1 := by rw [nextQ_of_quiet quiets, own]; rfl
    have recovers : y.recovers p = true ↔ s.param .recoverTicks ≤ (s.port p).q + 1 := by
      rw [recovers_iff, own, reached.param]
      exact and_iff_right quiets
    by_cases complete : s.param .recoverTicks ≤ (s.port p).q + 1
    · by_cases unprobed : s.param .probeRequired = 0
      · obtain ⟨record, handed⟩ := reached.returns after down (recovers.mpr complete) unprobed
        refine ⟨by rw [record]; exact next, fun short => absurd complete (not_le.mpr short),
          fun _ _ => ⟨by rw [record]; rfl, handed⟩, fun _ required => absurd unprobed required⟩
      · have record := reached.queues after down (recovers.mpr complete) unprobed
        exact ⟨record.q.trans next, fun short => absurd complete (not_le.mpr short),
          fun _ free => absurd free unprobed, fun _ _ => record.state_of_awaiting (.inl rfl)⟩
    · have record := reached.stays_down after down (mt recovers.mp complete)
      rw [record]
      exact ⟨next, fun _ => down, fun h => absurd h complete, fun h => absurd h complete⟩
  · have busies : ¬ y.quiet p = true := mt (reached.quiet (by simp [down])).mp busy
    rw [reached.stays_down after down fun recovers => busies ((recovers_iff y p).mp recovers).1]
    exact ⟨down, nextQ_of_busy busies⟩

/-- Settles O21: the verdict's comparison, by the verdict. -/
theorem decayTickOfLoopedPort : Obligations.DecayTickOfLoopedPort := by
  intro s order p ready v h' laws due looped is
  obtain rfl : h' = (s.tickedRecord p).h := is
  obtain ⟨y, t, row, reached, after⟩ := decayTick_reaches laws due order p
  have ne : (s.port p).state ≠ .awaitProbe := by simp [looped]
  have own := reached.port_of_ne ne
  have stays : t.port p = s.tickedRecord p →
      (t.port p).state = .loopback ready v ∧ (t.port p).q = (s.port p).q := fun record => by
    rw [record]
    exact ⟨looped, rfl⟩
  refine ⟨t, row, fun up down => ?_, ?_, ?_, ?_, ?_⟩
  · have outcome : t.port p = { s.tickedRecord p with state := .loopback ready .down, q := 0 } ∧
        Occurrence.pathDown p true ∈ t.handed.occurrences := by
      cases v with
      | up => exact (if_pos down).mp (reached.looped_up after looped)
      | suspect => exact (if_pos down).mp (reached.looped_suspect after looped)
      | down => exact absurd rfl up
    obtain ⟨record, occurrence⟩ := outcome
    rw [record]
    exact ⟨rfl, rfl, occurrence⟩
  · rintro rfl low at'
    have outcome := reached.looped_up after looped
    rw [if_neg (not_le.mpr low), if_pos at'] at outcome
    obtain ⟨record, occurrence⟩ := outcome
    rw [record]
    exact ⟨rfl, rfl, occurrence⟩
  · rintro rfl low below
    have outcome := reached.looped_suspect after looped
    rw [if_neg (not_le.mpr low), if_pos below] at outcome
    obtain ⟨record, occurrence⟩ := outcome
    rw [record]
    exact ⟨rfl, rfl, occurrence⟩
  · rintro (⟨rfl, lower⟩ | ⟨rfl, above⟩) low
    · have outcome := reached.looped_up after looped
      rw [if_neg (not_le.mpr low), if_neg (not_le.mpr lower)] at outcome
      exact stays outcome
    · have outcome := reached.looped_suspect after looped
      rw [if_neg (not_le.mpr low), if_neg (not_le.mpr above)] at outcome
      exact stays outcome
  · rintro rfl
    have outcome := reached.looped_down after looped
    refine ⟨fun quiet => ?_, fun busy => ?_⟩
    · have quiets : y.quiet p = true := (reached.quiet ne).mpr quiet
      have next : y.nextQ p = (s.port p).q + 1 := by rw [nextQ_of_quiet quiets, own]; rfl
      have recovers : y.recovers p = true ↔ s.param .recoverTicks ≤ (s.port p).q + 1 := by
        rw [recovers_iff, own, reached.param]
        exact and_iff_right quiets
      by_cases complete : s.param .recoverTicks ≤ (s.port p).q + 1
      · rw [if_pos (recovers.mpr complete)] at outcome
        obtain ⟨record, occurrence⟩ := outcome
        rw [record]
        exact ⟨next, fun short => absurd complete (not_le.mpr short), fun _ => ⟨rfl, occurrence⟩⟩
      · rw [if_neg (mt recovers.mp complete)] at outcome
        rw [outcome]
        exact ⟨next, fun _ => rfl, fun h => absurd h complete⟩
    · have busies : ¬ y.quiet p = true := mt (reached.quiet ne).mp busy
      rw [if_neg fun recovers => busies ((recovers_iff y p).mp recovers).1] at outcome
      rw [outcome]
      exact ⟨rfl, nextQ_of_busy busies⟩

end
end

section
/-! The clearing of a group (R99, R100): at the expiry of its hold, at an UP entry, and at a decay tick, where its
record may be reached before, between or after those of its members (log 13). -/

namespace Sys2Proof.Machine

namespace State

variable {s : State}

theorem examineGroup_group_other {g g' : Group} (ne : g' ≠ g) : (s.examineGroup g).group g' = s.group g' := by
  obtain ⟨r, shape⟩ := s.examineGroup_eq g
  rw [shape, group_setGroup_ne s ne]

/-- The records of a tick but for that of the group leave it, and no tick moves a strap. -/
theorem foldl_decayRecord_group {g : Group} {records : List DecayRecord} (unreached : .group g ∉ records) :
    (records.foldl decayRecord s).group g = s.group g ∧ (records.foldl decayRecord s).straps = s.straps := by
  induction records generalizing s with
  | nil => exact ⟨rfl, rfl⟩
  | cons r rest ih =>
    obtain ⟨group, straps⟩ := ih (s := s.decayRecord r) (List.not_mem_of_not_mem_cons unreached)
    have ne := List.ne_of_not_mem_cons unreached
    refine ⟨group.trans ?_, straps.trans (by simp)⟩
    cases r with
    | port q => exact group_congr (decayPort_frame (s := s) q).2.2.2.2.1 g
    | group g' => exact examineGroup_group_other fun same => ne (congrArg DecayRecord.group same)

theorem foldl_decayRecord_probeLaws (laws : ProbeLaws s) (records : List DecayRecord) :
    ProbeLaws (records.foldl decayRecord s) := by
  induction records generalizing s with
  | nil => exact laws
  | cons r rest ih => exact ih (decayRecord_probeLaws laws r)

theorem recovering_of_probed {r r' : PortRecord} (kept : Probed r r') : r'.state.recovering = r.state.recovering := by
  obtain rfl | ⟨await, rfl⟩ := kept
  · rfl
  · rw [await]
    rfl

/-- A SUSPECT group whose hold has stopped keeps its record while a member is out. -/
theorem examineGroup_group_of_out {g : Group} (out : s.memberOut g = true) :
    (s.examineGroup g).group g = s.group g := by
  unfold examineGroup
  dsimp only
  rw [if_neg (by simp [out])]

theorem examineGroup_group_of_in {g : Group} (suspect : (s.group g).state = .suspect)
    (stopped : (s.group g).hold = none) (back : s.memberOut g = false) :
    (s.examineGroup g).group g = { s.group g with state := .clear } := by
  unfold examineGroup
  dsimp only
  rw [if_pos ⟨suspect, stopped, by rw [back]; rfl⟩, group_setGroup_self]

/-- R100: what an UP entry makes of a SUSPECT group. -/
theorem examineGroup_of_suspect {g : Group} (suspect : (s.group g).state = .suspect) :
    s.examineGroup g = s.setGroup g
      { s.group g with
        state :=
          if (s.group g).hold ≠ none ∨ ∃ p : Port, s.groupOf p = g ∧
            ((s.port p).state = .down ∨ (s.port p).state = .awaitProbe ∨ (s.port p).state = .probing)
          then .suspect else .clear } := by
  by_cases stopped : (s.group g).hold = none
  · rw [examineGroup_of_stopped suspect stopped]
    simp only [stopped, ne_eq, not_true_eq_false, false_or]
  · rw [examineGroup_of_kept (.inr stopped), if_pos (.inl stopped), ← suspect, setGroup_self]

theorem memberOut_eq_false_iff (s : State) (g : Group) :
    s.memberOut g = false ↔ ∀ p : Port, s.groupOf p = g → (s.port p).state.recovering = false := by
  rw [← Bool.not_eq_true, memberOut_iff]
  simp

/-- R65: a tick that is due reaches the record of a group once: each member's record is as before the tick, or as
after it, when the group is examined. -/
theorem decayTick_examines (laws : ProbeLaws s) (due : 0 < s.time.decayDue) (order : List DecayRecord) (g : Group) :
    ∃ x t : State, exec (.decayTick order) s = .next t ∧ x.group g = s.group g ∧ x.straps = s.straps ∧
      t.group g = (x.examineGroup g).group g ∧
      (∀ p : Port, (x.port p).state.recovering = (s.port p).state.recovering ∨
        (x.port p).state.recovering = (t.port p).state.recovering) ∧
      (order = [.group g] → ∀ p : Port, x.port p = s.port p) := by
  obtain ⟨before, after, split⟩ := List.append_of_mem (mem_decayOrder order (.group g))
  have once := nodup_decayOrder order
  rw [split] at once
  obtain ⟨-, ⟨fresh, -⟩, apart⟩ : before.Nodup ∧ (_ ∧ _) ∧ _ := by
    simpa only [List.nodup_append, List.nodup_cons] using once
  have unreached : .group g ∉ before := fun reached => apart _ reached _ List.mem_cons_self rfl
  have row := exec_decayTick_of_due due order
  rw [split, List.foldl_append, List.foldl_cons] at row
  obtain ⟨u, taken⟩ : ∃ u, u = s.setTime { s.time with decayDue := s.time.decayDue - 1 } := ⟨_, rfl⟩
  rw [← taken] at row
  have laws' : ProbeLaws u := taken ▸ laws
  have port (p : Port) : u.port p = s.port p := by rw [taken]; rfl
  obtain ⟨group, straps⟩ := foldl_decayRecord_group (s := u) unreached
  have rest := decayRecord_probeLaws (foldl_decayRecord_probeLaws laws' before) (.group g)
  refine ⟨before.foldl decayRecord u, _, row, group.trans (by rw [taken]; rfl), straps.trans (by rw [taken]; rfl),
    (foldl_decayRecord_group fresh).1, fun p => ?_, fun first p => ?_⟩
  · by_cases reached : .port p ∈ before
    · have unreached' : .port p ∉ after := fun again =>
        apart _ reached _ (List.mem_cons_of_mem _ again) rfl
      have kept := (foldl_decayRecord_elsewhere unreached' rest).port
      have same : ((before.foldl decayRecord u).decayRecord (.group g)).port p =
        (before.foldl decayRecord u).port p := examineGroup_port _ g p
      rw [same] at kept
      exact .inr (recovering_of_probed kept).symm
    · have kept := (foldl_decayRecord_elsewhere reached laws').port
      rw [port] at kept
      exact .inl (recovering_of_probed kept)
  · have front : before = [] := by
      subst first
      cases before with
      | nil => rfl
      | cons r rest =>
        have head : DecayRecord.group g = r := (List.cons.inj split).1
        exact absurd (head ▸ List.mem_cons_self) unreached
    rw [front]
    exact port p

end State

end Sys2Proof.Machine

section

open Sys2Proof Sys2Proof.Machine Sys2Proof.Machine.State

/-- Settles O28: the group examined once its hold has stopped, and at a tick on the members' states as its record is
reached. -/
theorem suspectGroupClears : Obligations.SuspectGroupClears := by
  refine ⟨fun s g suspect expired => ?_, ?_, fun s order g laws due => ?_⟩
  · have row : exec (.holdTimerExpiry g) s =
        .next ((s.setGroup g { s.group g with hold := none }).examineGroup g) :=
      congrArg Host.Outcome.next (if_pos expired)
    rw [row, examineGroup_of_stopped (by simpa using suspect) (by simp), group_setGroup_self, setGroup_setGroup]
    rfl
  · rintro s p g rfl handed suspect
    have row : exec (.upEntry p) s = .next ((s.setHanded
        { s.handed with upEntries := s.handed.upEntries.erase p }).examineGroup (s.groupOf p)) :=
      congrArg Host.Outcome.next (if_pos handed)
    have examined := examineGroup_of_suspect (s := s.setHanded
      { s.handed with upEntries := s.handed.upEntries.erase p }) suspect
    exact row.trans (congrArg Host.Outcome.next examined)
  · obtain ⟨x, t, row, group, straps, examined, members, first⟩ := decayTick_examines laws due order g
    have groupOf (p : Port) : x.groupOf p = s.groupOf p := by rw [State.groupOf, straps]; rfl
    refine ⟨t, row, fun kept => ?_, fun suspect stopped => ⟨?_, fun back => ?_, fun alone => ?_⟩⟩
    · rw [examined, examineGroup_of_kept (by rwa [group]), group]
    · rintro ⟨p, member, before, after⟩
      rw [examined, examineGroup_group_of_out ((x.memberOut_iff g).mpr ⟨p, (groupOf p).trans member, ?_⟩), group]
      obtain h | h := members p <;> rw [h]
      · exact before
      · exact after
    · rw [examined, examineGroup_group_of_in (by rwa [group]) (by rwa [group]), group]
      rw [memberOut_eq_false_iff]
      intro p member
      obtain ⟨before, after⟩ := back p ((groupOf p).symm.trans member)
      obtain h | h := members p <;> rw [h]
      · exact before
      · exact after
    · rw [examined, examineGroup_of_stopped (by rwa [group]) (by rwa [group]), group_setGroup_self, group]
      simp only [groupOf, first alone]

end
end

section
/-! The probe pattern and the seeding of the checker's register (R83, R86, R87). -/

namespace Sys2Proof.Machine

/-! ## The register (R83) -/

/-- R83: a step moves every stage on by one and puts the output bit into the first. -/
theorem Stages.getLsbD_step (r : Stages) {i : Nat} (stage : i < 11) :
    (Stages.step r).2.getLsbD i = if i = 0 then (Stages.step r).1 else r.getLsbD (i - 1) := by
  cases i with
  | zero => simp [Stages.step]
  | succ i => simp [Stages.step, stage, show i < 11 by omega]

theorem Stages.getLsbD_shiftIn (acc : Octet) (b : Bool) {i : Nat} (bit : i < 8) :
    ((acc <<< 1) ||| (BitVec.ofBool b).setWidth 8).getLsbD i = if i = 0 then b else acc.getLsbD (i - 1) := by
  cases i with
  | zero => simp
  | succ i => simp [bit, show i < 8 by omega, BitVec.getLsbD_eq_getElem]

/-- R83: after some steps the register holds the bits that came out, the latest in the first stage, above them the
stages it had; the octet holds the same bits, above them what it had. -/
theorem Stages.getLsbD_steps (n : Nat) (acc : Octet) (r : Stages) {i : Nat} (stage : i < 11) :
    (n ≤ i → (Stages.steps n acc r).2.getLsbD i = r.getLsbD (i - n)) ∧
    (i < n → i < 8 → (Stages.steps n acc r).2.getLsbD i = (Stages.steps n acc r).1.getLsbD i) ∧
    (n ≤ i → i < 8 → (Stages.steps n acc r).1.getLsbD i = acc.getLsbD (i - n)) := by
  induction n generalizing acc r with
  | zero => simp [Stages.steps]
  | succ n ih =>
    rw [Stages.steps]
    obtain ⟨above, low, kept⟩ := ih ((acc <<< 1) ||| (BitVec.ofBool (Stages.step r).1).setWidth 8) (Stages.step r).2
    refine ⟨fun h => ?_, fun h bit => ?_, fun h bit => ?_⟩
    · rw [above (by omega), Stages.getLsbD_step r (by omega), if_neg (by omega), Nat.sub_sub]
    · obtain last | earlier : i = n ∨ i < n := by omega
      · subst last
        rw [above le_rfl, kept le_rfl bit, Nat.sub_self, Stages.getLsbD_step r (by omega),
          Stages.getLsbD_shiftIn _ _ (by omega), if_pos rfl, if_pos rfl]
      · exact low earlier bit
    · rw [kept (by omega) bit, Stages.getLsbD_shiftIn _ _ (by omega), if_neg (by omega), Nat.sub_sub]

/-- R83: the register after an octet of the pattern. -/
theorem Stages.getLsbD_octet (r : Stages) {i : Nat} (stage : i < 11) :
    (Stages.octet r).2.getLsbD i = if i < 8 then (Stages.octet r).1.getLsbD i else r.getLsbD (i - 8) := by
  obtain ⟨above, low, -⟩ := Stages.getLsbD_steps 8 0 r stage
  split_ifs with h
  · exact low h h
  · exact above (by omega)

/-- R83: a register that is not all zeros does not become so. -/
theorem Stages.step_ne_zero {r : Stages} (ne : r ≠ 0) : (Stages.step r).2 ≠ 0 := by
  intro zero
  have bits {i : Nat} (stage : i < 11) := congrArg (fun x => x.getLsbD i) zero
  have low {i : Nat} (stage : i < 10) : r.getLsbD i = false := by
    simpa [Stages.getLsbD_step r (i := i + 1) (by omega)] using bits (i := i + 1) (by omega)
  have high : r.getLsbD 10 = false := by
    have out := bits (i := 0) (by omega)
    rw [Stages.getLsbD_step r (by omega), if_pos rfl] at out
    simp only [Stages.step, low (i := 8) (by omega), Bool.xor_false] at out
    simpa using out
  refine ne (BitVec.eq_of_getLsbD_eq fun i stage => ?_)
  obtain h | rfl : i < 10 ∨ i = 10 := by omega
  · simpa using low h
  · simpa using high

theorem Stages.steps_ne_zero {r : Stages} (ne : r ≠ 0) (n : Nat) (acc : Octet) : (Stages.steps n acc r).2 ≠ 0 := by
  induction n generalizing acc r with
  | zero => exact ne
  | succ n ih => exact ih (Stages.step_ne_zero ne) _

theorem Stages.octet_ne_zero {r : Stages} (ne : r ≠ 0) : (Stages.octet r).2 ≠ 0 := Stages.steps_ne_zero ne 8 0

/-! ## The period (R83) -/

/-- The register an octet later. -/
def nextRegister (r : Stages) : Stages := (Stages.octet r).2

theorem nextRegister_period : nextRegister^[2047] 0x7FF#11 = 0x7FF#11 := by decide +kernel

/-- 2047 is 23 times 89, so a shorter period of the register would be 23 or 89. -/
theorem nextRegister_no_earlier {n : Nat} (pos : 0 < n) (short : n < 2047) :
    nextRegister^[n] 0x7FF#11 ≠ 0x7FF#11 := by
  intro returns
  have whole : Function.IsPeriodicPt nextRegister 2047 0x7FF#11 := nextRegister_period
  have common := whole.gcd returns
  have divides : Nat.gcd 2047 n ∣ 23 * 89 := Nat.gcd_dvd_left 2047 n
  have smaller : Nat.gcd 2047 n < 2047 := (Nat.gcd_le_right 2047 pos).trans_lt short
  obtain h | h : Nat.gcd 2047 n ∣ 23 ∨ Nat.gcd 2047 n ∣ 89 := by
    obtain ⟨a, b, left, right, whole⟩ := (Nat.dvd_mul).mp divides
    obtain rfl | rfl := (Nat.dvd_prime (by norm_num : Nat.Prime 23)).mp left
    · exact .inr (by rwa [← whole, one_mul])
    · obtain rfl | rfl := (Nat.dvd_prime (by norm_num : Nat.Prime 89)).mp right
      · exact .inl (by rw [← whole])
      · omega
  · exact absurd (common.trans_dvd h) (by change ¬ _ = _; decide +kernel)
  · exact absurd (common.trans_dvd h) (by change ¬ _ = _; decide +kernel)

/-! ## Seeding and comparing (R86, R87) -/

theorem seedRegister_of_ne {a b : Octet} (ne : (a ++ b).setWidth 11 ≠ (0 : Stages)) :
    seedRegister a b = (a ++ b).setWidth 11 := if_neg ne

theorem seedRegister_of_zero {a b : Octet} (zero : (a ++ b).setWidth 11 = (0 : Stages)) :
    seedRegister a b = 0x7FF#11 := if_pos zero

/-- The last 11 bits that came out are the register. -/
theorem setWidth_octets (r : Stages) :
    ((Stages.octet r).1 ++ (Stages.octet (Stages.octet r).2).1).setWidth 11 =
      (Stages.octet (Stages.octet r).2).2 := by
  refine BitVec.eq_of_getLsbD_eq fun i stage => ?_
  rw [BitVec.getLsbD_setWidth, BitVec.getLsbD_append, Stages.getLsbD_octet _ stage]
  by_cases low : i < 8
  · simp [low, stage]
  · have first := Stages.getLsbD_octet r (i := i - 8) (by omega)
    rw [if_pos (by omega)] at first
    simp [low, stage, first]

/-- R86: the register seeded from two octets of the pattern is the one that made them. -/
theorem seedRegister_octets {r : Stages} (ne : r ≠ 0) :
    seedRegister (Stages.octet r).1 (Stages.octet (Stages.octet r).2).1 =
      (Stages.octet (Stages.octet r).2).2 := by
  have same := setWidth_octets r
  rw [seedRegister_of_ne, same]
  rw [same]
  exact Stages.octet_ne_zero (Stages.octet_ne_zero ne)

theorem differingBits_eq (a b : Octet) :
    differingBits a b =
      ((List.finRange 8).filter fun i => a.getLsbD i.val != b.getLsbD i.val).length := by
  rw [differingBits, ← List.map_coe_finRange_eq_range, List.filter_map, List.length_map]
  congr 2
  funext i
  simp

end Sys2Proof.Machine

section

open Sys2Proof Sys2Proof.Machine

/-- Settles O34: the period by its divisors, the seeding by the bits that the register has put out. -/
theorem probePatternAndSeeding : Obligations.ProbePatternAndSeeding := by
  refine ⟨⟨by decide, by decide, by decide, nextRegister_period, fun n => nextRegister_no_earlier⟩,
    fun r ne => seedRegister_octets ne, fun a b => ⟨fun some i => ?_, fun none => ?_⟩, differingBits_eq⟩
  · obtain ⟨j, set⟩ := some
    rw [seedRegister_of_ne]
    · simp
    · intro zero
      simpa [set] using congrArg (fun x => x.getLsbD j.val) zero
  · refine seedRegister_of_zero (BitVec.eq_of_getLsbD_eq fun i stage => ?_)
    simpa [stage] using none ⟨i, stage⟩

end
end

section
/-! The end of a probe (R87, R88, R71): the verdict, what the health monitor does with it, and the checker after it. -/

namespace Sys2Proof.Machine

namespace State

variable {s : State}

/-! ## The checker through a verdict -/

theorem cancelProbe_checker_of_idle {p : Port} (idle : s.checker.state = .idle)
    (unqueued : ∀ e ∈ s.checker.queue, e.port ≠ p) : (s.cancelProbe p).checker = s.checker := by
  have unserved : ¬ s.checker.runsOn p = true := by simp [runsOn_iff, idle, CheckerState.entry]
  have kept : s.checker.queue.filter (fun e => decide (e.port ≠ p)) = s.checker.queue :=
    List.filter_eq_self.mpr fun e member => by simpa using unqueued e member
  rw [cancelProbe, if_neg unserved, kept]
  rfl

theorem compareScore_checker_of_idle {p : Port} (idle : s.checker.state = .idle)
    (unqueued : ∀ e ∈ s.checker.queue, e.port ≠ p) : (s.compareScore p).checker = s.checker := by
  obtain leaves | suspects | back | same := compareScore_cases s p
  · have checker := s.departed_checker p .down
    rw [leaves, leaveService_eq, (latchIfLost_frame _).2.2.2.2.2.2.2.2.1,
      cancelProbe_checker_of_idle (by rw [checker, idle]) (by rwa [checker]), checker]
  · rw [suspects]
    simp
  · rw [back]
    exact cancelProbe_checker_of_idle (s := s.setPort p _) idle unqueued
  · rw [same]

/-! ## What the health monitor does with a verdict (R71, R88) -/

theorem actOnVerdict_of_recovered {p : Port} (probing : (s.port p).state = .probing) :
    s.actOnVerdict ⟨p, .recovery⟩ true = s.enterUp p := by
  simp only [actOnVerdict, probing, if_true]

theorem actOnVerdict_of_unrecovered {p : Port} (probing : (s.port p).state = .probing) :
    s.actOnVerdict ⟨p, .recovery⟩ false =
      s.setPort p { s.port p with
        state := .down, q := 0, h := scored (s.port p).h (s.param .probeFailWeight) } := by
  simp only [actOnVerdict, probing, addScore, Bool.false_eq_true, if_false, setPort_twice, port_setPort_self]
  rfl

theorem actOnVerdict_of_demandPassed (s : State) (p : Port) : s.actOnVerdict ⟨p, .demand⟩ true = s := by
  cases state : (s.port p).state <;> simp only [actOnVerdict, state, if_true]

/-- A score raised in LOOPBACK is not compared, so the failure of a DEMAND probe has one form. -/
theorem actOnVerdict_of_demandFailed {p : Port} (takes : (s.port p).state.takesDemand = true) :
    s.actOnVerdict ⟨p, .demand⟩ false = (s.addScore p (s.param .probeFailWeight)).compareScore p := by
  cases state : (s.port p).state with
  | up | suspect => simp only [actOnVerdict, state, Bool.false_eq_true, if_false]
  | loopback ready v =>
    rw [compareScore_of_out (.inr (.inr (by simp [addScore, state, PortState.looped])))]
    simp only [actOnVerdict, state, Bool.false_eq_true, if_false]
  | down | awaitProbe | probing | disabled => simp [state, PortState.takesDemand] at takes

theorem addScore_port_self (s : State) (p : Port) (w : Nat) :
    (s.addScore p w).port p = { s.port p with h := scored (s.port p).h w } := port_setPort_self s p _

/-- R71, R62: the counts that a comparison leaves. -/
theorem compareScore_counts (s : State) (p : Port) : ((s.compareScore p).port p).counts =
    { (s.port p).counts with down := ((s.compareScore p).port p).counts.down } := by
  obtain ⟨-, fae, ccf, ferd, los, overrun⟩ := s.compareScore_port_score p p
  dsimp only
  rw [← fae, ← ccf, ← ferd, ← los, ← overrun]

end State

/-- The card as the health monitor finds the verdict of a probe: raised, and the checker IDLE. -/
structure VerdictFound (s v : State) (e : ProbeEntry) (n : Nat) (pass : Bool) : Prop where
  ports : v.ports = s.ports
  routes : v.routes = s.routes
  sweep : v.sweep = s.sweep
  params : v.params = s.params
  handed : v.handed = { s.handed with occurrences := s.handed.occurrences ++ [.probeResult e.port n pass] }
  idle : v.checker.state = .idle
  queue : v.checker.queue = s.checker.queue
  cleared : v.checker.seeds = [] ∧ v.checker.compared = 0 ∧ v.checker.errors = 0
  unqueued : ∀ x ∈ v.checker.queue, x.port ≠ e.port
  recovering : e.kind = .recovery → (v.port e.port).state = .probing
  demanded : e.kind = .demand → (v.port e.port).state.takesDemand = true
  core : e.kind = .demand → ProbeCore v

namespace VerdictFound

open State

variable {s v : State} {e : ProbeEntry} {n : Nat} {pass : Bool}

theorem port (found : VerdictFound s v e n pass) (p : Port) : v.port p = s.port p := port_congr found.ports p

theorem param (found : VerdictFound s v e n pass) (x : Param) : v.param x = s.param x :=
  param_congr found.params x

/-- R88: what the health monitor does is at the port of the entry; the checker stays IDLE. -/
theorem acted (found : VerdictFound s v e n pass) :
    (v.actOnVerdict e pass).checker = v.checker ∧ HandsOn v.handed (v.actOnVerdict e pass).handed := by
  obtain ⟨p, kind⟩ := e
  cases kind with
  | recovery =>
    have probing := found.recovering rfl
    cases pass with
    | true =>
      rw [actOnVerdict_of_recovered probing]
      exact ⟨by simp, enterUp_handsOn v p⟩
    | false =>
      rw [actOnVerdict_of_unrecovered probing]
      exact ⟨rfl, .refl _⟩
  | demand =>
    cases pass with
    | true =>
      rw [actOnVerdict_of_demandPassed]
      exact ⟨rfl, .refl _⟩
    | false =>
      rw [actOnVerdict_of_demandFailed (p := p) (found.demanded rfl)]
      exact ⟨compareScore_checker_of_idle (s := v.addScore p _) found.idle found.unqueued,
        compareScore_handsOn (v.addScore p _) p⟩

/-- The taking of the next entry leaves the port of the entry served. -/
theorem port_taken (found : VerdictFound s v e n pass) :
    (v.actOnVerdict e pass).takeProbe.port e.port = (v.actOnVerdict e pass).port e.port :=
  takeProbe_port_of_unqueued (by rw [found.acted.1]; exact found.unqueued)

/-- R87: the checker after the probe. -/
theorem checker_taken (found : VerdictFound s v e n pass) :
    (s.checker.queue = [] → (v.actOnVerdict e pass).takeProbe.checker = v.checker) ∧
    ∀ e' l, s.checker.queue = e' :: l →
      (v.actOnVerdict e pass).takeProbe.checker =
        { state := .seeding e', generator := 0x7FF#11, check := 0x7FF#11, seeds := []
          compared := 0, errors := 0, length := s.param .probeLen
          limit := s.param .probeMaxErr, queue := l, started := false, returned := none } ∧
      (e'.kind = .recovery → ((v.actOnVerdict e pass).takeProbe.port e'.port).state = .probing) := by
  obtain ⟨checker, -⟩ := found.acted
  have param (x : Param) : (v.actOnVerdict e pass).param x = s.param x :=
    param_congr ((actOnVerdict_frame (s := v) e pass).2.2.2.2.2.2.2.1.trans found.params) x
  refine ⟨fun empty => ?_, fun e' l front => ?_⟩
  · rw [takeProbe_of_empty _ (by rw [checker, found.queue, empty]), checker]
  · rw [takeProbe_of_entry _ (by rw [checker, found.idle]) (by rw [checker, found.queue, front]), param, param]
    refine ⟨rfl, fun recovery => ?_⟩
    simp [State.port, recovery]

/-- R87, R88, R71: what the completion of a probe does. -/
theorem given (found : VerdictFound s v e n pass) :
    VerdictGiven s (v.actOnVerdict e pass).takeProbe e n pass := by
  obtain ⟨checker, handsOn⟩ := found.acted
  obtain ⟨stays, takes⟩ := found.checker_taken
  have routes : (v.actOnVerdict e pass).takeProbe.routes = (v.actOnVerdict e pass).routes := by simp
  have handed : (v.actOnVerdict e pass).takeProbe.handed = (v.actOnVerdict e pass).handed := by simp
  obtain ⟨p, kind⟩ := e
  have own : (v.actOnVerdict ⟨p, kind⟩ pass).takeProbe.port p = (v.actOnVerdict ⟨p, kind⟩ pass).port p :=
    found.port_taken
  obtain ⟨seeds, compared, errors⟩ := found.cleared
  simp only [VerdictGiven, own]
  refine ⟨?raised, fun empty => ?idle, takes, ?passed, ?failed, ?demandPassed, ?demandFailed, ?looped⟩
  case idle =>
    rw [stays empty]
    exact ⟨found.idle, seeds, compared, errors, found.queue.trans empty⟩
  case raised =>
    obtain ⟨l, more⟩ := handsOn.1
    refine ⟨l, ?_⟩
    rw [handed, ← more, found.handed]
  case passed =>
    rintro rfl rfl
    rw [handed, actOnVerdict_of_recovered (p := p) (found.recovering rfl), enterUp_record, found.port]
    obtain ⟨occurrence, entry⟩ := enterUp_handed v p
    refine ⟨rfl, rfl, rfl, occurrence, entry, fun c stranded => ?_⟩
    obtain ⟨route, queued, strandedHas⟩ := enterUp_circuits v p c
    rw [strandedHas_congr (congrArg Sweep.stranded found.sweep), stranded] at route queued
    rw [route_congr found.routes] at route
    refine ⟨?_, ?_, ?_⟩
    · exact (route_congr (by simp) c).trans route
    · exact (queued_congr (by simp) c).trans (queued.trans (Bool.or_true _))
    · exact (strandedHas_congr (by simp) c).trans strandedHas
  case failed =>
    rintro rfl rfl
    rw [routes, handed, actOnVerdict_of_unrecovered (p := p) (found.recovering rfl), port_setPort_self, found.port,
      found.param]
    exact ⟨rfl, found.routes, by rw [setPort_handed, found.handed]⟩
  case demandPassed =>
    rintro rfl rfl
    rw [routes, actOnVerdict_of_demandPassed]
    exact ⟨found.port p, found.routes⟩
  case demandFailed =>
    rintro rfl rfl
    have core := found.core rfl
    have failed := addScore_port_self v p (v.param .probeFailWeight)
    rw [found.port] at failed
    rw [actOnVerdict_of_demandFailed (p := p) (found.demanded rfl)] at own ⊢
    have compared : ScoreCompared s ((v.addScore p (v.param .probeFailWeight)).compareScore p) p :=
      compareScore_scoreCompared ((addScore_probeKept _ p _).core core) found.params (by rw [failed])
        (by rw [failed]) (by rw [failed])
    have counts := compareScore_counts (v.addScore p (v.param .probeFailWeight)) p
    rw [failed] at counts
    refine ⟨?_, counts, compared.later (.inl own) (.of_eq (by simp))⟩
    rw [(compareScore_port_score (v.addScore p _) p p).1, failed, found.param]
  case looped =>
    rintro rfl rfl looped
    have loops : (v.port p).state.looped = true := by rwa [found.port]
    rw [routes, actOnVerdict_of_demandFailed (p := p) (found.demanded rfl),
      compareScore_of_out (.inr (.inr (by rw [addScore_port_self]; exact loops))), addScore_port_self, found.port,
      found.param]
    exact ⟨rfl, found.routes⟩

end VerdictFound

namespace State

variable {s : State} {e : ProbeEntry} {n : Nat}

/-- The checker once the last octet is compared. -/
def lastCompared (s : State) (e : ProbeEntry) : Checker :=
  { s.checker.compare (s.returnedOctet e.port) with returned := none }

/-- R87: the verdict of a probe whose last octet is compared. -/
theorem verdictFound (counting : s.checker.state = .counting e) (laws : ProbeLaws s) (pass : Bool) :
    VerdictFound s ((s.setChecker (s.lastCompared e)).atVerdict (.probeResult e.port n pass)) e n pass := by
  have entry : s.checker.state.entry = some e := by rw [counting]; rfl
  have core : ProbeCore (s.setChecker (s.lastCompared e)) :=
    laws.core.of_same (fun _ => Iff.rfl) (fun _ => Iff.rfl) (fun _ => id) rfl rfl
  exact
    { ports := rfl
      routes := rfl
      sweep := rfl
      params := rfl
      handed := rfl
      idle := rfl
      queue := rfl
      cleared := ⟨rfl, rfl, rfl⟩
      unqueued := laws.1.not_mem_queue ((runsOn_iff _ _).mpr ⟨e, entry, rfl⟩)
      recovering := fun recovery => (laws.2.1 e.port).2.mpr (by rw [entry, ← recovery])
      demanded := fun demand =>
        laws.2.2.1 e.port (List.mem_append_left _ (by rw [entry, ← demand]; exact List.mem_singleton.mpr rfl))
      core := fun demand => atVerdict_core (s.setChecker (s.lastCompared e)) (p := e.port)
        (show s.checker.state.entry = some ⟨e.port, .demand⟩ by rw [entry, ← demand]) core
        (.probeResult e.port n pass) }

/-- R87, R88: the octet that brings the compared count to the latched length. -/
theorem countOctet_verdict (counting : s.checker.state = .counting e)
    (last : s.checker.compared + 1 = s.checker.length) (laws : ProbeLaws s)
    (errors : n = (s.lastCompared e).errors) :
    VerdictGiven s (s.countOctet e) e n (decide (n ≤ s.checker.limit)) := by
  have limit : (s.lastCompared e).limit = s.checker.limit := rfl
  rw [countOctet_of_last s counting last, finishProbe_eq, errors, ← limit]
  exact (verdictFound counting laws _).given

end State

end Sys2Proof.Machine
section

open Sys2Proof Sys2Proof.Machine Sys2Proof.Machine.State

/-- Settles O35: PROBE_COMPLETE and the end of the period compare the same octet. -/
theorem probeVerdict : Obligations.ProbeVerdict := by
  rintro s e n pass counting started last laws errors rfl
  have verdict : VerdictGiven s (s.countOctet e) e n (decide (n ≤ s.checker.limit)) := by
    refine countOctet_verdict counting last laws ?_
    rw [errors, lastCompared]
    cases octet : s.returnedOctet e.port <;> rfl
  refine ⟨fun returned => ⟨s.countOctet e, ?_, verdict⟩, ?_⟩
  · change execProbeComplete s = _
    simp [execProbeComplete, counting, lastOctetReturned, started, last, returned]
  · rw [stepChecker_of_counting s started counting]
    exact verdict

end
end

section
/-! INJECT (R92, R94): one line event at a looped port, and the request. -/

namespace Sys2Proof.Machine

namespace State

variable {s : State}

/-! ## The verdict compared (R92) -/

variable {p : Port} {ready : Bool} {v : Verdict} {onset : Bool}

theorem compareVerdict_of_lost (standing : v ≠ .down) (lost : onset = true ∨ s.param .downAt ≤ (s.port p).h) :
    s.compareVerdict p ready v onset = (s.setVerdict p ready .down 0).raise (.pathDown p true) := by
  have met : (onset || decide (s.param .downAt ≤ (s.port p).h)) = true := by simpa using lost
  cases v with
  | up | suspect => simp only [compareVerdict, met, if_true]
  | down => exact absurd rfl standing

theorem compareVerdict_of_suspects (low : (s.port p).h < s.param .downAt)
    (reached : s.param .suspectAt ≤ (s.port p).h) :
    s.compareVerdict p ready .up false =
      (s.setVerdict p ready .suspect (s.port p).q).raise (.pathSuspect p true) := by
  simp [compareVerdict, not_le.mpr low, reached]

theorem compareVerdict_of_low (low : (s.port p).h < s.param .downAt)
    (stays : (s.port p).h < s.param .suspectAt ∨ v = .suspect) : s.compareVerdict p ready v false = s := by
  cases v with
  | up =>
    have lower : (s.port p).h < s.param .suspectAt := stays.resolve_right (by simp)
    simp [compareVerdict, not_le.mpr low, not_le.mpr lower]
  | suspect => simp [compareVerdict, not_le.mpr low]
  | down => rfl

theorem compareVerdict_of_down : s.compareVerdict p ready .down onset = s := rfl

/-- What a comparison of the verdict can change: the state and Q of its port, and the occurrences. -/
theorem compareVerdict_shape (looped : (s.port p).state = .loopback ready v) :
    ∃ v' n o, s.compareVerdict p ready v onset =
      { s with
        ports := s.ports.set p { s.port p with state := .loopback ready v', q := n }
        handed := { s.handed with occurrences := s.handed.occurrences ++ o } } := by
  have same : s = { s with
      ports := s.ports.set p { s.port p with state := .loopback ready v, q := (s.port p).q }
      handed := { s.handed with occurrences := s.handed.occurrences ++ [] } } := by
    rw [← looped, List.append_nil]
    exact (setPort_self s p).symm
  unfold compareVerdict
  dsimp only
  cases v with
  | up =>
    dsimp only
    split_ifs
    · exact ⟨.down, 0, _, rfl⟩
    · exact ⟨.suspect, (s.port p).q, _, rfl⟩
    · exact ⟨.up, (s.port p).q, [], same⟩
  | suspect =>
    dsimp only
    split_ifs
    · exact ⟨.down, 0, _, rfl⟩
    · exact ⟨.suspect, (s.port p).q, [], same⟩
  | down => exact ⟨.down, (s.port p).q, [], same⟩

/-! ## One line event (R92) -/

variable {q : Port} {e : LineEvent}

/-- The record of a looped port once a line event has reached its score and its count. -/
def fedRecord (s : State) (q : Port) : LineEvent → PortRecord
  | .losOnset => onsetRecord (s.port q)
  | e => { s.port q with h := scored (s.port q).h (s.weight e), counts := (s.port q).counts.count e }

theorem fedRecord_state (s : State) (q : Port) (e : LineEvent) : (s.fedRecord q e).state = (s.port q).state := by
  cases e <;> rfl

theorem loopEvent_of_losEnd (looped : (s.port q).state = .loopback ready v) :
    s.loopEvent q .losEnd = s.setPort q { s.port q with losHold := false } :=
  s.loopEvent_of_looped looped .losEnd

theorem loopEvent_of_fed (looped : (s.port q).state = .loopback ready v) (fed : e ≠ .losEnd) :
    s.loopEvent q e =
      (s.setPort q (s.fedRecord q e)).compareVerdict q ready v (decide (e = .losOnset)) := by
  rw [s.loopEvent_of_looped looped]
  cases e with
  | losEnd => exact absurd rfl fed
  | losOnset => rfl
  | fae | ccf | ferd =>
    simp only [countEvent, addScore, setPort_twice, port_setPort_self]
    rfl

/-- What a line event fed to a looped port can change: its record, and the occurrences. -/
theorem loopEvent_shape (looped : (s.port q).state = .loopback ready v) (fed : e ≠ .losEnd) :
    ∃ v' n o, s.loopEvent q e =
      { s with
        ports := s.ports.set q { s.fedRecord q e with state := .loopback ready v', q := n }
        handed := { s.handed with occurrences := s.handed.occurrences ++ o } } := by
  obtain ⟨v', n, o, shape⟩ := compareVerdict_shape (s := s.setPort q (s.fedRecord q e)) (p := q)
    (ready := ready) (v := v) (onset := decide (e = .losOnset))
    (by rw [port_setPort_self, fedRecord_state, looped])
  refine ⟨v', n, o, ?_⟩
  rw [loopEvent_of_fed looped fed, shape, port_setPort_self]
  simp only [setPort, Vector.set_set]

/-- R92: the score, the counts and the hold after a line event. -/
theorem loopEvent_record (looped : (s.port q).state = .loopback ready v) (fed : e ≠ .losEnd) :
    ((s.loopEvent q e).port q).h = (s.fedRecord q e).h ∧
      ((s.loopEvent q e).port q).counts = (s.fedRecord q e).counts ∧
      ((s.loopEvent q e).port q).losHold = (s.fedRecord q e).losHold := by
  obtain ⟨v', n, o, shape⟩ := loopEvent_shape looped fed
  simp [shape, State.port]

/-! ## The request (R94) -/

theorem injected_eq (s : State) (q : Port) (e : LineEvent) (n : Nat) :
    s.injected q e n = (fun x => x.loopEvent q e)^[n] s := by
  induction n generalizing s with
  | zero => rfl
  | succ n ih => exact ih (s.loopEvent q e)

end State

theorem lineEventOf_of_beyond {k : Octet} (beyond : 4 < k.toNat) : lineEventOf k = none := by
  unfold lineEventOf
  split <;> first | rfl | omega

theorem injectionOf_of_range {a k n : Octet} (range : 7 < a.toNat ∨ 4 < k.toNat ∨ n = 0) :
    injectionOf [0x23, a, k, n] = none := by
  obtain port | event | rfl := range
  · simp [injectionOf, octetFin, show ¬ a.toNat < 8 by omega]
  · simp [injectionOf, lineEventOf_of_beyond event]
  · simp [injectionOf]

theorem injectionOf_of_named {a k n : Octet} {q : Port} {e : LineEvent} (port : [a] = one q.val)
    (event : lineEventOf k = some e) (some : n ≠ 0) :
    injectionOf [0x23, a, k, n] = .some { port := q, event := e, count := n.toNat } := by
  have named : octetFin 8 a = .some q := (octetFin_eq_some_iff (by decide)).mpr (List.cons.inj port).1
  have times : 1 ≤ n.toNat := by
    by_contra none
    exact some (BitVec.eq_of_toNat_eq (by simpa using none))
  simp [injectionOf, named, event, times]

theorem answerInject_of_named (s : State) (p : Port) {a k n : Octet} {q : Port} {e : LineEvent}
    (port : [a] = one q.val) (event : lineEventOf k = some e) (some : n ≠ 0) :
    answerInject s p [0x23, a, k, n] =
      if !s.trusted p 0 then refuse s .denied
      else if !(s.port q).state.looped then refuse s .state
      else accept (s.injected q e n.toNat) ((s.injected q e n.toNat).portReport q) := by
  unfold answerInject
  rw [injectionOf_of_named port event some]

theorem exec_inject (phase : EnginePhase) (s : State) :
    exec (.inject phase) s = .next (s.serve phase (kindIs 0x23) answerInject) := rfl

end Sys2Proof.Machine

section

open Sys2Proof Sys2Proof.Machine Sys2Proof.Machine.State

/-- Settles O37: the checks of the request, then one event by its kind and the verdict it finds. -/
theorem injectFeedsLoopedPort : Obligations.InjectFeedsLoopedPort := by
  refine ⟨fun s p lost a k n hh => ⟨fun range => ?_, fun q e port event some => ⟨fun tier => ?_,
    fun tier line => ?_, fun tier looped u taken => ?_⟩⟩, ?_⟩
  · exact exec_refused hh (exec_inject .run s) (kindIs_cons _ _)
      (by simp only [answerInject, injectionOf_of_range range])
  · have above : ¬ s.trusted p 0 = true := by
      rw [trusted_iff]
      exact fun low => tier (le_bot_iff.mp low)
    exact exec_refused hh (exec_inject .run s) (kindIs_cons _ _)
      ((answerInject_of_named s p port event some).trans (if_pos (by simp [above])))
  · have trusted : s.trusted p 0 = true := (trusted_iff 0).mpr tier.le
    exact exec_refused hh (exec_inject .run s) (kindIs_cons _ _)
      ((answerInject_of_named s p port event some).trans 
        ((if_neg (by simp [trusted])).trans (if_pos (by simp [line]))))
  · have trusted : s.trusted p 0 = true := (trusted_iff 0).mpr tier.le
    rw [← injected_eq] at taken
    subst taken
    exact exec_done hh (exec_inject .run s) (kindIs_cons _ _)
      (congrArg Engine.held (s.injected_events q e n.toNat).2)
      ((answerInject_of_named s p port event some).trans 
        ((if_neg (by simp [trusted])).trans (if_neg (by simp [looped]))))
  · rintro s q ready v e t looped rfl
    by_cases ended : e = .losEnd
    · subst ended
      rw [loopEvent_of_losEnd looped]
      refine ⟨rfl, fun p ne => port_setPort_ne s ne _, by simp, by simp, by simp, by simp,
        fun _ => ⟨port_setPort_self s q _, rfl⟩, by simp, by simp, by simp, fun down => ⟨?_, rfl⟩⟩
      rw [port_setPort_self, ← down]
      exact looped
    · obtain ⟨h, counts, hold⟩ := loopEvent_record looped ended
      have compared := loopEvent_of_fed looped ended
      have fed : (s.setPort q (s.fedRecord q e)).port q = s.fedRecord q e := port_setPort_self s q _
      have state : ((s.setPort q (s.fedRecord q e)).port q).state = .loopback ready v := by
        rw [fed, fedRecord_state, looped]
      refine ⟨?frame, fun p ne => ?others, ?fae, ?ccf, ?ferd, ?onset, fun h => absurd h ended, ?lost, ?suspects, ?low,
        ?down⟩
      case frame =>
        obtain ⟨v', n, o, shape⟩ := loopEvent_shape looped ended
        rw [shape]
      case others =>
        obtain ⟨v', n, o, shape⟩ := loopEvent_shape looped ended
        rw [shape]
        exact port_setPort_ne s ne _
      case fae | ccf | ferd =>
        rintro rfl
        rw [h, counts]
        exact ⟨rfl, rfl⟩
      case onset =>
        rintro rfl
        rw [h, counts, hold]
        exact ⟨rfl, rfl, rfl⟩
      case lost =>
        intro _ standing lost
        rw [h, ← fed] at lost
        rw [compared, compareVerdict_of_lost standing (lost.imp_left fun onset => decide_eq_true onset)]
        simp [raise, setVerdict, State.port]
      case suspects =>
        rintro _ onset rfl low reached
        rw [h, ← fed] at low reached
        rw [compared, decide_eq_false onset, compareVerdict_of_suspects low reached]
        simp [raise, setVerdict, State.port]
      case low =>
        intro _ onset low stays standing
        rw [h, ← fed] at low stays
        rw [compared, decide_eq_false onset, compareVerdict_of_low low stays, state]
        exact ⟨rfl, rfl⟩
      case down =>
        rintro rfl
        rw [compared, compareVerdict_of_down, state]
        exact ⟨rfl, rfl⟩

end
end

section
/-! DISABLE, LOOPBACK ON and LOOPBACK OFF of SET PORT (R79, R80, R91, R95). -/

namespace Sys2Proof.Machine

namespace State

variable {s : State}

/-! ## A cancelled entry (R89) -/

theorem takeProbe_entries (s : State) :
    ∀ x ∈ probeEntries s.takeProbe.checker, x ∈ probeEntries s.checker := by
  intro x member
  cases idle : s.checker.state with
  | seeding e | counting e => rwa [takeProbe_of_busy s (by simp [idle])] at member
  | idle =>
    cases queue : s.checker.queue with
    | nil => rwa [takeProbe_of_empty s queue] at member
    | cons e rest =>
      rw [takeProbe_of_entry s idle queue] at member
      simp only [probeEntries, CheckerState.entry, Option.toList_some, List.singleton_append] at member
      simp only [probeEntries, idle, CheckerState.entry, Option.toList_none, List.nil_append, queue]
      exact member

theorem cancelProbe_no_entry (core : ProbeCore s) {t : State} {p : Port} (checker : t.checker = s.checker) :
    ∀ x ∈ probeEntries (t.cancelProbe p).checker, x.port ≠ p := by
  unfold cancelProbe
  rw [checker]
  split
  case isTrue served =>
    intro x member
    have before := takeProbe_entries (t.setChecker s.checker.toIdle) x member
    exact core.1.not_mem_queue served x (by simpa [probeEntries, Checker.toIdle, CheckerState.entry] using before)
  case isFalse unserved =>
    intro x member
    simp only [setChecker_checker, probeEntries, List.mem_append, Option.mem_toList] at member
    obtain entry | queued := member
    · rintro rfl
      exact unserved ((runsOn_iff _ _).mpr ⟨x, entry, rfl⟩)
    · exact of_decide_eq_true (List.mem_filter.mp queued).2

/-- A port whose record is written as its entry is cancelled keeps that record. -/
theorem setPort_cancelProbe_port (core : ProbeCore s) (p : Port) (r : PortRecord) :
    ((s.setPort p r).cancelProbe p).port p = r :=
  (cancelProbe_port_self core (t := s.setPort p r) rfl).trans (port_setPort_self s p r)

theorem leaveService_no_entry (core : ProbeCore s) (p : Port) (x : PortState) :
    ∀ e ∈ probeEntries (s.leaveService p x).checker, e.port ≠ p := by
  rw [leaveService_eq, (latchIfLost_frame _).2.2.2.2.2.2.2.2.1]
  exact cancelProbe_no_entry core (s.departed_checker p x)

/-! ## A departure for DISABLED or LOOPBACK (R72) -/

theorem settleSweep_downEntries (s : State) : s.settleSweep.handed.downEntries = s.handed.downEntries := by
  unfold settleSweep
  split_ifs <;> rfl

/-- R72: PATH DOWN, and no DOWN entry. -/
theorem leaveService_handed_of_ne {p : Port} {x : PortState} (ne : x ≠ .down) :
    Occurrence.pathDown p false ∈ (s.leaveService p x).handed.occurrences ∧
      (s.leaveService p x).handed.downEntries = s.handed.downEntries := by
  rw [leaveService_handed, departed, if_neg ne]
  refine ⟨(portDeparture_handsOn _ p).occurrence (by simp [raise]), ?_⟩
  unfold portDeparture
  exact settleSweep_downEntries _

theorem leaveService_slots (s : State) (p : Port) (x : PortState) :
    (s.leaveService p x).usedCount p = 0 ∧ ∀ n : Slot, (s.leaveService p x).holder ⟨p, n⟩ = none := by
  obtain ⟨-, holder, used, -⟩ := leaveService_departure s p x
  exact ⟨by rw [used, if_pos rfl], fun n => by rw [holder, departSlot, if_pos rfl]⟩

/-- R13: the circuits routed on the port are displaced. -/
theorem leaveService_displaces {p : Port} (x : PortState) {c : Circuit} {cur : CurrentSet}
    (routed : (s.route c).standing = .routed cur) (here : cur.path.port = p) :
    (s.leaveService p x).route c = { s.route c with standing := .displaced } ∧
      (s.leaveService p x).queued c = true := by
  obtain ⟨route, -, -, queued, -⟩ := leaveService_departure s p x
  obtain ⟨departs, joins⟩ := departRoute_of_routed_on routed here
  exact ⟨by rw [route, departs], by rw [queued, joins, Bool.or_true]⟩

theorem departedRecord_of_ne (r : PortRecord) {x : PortState} (ne : x ≠ .down) :
    departedRecord r x = { r with state := x, failBack := none } := if_neg ne

/-! ## DISABLE (R79) -/

variable {q : Port}

theorem disablePort_of_service (service : s.inService q = true) :
    s.disablePort q = s.leaveService q .disabled := by
  obtain up | suspect := (inService_iff s q).mp service
  · simp only [disablePort, up]
  · simp only [disablePort, suspect]

theorem disablePort_of_looped (looped : (s.port q).state.looped = true) :
    s.disablePort q =
      ((s.setPort q { s.port q with state := .disabled, losHold := false }).cancelProbe q).returnToLine q := by
  obtain ⟨ready, v, state⟩ := looped_iff.mp looped
  simp only [disablePort, state]

/-- A port out of service and on its line leaves the circuits, the lists and the receivers. -/
theorem disablePort_of_out (core : ProbeCore s) (service : s.inService q = false)
    (line : (s.port q).state.looped = false) :
    (s.disablePort q).port q = { s.port q with state := .disabled } ∧ (s.disablePort q).routes = s.routes ∧
      (s.disablePort q).occ = s.occ ∧ (s.disablePort q).handed = s.handed ∧ (s.disablePort q).rx = s.rx := by
  have self := setPort_cancelProbe_port core q { s.port q with state := .disabled }
  cases state : (s.port q).state with
  | up | suspect => simp [inService, state, PortState.inService] at service
  | loopback => simp [state, PortState.looped] at line
  | awaitProbe | probing =>
    simp only [disablePort, state]
    exact ⟨self, by simp, by simp, by simp, by simp⟩
  | down | disabled =>
    simp only [disablePort, state]
    exact ⟨port_setPort_self s q _, rfl, rfl, rfl, rfl⟩

/-- R79: the record of a port that is disabled, and its probe entry. -/
theorem disablePort_reads (core : ProbeCore s) (q : Port) :
    ((s.disablePort q).port q).state = .disabled ∧ ((s.disablePort q).port q).h = (s.port q).h ∧
      ((s.disablePort q).port q).q = (s.port q).q ∧ ((s.disablePort q).port q).counts = (s.port q).counts ∧
      (s.disablePort q).handed.downEntries = s.handed.downEntries ∧
      ∀ x ∈ probeEntries (s.disablePort q).checker, x.port ≠ q := by
  have after := (s.disablePort_probeKept q).core core
  have entries (disabled : ((s.disablePort q).port q).state = .disabled) :=
    after.no_entry (p := q) (by simp [disabled]) (by simp [disabled]) (by simp [disabled, PortState.takesDemand])
  suffices record : ((s.disablePort q).port q).state = .disabled ∧
      ((s.disablePort q).port q).h = (s.port q).h ∧ ((s.disablePort q).port q).q = (s.port q).q ∧
      ((s.disablePort q).port q).counts = (s.port q).counts ∧
      (s.disablePort q).handed.downEntries = s.handed.downEntries by
    obtain ⟨disabled, h, quiet, counts, downs⟩ := record
    exact ⟨disabled, h, quiet, counts, downs, entries disabled⟩
  clear after entries
  cases service : s.inService q with
  | true =>
    have ne : PortState.disabled ≠ .down := by simp
    rw [disablePort_of_service service, leaveService_port_self core, departedRecord_of_ne _ ne]
    exact ⟨rfl, rfl, rfl, rfl, (leaveService_handed_of_ne ne).2⟩
  | false =>
    cases line : (s.port q).state.looped with
    | true =>
      rw [disablePort_of_looped line, returnToLine, setPathRx_port, setPort_cancelProbe_port core]
      exact ⟨rfl, rfl, rfl, rfl, by simp⟩
    | false =>
      obtain ⟨record, -, -, handed, -⟩ := disablePort_of_out core service line
      rw [record, handed]
      exact ⟨rfl, rfl, rfl, rfl, rfl⟩

/-! ## The receiver that returns to its line (R80, R95) -/

theorem returnToLine_pathRx (s : State) (q : Port) :
    ((s.returnToLine q).pathRx q).farEndReady = false ∧ ((s.returnToLine q).pathRx q).formRun = 0 ∧
      ((s.returnToLine q).pathRx q).framer.badRun = 0 ∧
      startsBy (s.pathRx q).framer.measure ((s.returnToLine q).pathRx q).framer.state := by
  rw [returnToLine, pathRx_setPathRx_self]
  exact ⟨rfl, rfl, rfl, startsBy_start _⟩

/-! ## LOOPBACK ON (R80, R91) -/

theorem loopPort_of_service (service : s.inService q = true) (ready : Bool) :
    s.loopPort q ready = s.leaveService q (.loopback ready .up) := by
  obtain up | suspect := (inService_iff s q).mp service
  · simp only [loopPort, up]
  · simp only [loopPort, suspect]

theorem loopPort_of_out (service : s.inService q = false) (ready : Bool) :
    s.loopPort q ready = (s.setPort q { s.port q with state := .loopback ready .up }).cancelProbe q := by
  cases state : (s.port q).state with
  | up | suspect => simp [inService, state, PortState.inService] at service
  | down | awaitProbe | probing | disabled | loopback => simp only [loopPort, state]

/-- R91: what LOOPBACK ON leaves of the port, of its probe entry and of the lists. -/
theorem loopPort_reads (core : ProbeCore s) (q : Port) (ready : Bool) :
    ((s.loopPort q ready).port q).state = .loopback ready .up ∧
      ((s.loopPort q ready).port q).counts = (s.port q).counts ∧
      (∀ x ∈ probeEntries (s.loopPort q ready).checker, x.port ≠ q) ∧
      (s.loopPort q ready).handed.downEntries = s.handed.downEntries := by
  cases service : s.inService q with
  | true =>
    have ne : PortState.loopback ready .up ≠ .down := by simp
    rw [loopPort_of_service service, leaveService_port_self core, departedRecord_of_ne _ ne]
    exact ⟨rfl, rfl, leaveService_no_entry core q _, (leaveService_handed_of_ne ne).2⟩
  | false =>
    rw [loopPort_of_out service, setPort_cancelProbe_port core]
    exact ⟨rfl, rfl, cancelProbe_no_entry core rfl, by simp⟩

theorem loopPort_engine (s : State) (q : Port) (ready : Bool) : (s.loopPort q ready).engine = s.engine := by
  cases service : s.inService q with
  | true =>
    rw [loopPort_of_service service]
    simp
  | false =>
    rw [loopPort_of_out service]
    simp

/-- R91, R57, R164: the test begins on a port that has been looped, and the port stops serving. -/
def testBegun (w : State) (q : Port) (ready : Bool) : State := ((w.beginTest q).enterLoop q ready).endServing q

theorem loopbackOn_eq (s : State) (q : Port) (ready : Bool) :
    s.loopbackOn q ready = ((s.takeAllEnded q).loopPort q ready).testBegun q ready := rfl

theorem testBegun_port (w : State) (q : Port) (ready : Bool) :
    (w.testBegun q ready).port q = { w.port q with h := 0, q := 0, losHold := false } :=
  port_setPort_self w q _

theorem testBegun_kept (w : State) (q : Port) (ready : Bool) :
    (w.testBegun q ready).handed = w.handed ∧ (w.testBegun q ready).routes = w.routes ∧
      (w.testBegun q ready).checker = w.checker ∧ (w.testBegun q ready).occ = w.occ :=
  ⟨rfl, rfl, rfl, rfl⟩

theorem testBegun_pathRx (w : State) (q : Port) (ready : Bool) :
    ((w.testBegun q ready).pathRx q).framer.state = .aligned ∧
      ((w.testBegun q ready).pathRx q).farEndReady = ready ∧ ((w.testBegun q ready).pathRx q).formRun = 0 := by
  have self : (w.testBegun q ready).pathRx q = _ := pathRx_setPathRx_self (w.beginTest q) q _
  rw [self]
  exact ⟨rfl, rfl, rfl⟩

theorem testBegun_control (w : State) (q : Port) (ready : Bool) :
    ((w.testBegun q ready).control q).requests = [] ∧ ((w.testBegun q ready).control q).responses = [] ∧
      ((w.testBegun q ready).control q).rx = .hunt := by
  have self : (w.testBegun q ready).control q = _ := control_setControl_self ((w.beginTest q).enterLoop q ready) q _
  rw [self]
  exact ⟨rfl, rfl, rfl⟩

/-! ## The answer to a request that its own execution orphans (R164) -/

/-- R164, R165: a request that the execution may have orphaned. -/
theorem execute_accept_of_orphan {h h' : HeldRequest} {act : State → Port → List Octet → Answer} {u : State}
    {data : List Octet} (held : u.engine.held = some h') (accepts : act s h.port h.body = accept u data) :
    s.execute h act = u.answered h.port h'.orphaned (h.body.headD 0) .done data := by
  simp [execute, accepts, accept, giveResponse_eq_answered, responseLost, held]

theorem orphan_orphaned (p q : Port) (body : List Octet) (lost : Bool) :
    (orphan ⟨p, body, lost⟩ q).orphaned = (lost || decide (p = q)) := by
  by_cases same : p = q <;> simp [orphan, same]

theorem loopbackOn_held (s : State) (q : Port) (ready : Bool) :
    (s.loopbackOn q ready).engine.held = s.engine.held.map fun h => orphan h q := by
  have engine : ((s.takeAllEnded q).loopPort q ready).engine = s.engine :=
    (loopPort_engine _ q ready).trans (by simp)
  have held : (s.loopbackOn q ready).engine.held =
      ((s.takeAllEnded q).loopPort q ready).engine.held.map fun h => orphan h q := rfl
  rw [held, engine]

theorem exec_loopbackOn {p : Port} {lost ready : Bool}
    (held : s.engine.held = some ⟨p, 0x21 :: (one q.val ++ [2, if ready then 0 else 1]), lost⟩)
    (may : s.maySet p q = true) (enabled : (s.port q).state ≠ .disabled) :
    exec (.setPortLoopbackOn .run) s =
      .next ((s.loopbackOn q ready).answered p (lost || decide (p = q)) 0x21 .done
        ((s.loopbackOn q ready).portReport q)) := by
  have row := exec_setPortRow .loopbackOn .run s
  rw [serve_run_of_held s held (setPortIs_of_names (a := .loopbackOn) (q := q) ⟨ready, rfl⟩)] at row
  refine row.trans (congrArg Host.Outcome.next ?_)
  rw [← orphan_orphaned]
  refine execute_accept_of_orphan (h := ⟨p, 0x21 :: (one q.val ++ [2, if ready then 0 else 1]), lost⟩)
    (by rw [loopbackOn_held, held]; rfl) ?_
  refine (answerLoopbackOn_eq s p q 0x21 ready).trans ?_
  rw [decide_eq_true enabled, setPortAs_done may]

end State

end Sys2Proof.Machine

section

open Sys2Proof Sys2Proof.Machine Sys2Proof.Machine.State

/-- Settles O51: the departure or the cancellation that each action brings, then the receiver and the control slot. -/
theorem setPortDisableAndLoopback : Obligations.SetPortDisableAndLoopback := by
  refine ⟨fun s p q lost laws hh permitted enabled => ?disable, fun s p q lost args laws hh permitted =>
    ⟨fun ready body enabled v taken => ?on, fun body looped => ?off⟩⟩
  case disable =>
    have core := laws.core
    obtain ⟨state, h, quiet, counts, downs, entries⟩ := disablePort_reads core q
    refine ⟨s.disablePort q, exec_setPortRow_done (a := .disable) hh rfl ((maySet_iff s p q).mpr permitted)
      (answerDisable_eq s p q _) (decide_eq_true enabled) (by simp), state, h, quiet, counts, downs, entries,
      fun service => ?_, fun out => ?_, fun looped => ?_, fun line => ?_⟩
    · have ne : PortState.disabled ≠ .down := by simp
      obtain ⟨used, slots⟩ := leaveService_slots s q .disabled
      rw [disablePort_of_service service, leaveService_port_self core, departedRecord_of_ne _ ne]
      exact ⟨(leaveService_handed_of_ne ne).1, used, slots, rfl, fun c cur => leaveService_displaces _⟩
    · cases line : (s.port q).state.looped with
      | true =>
        rw [disablePort_of_looped line]
        exact ⟨by simp [returnToLine], by simp [returnToLine], by simp [returnToLine]⟩
      | false =>
        obtain ⟨-, routes, occ, handed, -⟩ := disablePort_of_out core out line
        exact ⟨routes, occ, handed⟩
    · rw [disablePort_of_looped looped]
      obtain ⟨ready, form, bad, starts⟩ := returnToLine_pathRx
        ((s.setPort q { s.port q with state := .disabled, losHold := false }).cancelProbe q) q
      rw [pathRx_congr (t := s) (by simp)] at starts
      refine ⟨?_, ready, form, bad, starts⟩
      rw [returnToLine, setPathRx_port, setPort_cancelProbe_port core]
    · cases service : s.inService q with
      | true =>
        rw [disablePort_of_service service]
        simp
      | false => exact (disablePort_of_out core service line).2.2.2.2
  case on =>
    subst body
    have laws' : ProbeLaws v := taken ▸ takeAllEnded_probeLaws laws q
    obtain ⟨state, counts, entries, downs⟩ := loopPort_reads laws'.core q ready
    have effect : s.loopbackOn q ready = (v.loopPort q ready).testBegun q ready := by rw [taken, loopbackOn_eq]
    have record := testBegun_port (v.loopPort q ready) q ready
    obtain ⟨aligned, readies, form⟩ := testBegun_pathRx (v.loopPort q ready) q ready
    obtain ⟨requests, responses, hunt⟩ := testBegun_control (v.loopPort q ready) q ready
    obtain ⟨handed, routes, checker, occ⟩ := testBegun_kept (v.loopPort q ready) q ready
    rw [← effect] at record aligned readies form requests responses hunt handed routes checker occ
    refine ⟨s.loopbackOn q ready, exec_loopbackOn hh ((maySet_iff s p q).mpr permitted) enabled,
      by rw [record]; exact state, by rw [record], by rw [record], by rw [record], by rw [record]; exact counts,
      aligned, readies, form, ?serving, requests, responses, hunt, by rw [checker]; exact entries,
      by rw [handed]; exact downs,
      fun service => ?departs, fun out => ?stays⟩
    case serving => simp [State.serving, record, state, PortState.looped]
    case departs =>
      have ne : PortState.loopback ready .up ≠ .down := by simp
      have left : v.loopPort q ready = v.leaveService q (.loopback ready .up) := loopPort_of_service service ready
      obtain ⟨-, slots⟩ := leaveService_slots v q (.loopback ready .up)
      rw [handed, left]
      exact ⟨(leaveService_handed_of_ne ne).1, fun n => (holder_congr (by rw [occ, left]) _).trans (slots n)⟩
    case stays =>
      rw [handed, routes, loopPort_of_out out]
      exact ⟨by simp, by simp⟩
  case off =>
    subst body
    obtain ⟨ready, form, -, starts⟩ := returnToLine_pathRx
      ((s.setPort q { s.port q with state := .down, q := 0, losHold := false }).cancelProbe q) q
    rw [pathRx_congr (t := s) (by simp)] at starts
    refine ⟨s.loopbackOff q, exec_setPortRow_done (a := .loopbackOff) hh rfl ((maySet_iff s p q).mpr permitted)
      (answerLoopbackOff_eq s p q _) looped (by simp), ?_, ready, form, starts,
      cancelProbe_no_entry (t := s.setPort q _) laws.core rfl, by simp [loopbackOff, returnToLine],
      by simp [loopbackOff, returnToLine]⟩
    rw [loopbackOff, returnToLine, setPathRx_port, setPort_cancelProbe_port laws.core]

end
end
